-- ==== Sys2Proof/Word.lean ====
section
/-! DEFINITION. The word types of the CH4816: bytes, 64-bit registers, 512-bit vectors and descriptors. -/

namespace Sys2Proof

/-- A byte. -/
abbrev Byte := BitVec 8
/-- A scalar register, special register or 64-bit memory word (R71). -/
abbrev Word := BitVec 64
/-- A vector register, a Larder line or a descriptor: 512 bits. -/
abbrev Vec := BitVec 512

end Sys2Proof
end

