-- ==== Sys2Proof/Syntax.lean ====
section
/-! DEFINITION. The commands the block takes: one constructor per row of spec/opcode_table.json, with the row's
operands, and the payload types that some of them carry. -/

namespace Sys2Proof

/-- What a reply of a Cellar module repeats of the command it answers: TAG, SECTOR and COUNT (Table 06-5). -/
structure CelEcho where
  tag : BitVec 16
  sector : BitVec 40
  count : BitVec 16
  deriving DecidableEq, Repr
/-- Header of a reply from a Cellar module (Table 06-5), OPCODE aside. -/
structure CelHdr where
  status : BitVec 8
  tag : BitVec 16
  sector : BitVec 40
  count : BitVec 16
  bad : BitVec 8
  deriving DecidableEq, Repr
/-- A lead's abort: the lead, the context, and the SEQ of the search (R245). -/
structure AbortMsg where
  src : BitVec 16
  ctx : BitVec 12
  seq : BitVec 32
  deriving DecidableEq, Repr
/-- One query of a forwarded search or of a further round: its record, its dense vector, and the lists it probes in the
round (R215, R230, R233). -/
structure QueryFwd where
  raw : List (BitVec 8)
  dense : List (BitVec 8)
  lists : List Nat
  deriving DecidableEq, Repr
/-- A result entry as packages exchange it (Table 08-7). -/
structure SEntry where
  id : BitVec 64
  dist : BitVec 16
  score : BitVec 32
  deriving DecidableEq, Repr
/-- A peer's report (R233, R244): the SEQ of the search it is of, whether its search ended otherwise than OK, the entries each query matched in the round,
and, at the end, each query's marks (bit 0 INDEX_ERR, bit 1 POISON) with its best entries. -/
structure PeerReply where
  seq : BitVec 32
  bad : Bool
  matched : List Nat
  best : Option (List (BitVec 2 × List SEntry))
  deriving DecidableEq, Repr
/-- The body of a hello flit (Table 11-2). -/
structure HelloBody where
  role : BitVec 8
  version : BitVec 8
  pod : BitVec 16
  port : BitVec 8
  plane : BitVec 8
  agents : BitVec 8
  vcMask : BitVec 8
  crReq : BitVec 16
  crRsp : BitVec 16
  crSnp : BitVec 16
  crMsg : BitVec 16
  identity : BitVec 256
  deriving DecidableEq, Repr
/-- A flit as it arrives (Table 11-3): header, slots as they are on the wire, CRC; whether it was first sent in Hello and so
belongs to no group (R288); slots that its messages on RSP, SNP and MSG take; and the codewords of forward error correction
that were corrected and not corrected since the flit before it (GLY_FEC). -/
structure Flit where
  hdr : BitVec 96
  slots : BitVec 1920
  crc : BitVec 32
  plain : Bool
  usedRsp : BitVec 8
  usedSnp : BitVec 8
  usedMsg : BitVec 8
  corr : BitVec 16
  uncorr : BitVec 16
  deriving DecidableEq, Repr
/-- A Guelyo request header (Table 11-4); the opcode is the row's. -/
structure ReqHdr where
  vc : BitVec 2
  agent : Bool
  poison : Bool
  strict : Bool
  fwd : Bool
  source : BitVec 36
  dest : BitVec 16
  comp : BitVec 20
  ctx : BitVec 12
  seg : BitVec 4
  off : BitVec 48
  len : BitVec 13
  tag : BitVec 16
  epoch : BitVec 32
  deriving DecidableEq, Repr
/-- A Guelyo response header (Table 11-5); the opcode is the row's. -/
structure RspHdr where
  vc : BitVec 2
  agent : Bool
  len : BitVec 13
  poison : Bool
  requester : BitVec 36
  responder : BitVec 16
  code : BitVec 8
  tag : BitVec 16
  deriving DecidableEq, Repr
/-- An update, set or forwarded read of a table row as it reaches its owner (R258, R260, R265): the link and header it came
with, table slot, row number, whether it sets, batch number, bag, position and stripe entry of its source, byte offset of a
read within the row, and the update row. -/
structure EmbUpd where
  l : Fin 17
  h : ReqHdr
  tab : BitVec 6
  row : Nat
  set : Bool
  batch : Nat
  bag : Nat
  pos : Nat
  src : Nat
  off : Nat
  data : List (BitVec 8)
  deriving DecidableEq, Repr
/-- The five-tuple of an IP packet: version 6, addresses, ports and protocol (SWC_MIR). -/
structure IpTuple where
  v6 : Bool
  src : BitVec 128
  dst : BitVec 128
  sport : BitVec 16
  dport : BitVec 16
  proto : BitVec 8
  deriving DecidableEq, Repr
/-- What the port finds of a received frame (R352 to R356): bytes from the destination address to the FCS, whether the FCS is
good, number of 802.1Q tags, PCP of a tag, DSCP of an IP packet; for a protected frame its association number, packet number
and whether its integrity check passed; whether it is of a kind that R356 accepts; and where it goes: switch output, owner,
whether it is an ECN-capable IP packet, and its five-tuple. -/
structure RxFrame where
  len : Nat
  fcsOk : Bool
  tags : Nat
  pcp : BitVec 3
  dscp : Option (BitVec 6)
  sec : Option (BitVec 2 × BitVec 64 × Bool)
  linkLocal : Bool
  accepted : Bool
  out : Fin 58
  owner : BitVec 20
  ecn : Bool
  ip : Option IpTuple
  deriving DecidableEq, Repr
/-- The Franan TLV of an LLDPDU (R374). -/
structure LldpTlv where
  pod : BitVec 16
  package : BitVec 8
  port : BitVec 8
  role : BitVec 8
  grade : BitVec 8
  stepping : BitVec 8
  epoch : BitVec 32
  deriving DecidableEq, Repr
/-- A map proposal as it is signed: header, body and signature (R379). -/
structure Proposal where
  data : List (BitVec 8)
  deriving DecidableEq, Repr

/-- A command: one row of the opcode table.  `u` is a unit locator `[19:0]` (die, region, cluster, unit), `t` a thread
slot of that unit; the remaining operands are the fields of the row's format.  Reserved bits that the part checks
are operands (`r1`, `r2`, `rsv`), so that an ill-formed word can be sent. -/
inductive Instr where
  /-- ADD, R78: Scalar add: d receives a + b, wrapping modulo 2^64. -/
  | add (u : BitVec 20) (t : BitVec 3) (d a b : BitVec 5)
  /-- SUB, R78: Scalar subtract: d receives a - b, wrapping. -/
  | sub (u : BitVec 20) (t : BitVec 3) (d a b : BitVec 5)
  /-- AND, R78: Scalar bitwise AND of a and b. -/
  | and_ (u : BitVec 20) (t : BitVec 3) (d a b : BitVec 5)
  /-- OR, R78: Scalar bitwise OR of a and b. -/
  | or_ (u : BitVec 20) (t : BitVec 3) (d a b : BitVec 5)
  /-- XOR, R78: Scalar bitwise XOR of a and b. -/
  | xor_ (u : BitVec 20) (t : BitVec 3) (d a b : BitVec 5)
  /-- SLL, R78: Shift a left by b[5:0]. -/
  | sll (u : BitVec 20) (t : BitVec 3) (d a b : BitVec 5)
  /-- SRL, R78: Shift a right with zero fill by b[5:0]. -/
  | srl (u : BitVec 20) (t : BitVec 3) (d a b : BitVec 5)
  /-- SRA, R78: Shift a right with sign fill by b[5:0]. -/
  | sra (u : BitVec 20) (t : BitVec 3) (d a b : BitVec 5)
  /-- SLT, R78: Set d to 1 when a < b signed, else 0. -/
  | slt (u : BitVec 20) (t : BitVec 3) (d a b : BitVec 5)
  /-- SLTU, R78: Set d to 1 when a < b unsigned, else 0. -/
  | sltu (u : BitVec 20) (t : BitVec 3) (d a b : BitVec 5)
  /-- MUL, R78: Low 64 bits of a times b. -/
  | mul (u : BitVec 20) (t : BitVec 3) (d a b : BitVec 5)
  /-- MULHU, R78: High 64 bits of the unsigned product. -/
  | mulhu (u : BitVec 20) (t : BitVec 3) (d a b : BitVec 5)
  /-- MULH, R78: High 64 bits of the signed product. -/
  | mulh (u : BitVec 20) (t : BitVec 3) (d a b : BitVec 5)
  /-- DIV, R79: Signed division toward zero, all ones for divide by zero, 36-cycle divider. -/
  | div (u : BitVec 20) (t : BitVec 3) (d a b : BitVec 5)
  /-- DIVU, R79: Unsigned division, all ones for divide by zero. -/
  | divu (u : BitVec 20) (t : BitVec 3) (d a b : BitVec 5)
  /-- REM, R79: Signed remainder with the sign of a; a when b is zero. -/
  | rem (u : BitVec 20) (t : BitVec 3) (d a b : BitVec 5)
  /-- REMU, R79: Unsigned remainder; a when b is zero. -/
  | remu (u : BitVec 20) (t : BitVec 3) (d a b : BitVec 5)
  /-- MIN, R78: Signed minimum of a and b. -/
  | min (u : BitVec 20) (t : BitVec 3) (d a b : BitVec 5)
  /-- MAX, R78: Signed maximum of a and b. -/
  | max (u : BitVec 20) (t : BitVec 3) (d a b : BitVec 5)
  /-- MINU, R78: Unsigned minimum of a and b. -/
  | minu (u : BitVec 20) (t : BitVec 3) (d a b : BitVec 5)
  /-- MAXU, R78: Unsigned maximum of a and b. -/
  | maxu (u : BitVec 20) (t : BitVec 3) (d a b : BitVec 5)
  /-- POPC, R78: Count of set bits of a; b must be s0. -/
  | popc (u : BitVec 20) (t : BitVec 3) (d a b : BitVec 5)
  /-- CLZ, R78: Leading zeros of a, 0 to 64. -/
  | clz (u : BitVec 20) (t : BitVec 3) (d a b : BitVec 5)
  /-- CTZ, R78: Trailing zeros of a, 0 to 64. -/
  | ctz (u : BitVec 20) (t : BitVec 3) (d a b : BitVec 5)
  /-- ADDI, R80: Add sign-extended imm12 to a. -/
  | addi (u : BitVec 20) (t : BitVec 3) (d a : BitVec 5) (imm : BitVec 12)
  /-- ANDI, R80: AND a with sign-extended imm12. -/
  | andi (u : BitVec 20) (t : BitVec 3) (d a : BitVec 5) (imm : BitVec 12)
  /-- ORI, R80: OR a with sign-extended imm12. -/
  | ori (u : BitVec 20) (t : BitVec 3) (d a : BitVec 5) (imm : BitVec 12)
  /-- XORI, R80: XOR a with sign-extended imm12. -/
  | xori (u : BitVec 20) (t : BitVec 3) (d a : BitVec 5) (imm : BitVec 12)
  /-- SLTI, R80: Set d when a is below imm12 signed. -/
  | slti (u : BitVec 20) (t : BitVec 3) (d a : BitVec 5) (imm : BitVec 12)
  /-- SLLI, R80: Shift a left by imm12[5:0], imm12[11:6] zero. -/
  | slli (u : BitVec 20) (t : BitVec 3) (d a : BitVec 5) (imm : BitVec 12)
  /-- SRLI, R80: Shift a right with zero fill by imm12[5:0]. -/
  | srli (u : BitVec 20) (t : BitVec 3) (d a : BitVec 5) (imm : BitVec 12)
  /-- SRAI, R80: Shift a right with sign fill by imm12[5:0]. -/
  | srai (u : BitVec 20) (t : BitVec 3) (d a : BitVec 5) (imm : BitVec 12)
  /-- LUI, R80: Set d to imm20 shifted left 12 and sign-extended. -/
  | lui (u : BitVec 20) (t : BitVec 3) (d : BitVec 5) (imm : BitVec 20)
  /-- LI, R80: Set d to imm32 sign-extended. -/
  | li (u : BitVec 20) (t : BitVec 3) (d : BitVec 5) (imm : BitVec 32) (r1 : BitVec 20)
  /-- LIH, R80: Replace d[63:32] with imm32, keeping d[31:0]. -/
  | lih (u : BitVec 20) (t : BitVec 3) (d : BitVec 5) (imm : BitVec 32) (r1 : BitVec 20)
  /-- BR, R81: Conditional branch on condition C comparing a and b. -/
  | br (u : BitVec 20) (t : BitVec 3) (c a b : BitVec 5) (off : BitVec 10)
  /-- JAL, R81: Write PC + 4 to d and jump by 4 times imm20. -/
  | jal (u : BitVec 20) (t : BitVec 3) (d : BitVec 5) (imm : BitVec 20)
  /-- JALR, R81: Write PC + 4 to d and jump to a + imm12, checking alignment. -/
  | jalr (u : BitVec 20) (t : BitVec 3) (d a : BitVec 5) (imm : BitVec 12) (f3 : BitVec 3)
  /-- SRD, R70: Copy a special register into scalar register d. -/
  | srd (u : BitVec 20) (t : BitVec 3) (d a : BitVec 5) (idx : BitVec 12)
  /-- SWR, R70: Copy scalar register a into a writable special register. -/
  | swr (u : BitVec 20) (t : BitVec 3) (d a : BitVec 5) (idx : BitVec 12)
  /-- LD, R82: Scalar load from a program address, checked and scoreboarded. -/
  | ld (u : BitVec 20) (t sz : BitVec 3) (d a : BitVec 5) (imm : BitVec 12)
  /-- ST, R82: Scalar store to a program address through the write buffer. -/
  | st (u : BitVec 20) (t sz : BitVec 3) (a b : BitVec 5) (imm : BitVec 12)
  /-- LDS, R82: Scalar load from the Shelf at issue. -/
  | lds (u : BitVec 20) (t sz : BitVec 3) (d a : BitVec 5) (imm : BitVec 12)
  /-- STS, R141: Scalar store to the Shelf, performed at the end of its issue cycle. -/
  | sts (u : BitVec 20) (t sz : BitVec 3) (a b : BitVec 5) (imm : BitVec 12)
  /-- VADD, R83: Vector wrapping add of active elements. -/
  | vadd (u : BitVec 20) (t : BitVec 3) (et : BitVec 2) (z : Bool) (pg vb va vd : BitVec 3)
  /-- VSUB, R83: Vector wrapping subtract. -/
  | vsub (u : BitVec 20) (t : BitVec 3) (et : BitVec 2) (z : Bool) (pg vb va vd : BitVec 3)
  /-- VMUL, R83: Vector low-half multiply. -/
  | vmul (u : BitVec 20) (t : BitVec 3) (et : BitVec 2) (z : Bool) (pg vb va vd : BitVec 3)
  /-- VMIN, R83: Vector signed minimum. -/
  | vmin (u : BitVec 20) (t : BitVec 3) (et : BitVec 2) (z : Bool) (pg vb va vd : BitVec 3)
  /-- VMAX, R83: Vector signed maximum. -/
  | vmax (u : BitVec 20) (t : BitVec 3) (et : BitVec 2) (z : Bool) (pg vb va vd : BitVec 3)
  /-- VMINU, R83: Vector unsigned minimum. -/
  | vminu (u : BitVec 20) (t : BitVec 3) (et : BitVec 2) (z : Bool) (pg vb va vd : BitVec 3)
  /-- VMAXU, R83: Vector unsigned maximum. -/
  | vmaxu (u : BitVec 20) (t : BitVec 3) (et : BitVec 2) (z : Bool) (pg vb va vd : BitVec 3)
  /-- VAND, R83: Vector bitwise AND. -/
  | vand (u : BitVec 20) (t : BitVec 3) (et : BitVec 2) (z : Bool) (pg vb va vd : BitVec 3)
  /-- VOR, R83: Vector bitwise OR. -/
  | vor (u : BitVec 20) (t : BitVec 3) (et : BitVec 2) (z : Bool) (pg vb va vd : BitVec 3)
  /-- VXOR, R83: Vector bitwise XOR. -/
  | vxor (u : BitVec 20) (t : BitVec 3) (et : BitVec 2) (z : Bool) (pg vb va vd : BitVec 3)
  /-- VSHL, R83: Vector shift left by vb modulo element width. -/
  | vshl (u : BitVec 20) (t : BitVec 3) (et : BitVec 2) (z : Bool) (pg vb va vd : BitVec 3)
  /-- VSHR, R83: Vector logical shift right. -/
  | vshr (u : BitVec 20) (t : BitVec 3) (et : BitVec 2) (z : Bool) (pg vb va vd : BitVec 3)
  /-- VSRA, R83: Vector arithmetic shift right. -/
  | vsra (u : BitVec 20) (t : BitVec 3) (et : BitVec 2) (z : Bool) (pg vb va vd : BitVec 3)
  /-- VCEQ, R83: Vector equality compare into a predicate. -/
  | vceq (u : BitVec 20) (t : BitVec 3) (et : BitVec 2) (z : Bool) (pg vb va vd : BitVec 3)
  /-- VCLT, R83: Vector signed less-than compare into a predicate. -/
  | vclt (u : BitVec 20) (t : BitVec 3) (et : BitVec 2) (z : Bool) (pg vb va vd : BitVec 3)
  /-- VCLTU, R83: Vector unsigned less-than compare into a predicate. -/
  | vcltu (u : BitVec 20) (t : BitVec 3) (et : BitVec 2) (z : Bool) (pg vb va vd : BitVec 3)
  /-- VFCEQ, R83: IEEE 754 equality compare of FP32 elements. -/
  | vfceq (u : BitVec 20) (t : BitVec 3) (et : BitVec 2) (z : Bool) (pg vb va vd : BitVec 3)
  /-- VFCLT, R83: IEEE 754 less-than compare of FP32 elements. -/
  | vfclt (u : BitVec 20) (t : BitVec 3) (et : BitVec 2) (z : Bool) (pg vb va vd : BitVec 3)
  /-- VFCLE, R83: IEEE 754 less-or-equal compare of FP32 elements. -/
  | vfcle (u : BitVec 20) (t : BitVec 3) (et : BitVec 2) (z : Bool) (pg vb va vd : BitVec 3)
  /-- VFADD, R84: FP32 addition rounded by SR_FPCTL, setting sticky flags. -/
  | vfadd (u : BitVec 20) (t : BitVec 3) (et : BitVec 2) (z : Bool) (pg vb va vd : BitVec 3)
  /-- VFSUB, R84: FP32 subtraction. -/
  | vfsub (u : BitVec 20) (t : BitVec 3) (et : BitVec 2) (z : Bool) (pg vb va vd : BitVec 3)
  /-- VFMUL, R84: FP32 multiplication. -/
  | vfmul (u : BitVec 20) (t : BitVec 3) (et : BitVec 2) (z : Bool) (pg vb va vd : BitVec 3)
  /-- VFMA, R84: FP32 fused multiply-add with one rounding. -/
  | vfma (u : BitVec 20) (t : BitVec 3) (et : BitVec 2) (z : Bool) (pg vb va vd : BitVec 3)
  /-- VFMIN, R83: IEEE 754 minimumNumber of FP32 elements. -/
  | vfmin (u : BitVec 20) (t : BitVec 3) (et : BitVec 2) (z : Bool) (pg vb va vd : BitVec 3)
  /-- VFMAX, R83: IEEE 754 maximumNumber of FP32 elements. -/
  | vfmax (u : BitVec 20) (t : BitVec 3) (et : BitVec 2) (z : Bool) (pg vb va vd : BitVec 3)
  /-- VEXP, R131: Exponential by the fixed algorithm. -/
  | vexp (u : BitVec 20) (t : BitVec 3) (et : BitVec 2) (z : Bool) (pg vb va vd : BitVec 3)
  /-- VLOG, R131: Natural logarithm by the fixed algorithm. -/
  | vlog (u : BitVec 20) (t : BitVec 3) (et : BitVec 2) (z : Bool) (pg vb va vd : BitVec 3)
  /-- VRCP, R132: Reciprocal as IEEE 754 division. -/
  | vrcp (u : BitVec 20) (t : BitVec 3) (et : BitVec 2) (z : Bool) (pg vb va vd : BitVec 3)
  /-- VRSQ, R132: Reciprocal square root. -/
  | vrsq (u : BitVec 20) (t : BitVec 3) (et : BitVec 2) (z : Bool) (pg vb va vd : BitVec 3)
  /-- VTANH, R133: Hyperbolic tangent by the fixed algorithm. -/
  | vtanh (u : BitVec 20) (t : BitVec 3) (et : BitVec 2) (z : Bool) (pg vb va vd : BitVec 3)
  /-- VXPC, R83: XOR and population count per element or over the register. -/
  | vxpc (u : BitVec 20) (t : BitVec 3) (et : BitVec 2) (z : Bool) (pg vb va vd : BitVec 3)
  /-- VREDADD, R83: Wrapping sum of active elements into lane 0. -/
  | vredadd (u : BitVec 20) (t : BitVec 3) (et : BitVec 2) (z : Bool) (pg vb va vd : BitVec 3)
  /-- VFREDADD, R85: FP32 sum of active elements by a fixed pairwise tree. -/
  | vfredadd (u : BitVec 20) (t : BitVec 3) (et : BitVec 2) (z : Bool) (pg vb va vd : BitVec 3)
  /-- VSEL, R83: Select va or vb per element by predicate. -/
  | vsel (u : BitVec 20) (t : BitVec 3) (et : BitVec 2) (z : Bool) (pg vb va vd : BitVec 3)
  /-- VPERM, R83: Permute elements of va by indices in vb. -/
  | vperm (u : BitVec 20) (t : BitVec 3) (et : BitVec 2) (z : Bool) (pg vb va vd : BitVec 3)
  /-- VCVT, R126: Format conversion selected by FN[7:0], with stochastic rounding when set. -/
  | vcvt (u : BitVec 20) (t : BitVec 3) (code : BitVec 8) (et : BitVec 2) (z : Bool) (pg vb va vd : BitVec 3)
  /-- VLD, R86: Vector load of 64 bytes from a program address. -/
  | vld (u : BitVec 20) (t : BitVec 3) (imm : BitVec 13) (z : Bool) (pg : BitVec 3) (sa : BitVec 5) (vd : BitVec 3)
  /-- VST, R86: Vector store of active bytes to a program address. -/
  | vst (u : BitVec 20) (t : BitVec 3) (imm : BitVec 13) (z : Bool) (pg : BitVec 3) (sa : BitVec 5) (vd : BitVec 3)
  /-- VLDS, R86: Vector load from the Shelf, read in the vector engine. -/
  | vlds (u : BitVec 20) (t : BitVec 3) (imm : BitVec 13) (z : Bool) (pg : BitVec 3) (sa : BitVec 5) (vd : BitVec 3)
  /-- VSTS, R86: Vector store to the Shelf, performed in the vector engine. -/
  | vsts (u : BitVec 20) (t : BitVec 3) (imm : BitVec 13) (z : Bool) (pg : BitVec 3) (sa : BitVec 5) (vd : BitVec 3)
  /-- PAND, R87: Predicate AND. -/
  | pand (u : BitVec 20) (t pb pa pd : BitVec 3)
  /-- POR, R87: Predicate OR. -/
  | por (u : BitVec 20) (t pb pa pd : BitVec 3)
  /-- PXOR, R87: Predicate XOR. -/
  | pxor (u : BitVec 20) (t pb pa pd : BitVec 3)
  /-- PANDN, R87: Predicate AND NOT. -/
  | pandn (u : BitVec 20) (t pb pa pd : BitVec 3)
  /-- PNOT, R87: Predicate NOT. -/
  | pnot (u : BitVec 20) (t pb pa pd : BitVec 3)
  /-- PALL, R87: Set a predicate to all ones. -/
  | pall (u : BitVec 20) (t pb pa pd : BitVec 3)
  /-- PNONE, R87: Set a predicate to all zeros. -/
  | pnone (u : BitVec 20) (t pb pa pd : BitVec 3)
  /-- VBCAST, R87: Broadcast a scalar into every element. -/
  | vbcast (u : BitVec 20) (t : BitVec 3) (lane : BitVec 6) (et : BitVec 2) (s : BitVec 5) (v : BitVec 3)
  /-- VEXT, R87: Extract one element into a scalar. -/
  | vext (u : BitVec 20) (t : BitVec 3) (lane : BitVec 6) (et : BitVec 2) (s : BitVec 5) (v : BitVec 3)
  /-- VINS, R87: Insert a scalar into one element. -/
  | vins (u : BitVec 20) (t : BitVec 3) (lane : BitVec 6) (et : BitVec 2) (s : BitVec 5) (v : BitVec 3)
  /-- PTOS, R87: Copy a predicate into a scalar. -/
  | ptos (u : BitVec 20) (t : BitVec 3) (lane : BitVec 6) (et : BitVec 2) (s : BitVec 5) (v : BitVec 3)
  /-- STOP, R87: Copy a scalar into a predicate. -/
  | stop (u : BitVec 20) (t : BitVec 3) (lane : BitVec 6) (et : BitVec 2) (s : BitVec 5) (v : BitVec 3)
  /-- PCNT, R87: Count set bits of a predicate. -/
  | pcnt (u : BitVec 20) (t : BitVec 3) (lane : BitVec 6) (et : BitVec 2) (s : BitVec 5) (v : BitVec 3)
  /-- PFIRST, R87: Lowest set bit of a predicate, or 64. -/
  | pfirst (u : BitVec 20) (t : BitVec 3) (lane : BitVec 6) (et : BitVec 2) (s : BitVec 5) (v : BitVec 3)
  /-- ACLAIM, R91: Claim an accumulator, waiting when another thread holds it. -/
  | aclaim (u : BitVec 20) (t : BitVec 3) (acc : BitVec 2) (rsv : BitVec 20)
  /-- AREL, R91: Release an accumulator to the next claimant. -/
  | arel (u : BitVec 20) (t : BitVec 3) (acc : BitVec 2) (rsv : BitVec 20)
  /-- AZERO, R91: Zero an accumulator and unset its format. -/
  | azero (u : BitVec 20) (t : BitVec 3) (acc : BitVec 2) (rsv : BitVec 20)
  /-- MWAIT, R91: Wait for every earlier matrix instruction of the thread. -/
  | mwait (u : BitVec 20) (t : BitVec 3) (acc : BitVec 2) (rsv : BitVec 20)
  /-- MMA, R88: Tile multiply-accumulate into a held accumulator, checked at issue. -/
  | mma (u : BitVec 20) (t : BitVec 3) (cont : Bool) (acc : BitVec 2) (sc sb sa : BitVec 5) (fb fa : BitVec 4) (r1 : BitVec 7) (r2 : BitVec 24)
  /-- MST, R124: Store an accumulator to the Shelf in format FD. -/
  | mst (u : BitVec 20) (t : BitVec 3) (acc : BitVec 2) (sa : BitVec 5) (srnd : Bool) (fd : BitVec 4) (r1 : BitVec 18) (r2 : BitVec 27)
  /-- DMA, R93: Copy bytes between spaces under a tag, checked at issue. -/
  | dma (u : BitVec 20) (t : BitVec 3) (sn : BitVec 5) (tag : BitVec 2) (sb sa sl : BitVec 5) (dstSp srcSp : BitVec 4) (r1 : BitVec 3) (r2 : BitVec 24)
  /-- RLD, R96: Remote or local register load. -/
  | rld (u : BitVec 20) (t : BitVec 3) (sn sb sa sd sc : BitVec 5) (sz : BitVec 3) (r1 : BitVec 5) (r2 : BitVec 18)
  /-- RST, R96: Remote or local register store. -/
  | rst (u : BitVec 20) (t : BitVec 3) (sn sb sa sd sc : BitVec 5) (sz : BitVec 3) (r1 : BitVec 5) (r2 : BitVec 18)
  /-- AADD, R96: Atomic wrapping add. -/
  | aadd (u : BitVec 20) (t : BitVec 3) (sn sb sa sd sc : BitVec 5) (sz : BitVec 3) (r1 : BitVec 5) (r2 : BitVec 18)
  /-- AFADD, R96: Atomic binary32 add, strict or counted. -/
  | afadd (u : BitVec 20) (t : BitVec 3) (sn sb sa sd sc : BitVec 5) (sz : BitVec 3) (r1 : BitVec 5) (r2 : BitVec 18)
  /-- AAND, R96: Atomic AND. -/
  | aand (u : BitVec 20) (t : BitVec 3) (sn sb sa sd sc : BitVec 5) (sz : BitVec 3) (r1 : BitVec 5) (r2 : BitVec 18)
  /-- AOR, R96: Atomic OR. -/
  | aor (u : BitVec 20) (t : BitVec 3) (sn sb sa sd sc : BitVec 5) (sz : BitVec 3) (r1 : BitVec 5) (r2 : BitVec 18)
  /-- AXOR, R96: Atomic XOR. -/
  | axor (u : BitVec 20) (t : BitVec 3) (sn sb sa sd sc : BitVec 5) (sz : BitVec 3) (r1 : BitVec 5) (r2 : BitVec 18)
  /-- AMIN, R96: Atomic signed minimum. -/
  | amin (u : BitVec 20) (t : BitVec 3) (sn sb sa sd sc : BitVec 5) (sz : BitVec 3) (r1 : BitVec 5) (r2 : BitVec 18)
  /-- AMAX, R96: Atomic signed maximum. -/
  | amax (u : BitVec 20) (t : BitVec 3) (sn sb sa sd sc : BitVec 5) (sz : BitVec 3) (r1 : BitVec 5) (r2 : BitVec 18)
  /-- AMINU, R96: Atomic unsigned minimum. -/
  | aminu (u : BitVec 20) (t : BitVec 3) (sn sb sa sd sc : BitVec 5) (sz : BitVec 3) (r1 : BitVec 5) (r2 : BitVec 18)
  /-- AMAXU, R96: Atomic unsigned maximum. -/
  | amaxu (u : BitVec 20) (t : BitVec 3) (sn sb sa sd sc : BitVec 5) (sz : BitVec 3) (r1 : BitVec 5) (r2 : BitVec 18)
  /-- AXCHG, R96: Atomic exchange returning the old value. -/
  | axchg (u : BitVec 20) (t : BitVec 3) (sn sb sa sd sc : BitVec 5) (sz : BitVec 3) (r1 : BitVec 5) (r2 : BitVec 18)
  /-- ACAS, R96: Atomic compare-and-swap returning the old value. -/
  | acas (u : BitVec 20) (t : BitVec 3) (sn sb sa sd sc : BitVec 5) (sz : BitVec 3) (r1 : BitVec 5) (r2 : BitVec 18)
  /-- VAFLT, R100: Test 64-bit elements against a Shelf filter descriptor into a predicate. -/
  | vaflt (u : BitVec 20) (t pg : BitVec 3) (sa : BitVec 5) (va pd : BitVec 3) (r1 : BitVec 11) (r2 : BitVec 24)
  /-- TKI, R101: Insert up to 16 candidates into a Shelf top-k list. -/
  | tki (u : BitVec 20) (t : BitVec 3) (sb : BitVec 5) (pg : BitVec 3) (sa : BitVec 5) (vb va : BitVec 3) (r1 : BitVec 6) (r2 : BitVec 24)
  /-- NOP, R103: No operation. -/
  | nop (u : BitVec 20) (t : BitVec 3) (d a b : BitVec 5)
  /-- END, R105: Thread enters Draining, or Stopped on an unreported failure. -/
  | endThread (u : BitVec 20) (t : BitVec 3) (d a b : BitVec 5)
  /-- BRK, R103: Raise BREAK. -/
  | brk (u : BitVec 20) (t : BitVec 3) (d a b : BitVec 5)
  /-- BAR, R146: Arrive at the cluster barrier with optional release and acquire. -/
  | bar (u : BitVec 20) (t : BitVec 3) (d a b : BitVec 5)
  /-- FENCE, R103: Wait for earlier loads, stores and remote operations of the thread. -/
  | fence (u : BitVec 20) (t : BitVec 3) (d a b : BitVec 5)
  /-- DWAIT, R103: Wait for the DMA tags in the mask. -/
  | dwait (u : BitVec 20) (t : BitVec 3) (d a b : BitVec 5)
  /-- VWAIT, R103: Wait for earlier vector instructions of the thread. -/
  | vwait (u : BitVec 20) (t : BitVec 3) (d a b : BitVec 5)
  /-- WAITE, R104: Wait until a Shelf word equals b or a timeout acts. -/
  | waite (u : BitVec 20) (t : BitVec 3) (d a b : BitVec 5)
  /-- VECTOR_ENGINE_EXECUTE, R142: The vector engine executes the next queued instruction, including Shelf reads and writes. -/
  | vectorEngineExecute (u : BitVec 20)
  /-- MATRIX_ENGINE_EXECUTE, R142: The matrix engine takes the next queued MMA, MST, AZERO or AREL. -/
  | matrixEngineExecute (u : BitVec 20)
  /-- MATRIX_OP_COMPLETE, R120: A matrix instruction completes, closing a block with one rounding. -/
  | matrixOpComplete (u : BitVec 20)
  /-- LOAD_RETURN, R41: An outstanding load's value returns and frees its scoreboard entry. -/
  | loadReturn (u : BitVec 20) (t : BitVec 3) (k : Nat)
  /-- WRITE_BUFFER_COMPLETE, R82: A store or register-free remote operation completes and frees its entry. -/
  | writeBufferComplete (u : BitVec 20) (k : Nat)
  /-- DMA_TAG_COMPLETE, R95: Every byte of a DMA transfer is visible and its tag completes, or fails. -/
  | dmaTagComplete (u : BitVec 20) (t : BitVec 3) (tag : BitVec 2)
  /-- REMOTE_TIMEOUT, R99: SR_RTMO expires for a remote request, which fails with TIMEOUT. -/
  | remoteTimeout (die : Fin 8) (tag : BitVec 16)
  /-- WAITE_TIMEOUT, R104: A WAITE timeout acts and writes 1 to d. -/
  | waiteTimeout (u : BitVec 20) (t : BitVec 3)
  /-- BARRIER_RELEASE, R147: All threads arrived and released writes performed; waiting threads leave the barrier. -/
  | barrierRelease (cl : BitVec 16)
  /-- THREAD_DRAINED, R38: A Draining thread's outstanding operations complete and its slot becomes Empty. -/
  | threadDrained (u : BitVec 20) (t : BitVec 3)
  /-- GROUP_END, R49: All threads of a group have left Draining and the cluster becomes idle. -/
  | groupEnd (cl : BitVec 16)
  /-- TAKE_GROUP_NUMBER, R51: A die scheduler takes the next group number from the kernel's counter. -/
  | takeGroupNumber (die : Fin 8) (ctx : BitVec 12)
  /-- PLACE_GROUP, R52: The die scheduler places a taken group on the lowest idle cluster. -/
  | placeGroup (die : Fin 8) (ctx : BitVec 12)
  /-- DEFERRED_WAKE, R470: A wake held by the rate window or an entry in progress begins. -/
  | deferredWake (die : Fin 8) (rgn : Fin 128)
  /-- REGION_ACTIVE, R469: A wake completes and the region becomes Active. -/
  | regionActive (die : Fin 8) (rgn : Fin 128)
  /-- IDLE_DELAY_EXPIRY, R54: A region idle for IDLE_DELAY enters its idle state. -/
  | idleDelayExpiry (die : Fin 8) (rgn : Fin 128)
  /-- OFF_DELAY_EXPIRY, R54: A region idle for the further Off delay is turned Off. -/
  | offDelayExpiry (die : Fin 8) (rgn : Fin 128)
  /-- REGION_ENTRY_COMPLETE, R469: Entry into a lower power state completes. -/
  | regionEntryComplete (die : Fin 8) (rgn : Fin 128)
  /-- KERNEL_START, R57: After the previous kernel ended, the next launch starts by the steps of Table 02-5. -/
  | kernelStart (ctx : BitVec 12)
  /-- PERSISTENT_RELEASE, R63: All groups of a persistent kernel placed; threads released in one hub cycle. -/
  | persistentRelease (ctx : BitVec 12)
  /-- KERNEL_END, R58: All groups ended and writes complete; pins released and completion written. -/
  | kernelEnd (ctx : BitVec 12)
  /-- KAT_SLICE, R65: The Puppeteer starts a known-answer test slice on a qualifying unit. -/
  | katSlice (u : BitVec 20)
  /-- KAT_SLICE_END, R420: A test slice ends and its digest is compared with the answer. -/
  | katSliceEnd (u : BitVec 20) (pass : Bool) (firstDiff : Nat)
  /-- KAT_INTERVAL, R420: A unit's normal or observation test interval falls due. -/
  | katInterval (u : BitVec 20)
  /-- LAUNCH, R56: Launch descriptor checked at queue time and queued. -/
  | launch (ctx : BitVec 12) (d : BitVec 512)
  /-- SEARCH, R226: SEARCH descriptor checked at queue time and queued. -/
  | search (ctx : BitVec 12) (d : BitVec 512)
  /-- GATHER, R253: Embedding gather descriptor checked and queued. -/
  | gather (ctx : BitVec 12) (d : BitVec 512)
  /-- GATHER_POOL, R253: Embedding gather-pool descriptor checked and queued. -/
  | gatherPool (ctx : BitVec 12) (d : BitVec 512)
  /-- SCATTER_SET, R253: Embedding scatter-set descriptor checked and queued. -/
  | scatterSet (ctx : BitVec 12) (d : BitVec 512)
  /-- SCATTER_ADD, R253: Embedding scatter-add descriptor checked and queued. -/
  | scatterAdd (ctx : BitVec 12) (d : BitVec 512)
  /-- PUBLISH_OPEN, R182: Open a vintage for publishing. -/
  | publishOpen (ctx : BitVec 12) (d : BitVec 512)
  /-- PUBLISH_EXTENT, R183: Read, encrypt and hold one extent of an Open vintage. -/
  | publishExtent (ctx : BitVec 12) (d : BitVec 512)
  /-- PUBLISH_SHARE, R183: Add a reference to an existing extent. -/
  | publishShare (ctx : BitVec 12) (d : BitVec 512)
  /-- PUBLISH_SEAL, R184: Pad, write manifest, await acknowledgements and seal the vintage. -/
  | publishSeal (ctx : BitVec 12) (d : BitVec 512)
  /-- PUBLISH_ABORT, R184: Discard and trim an Open vintage. -/
  | publishAbort (ctx : BitVec 12) (d : BitVec 512)
  /-- VINTAGE_RETIRE, R179: Move a Sealed unbound vintage to Retiring. -/
  | vintageRetire (ctx : BitVec 12) (d : BitVec 512)
  /-- COUNTER_READ, R166: Copy, and optionally clear, access counters of a segment. -/
  | counterRead (ctx : BitVec 12) (d : BitVec 512)
  /-- HUB_ORDER_RUN, R183: The hub runs the next hub-order descriptor of a context. -/
  | hubOrderRun (ctx : BitVec 12)
  /-- SVC_SEND, R280: Queue a RoCEv2 SEND from device memory on a bound queue pair. -/
  | svcSend (ctx : BitVec 12) (d : BitVec 512)
  /-- SVC_SEND_ACK, R280: The acknowledgement of the whole message is accepted; SVC_SEND completes. -/
  | svcSendAck (ctx : BitVec 12) (k : Nat)
  /-- CONTEXT_SET, R189: Configure a context's region set, prefetch quota, timeout and ring. -/
  | contextSet (ctx : BitVec 12) (d : BitVec 512)
  /-- CONTEXT_RESET, R190: End a halt; the context becomes Idle. -/
  | contextReset (ctx : BitVec 12) (d : BitVec 512)
  /-- CONTEXT_ABORT, R190: Abort the running kernel of the target. -/
  | contextAbort (ctx : BitVec 12) (d : BitVec 512)
  /-- CONTEXT_FREE, R190: Delete segments, release prefetch charge and return the context to Unset. -/
  | contextFree (ctx : BitVec 12) (d : BitVec 512)
  /-- SEG_SET, R192: Define or modify a segment entry, allocating pages as needed. -/
  | segSet (ctx : BitVec 12) (d : BitVec 512)
  /-- SEG_REBIND, R196: Move a present Cellar segment to another vintage. -/
  | segRebind (ctx : BitVec 12) (d : BitVec 512)
  /-- SEG_DELETE, R193: Delete a segment entry and release its pages. -/
  | segDelete (ctx : BitVec 12) (d : BitVec 512)
  /-- RESUME, R206: Replay or abort stalled accesses named by FAULT_ID or segment. -/
  | resume (ctx : BitVec 12) (d : BitVec 512)
  /-- FAULT_RECORD_DELAYED_POST, R210: A stall waiting without a record posts it once a queue slot allows. -/
  | faultRecordDelayedPost
  /-- SERVICE_TIMEOUT, R211: A stall's service timeout acts and aborts the kernel. -/
  | serviceTimeout (u : BitVec 20) (t : BitVec 3)
  /-- PAGE_RELEASE, R194: After accesses drain, a released page is discarded from caches, zeroed and freed. -/
  | pageRelease (die : Fin 8) (page : BitVec 17)
  /-- TABLE_SET, R249: Define or modify an embedding table slot. -/
  | tableSet (ctx : BitVec 12) (d : BitVec 512)
  /-- SVC_INTAKE, R270: Bind or unbind a queue pair to an intake ring. -/
  | svcIntake (ctx : BitVec 12) (d : BitVec 512)
  /-- SVC_POST, R276: Bind or unbind a post area of a persistent context. -/
  | svcPost (ctx : BitVec 12) (d : BitVec 512)
  /-- COH_ATTACH, R315: Attach or detach an agent to a coherent segment. -/
  | cohAttach (ctx : BitVec 12) (d : BitVec 512)
  /-- QP_SET, R361: Create, modify, reset or destroy a queue pair. -/
  | qpSet (ctx : BitVec 12) (d : BitVec 512)
  /-- KEY_SET, R362: Create a segment, window or control key. -/
  | keySet (ctx : BitVec 12) (d : BitVec 512)
  /-- CRING_SET, R370: Set or remove a completion ring and write held completions. -/
  | cringSet (ctx : BitVec 12) (d : BitVec 512)
  /-- MAP_PROPOSE, R378: Verify a signed map proposal and forward it to the leader. -/
  | mapPropose (ctx : BitVec 12) (d : BitVec 512)
  /-- KEY_REVOKE, R391: Revoke one key at consumption. -/
  | keyRevoke (ctx : BitVec 12) (d : BitVec 512)
  /-- LEDGER_SET, R399: Set the charge-record ledger buffer. -/
  | ledgerSet (ctx : BitVec 12) (d : BitVec 512)
  /-- CKPT_SET, R428: Enable checkpoints and set buddy step and interval at the coordinator. -/
  | ckptSet (ctx : BitVec 12) (d : BitVec 512)
  /-- CKPT_TAKE, R429: Start a checkpoint of the composition. -/
  | ckptTake (ctx : BitVec 12) (d : BitVec 512)
  /-- CKPT_RESTORE, R434: Return the composition to its last committed checkpoint. -/
  | ckptRestore (ctx : BitVec 12) (d : BitVec 512)
  /-- COMMAND_WINDOW_WRITE, R365: An RDMA WRITE to a window completes and its descriptors are consumed in address order. -/
  | commandWindowWrite (qp : BitVec 14) (key : BitVec 32) (va : BitVec 64) (descs : List (BitVec 512))
  /-- SYS_DESC, R369: Writing byte 63 of ETH_SYS_DESC consumes a descriptor for context 0. -/
  | sysDesc (d : BitVec 512)
  /-- POST_AREA_CONSUME, R277: A performed post-area DMA's descriptors enter the destination queue. -/
  | postAreaConsume (u : BitVec 20) (t : BitVec 3) (tag : BitVec 2)
  /-- COMPLETION_WRITE, R370: A completion allowed by FREED is written to its ring slot, with notification. -/
  | completionWrite (ctx : BitVec 12) (ring : Nat)
  /-- FREED_UPDATE, R370: A write to a FREED count is taken into F from the next hub cycle. -/
  | freedUpdate (ctx : BitVec 12) (which : Nat)
  /-- IDENT, R170: A module's identity arrives and the module becomes present. -/
  | ident (ch : Fin 17) (id : BitVec 256) (sectors : BitVec 64) (version : BitVec 16)
  /-- READ_DATA, R171: A module's read reply is accepted or discarded as late. -/
  | readData (ch : Fin 17) (e : CelEcho) (status bad : BitVec 8) (data : List (BitVec 8))
  /-- WRITE_ACK, R183: A module reports written sectors durable. -/
  | writeAck (ch : Fin 17) (e : CelEcho) (status : BitVec 8)
  /-- TRIM_ACK, R168: A module accepts a trim. -/
  | trimAck (ch : Fin 17) (h : CelHdr)
  /-- STATUS, R170: A module's periodic health report arrives. -/
  | status (ch : Fin 17) (st health spare : BitVec 8) (temp : BitVec 16)
  /-- ERROR, R168: A malformed-message report arrives. -/
  | error (ch : Fin 17) (hdr : BitVec 40)
  /-- CELLAR_READ_TIMEOUT, R171: A module read times out and is served by reconstruction. -/
  | cellarReadTimeout (ch : Fin 17) (tag : BitVec 16)
  /-- CELLAR_STATUS_TIMEOUT, R170: Four STATUS periods pass without STATUS and the module is declared failed. -/
  | cellarStatusTimeout (ch : Fin 17)
  /-- CELLAR_LINK_DOWN_TIMEOUT, R170: A module link down for 2^22 counts is declared failed. -/
  | cellarLinkDownTimeout (ch : Fin 17)
  /-- REBUILD_PERIOD, R177: Each 2^16 counts RATE stripe sets are rebuilt onto the spare. -/
  | rebuildPeriod
  /-- CELLAR_SCRUB_PERIOD, R178: Each 2^16 counts stripe sets are checked against P and Q. -/
  | cellarScrubPeriod (found : Unit)
  /-- LARDER_SCRUB, R162: The patrol scrubber reads the next line and corrects or poisons it. -/
  | larderScrub (die : Fin 8) (stack : Fin 2) (ce ue : Bool)
  /-- SEARCH_FORWARD, R215: A forwarded search batch arrives at a peer and enters its context queue. -/
  | searchForward (src : BitVec 16) (ctx : BitVec 12) (d : BitVec 512) (nLists : Nat) (queries : List QueryFwd)
  /-- LIST_BATCH_ISSUE, R234: The next list batch is issued to the lowest idle Active region. -/
  | listBatchIssue (die : Fin 8) (ctx : BitVec 12)
  /-- LIST_BATCH_END, R237: A batch ends and unit lists merge into the die's running list. -/
  | listBatchEnd (die : Fin 8) (rgn : Fin 128)
  /-- SEARCH_ROUND_END, R237: All batches of a round end; die lists merge and matched counts report. -/
  | searchRoundEnd (ctx : BitVec 12)
  /-- SEARCH_PEER_REPLY, R244: The lead accepts a peer's report and decides widening or merges. -/
  | searchPeerReply (ctx : BitVec 12) (peer : BitVec 16) (reply : PeerReply)
  /-- SEARCH_PEER_TIMEOUT, R244: A peer's reply times out and the search goes on without it. -/
  | searchPeerTimeout (ctx : BitVec 12) (peer : BitVec 16)
  /-- SEARCH_ABORT, R245: A peer receives the lead's abort and ends its search ABORTED. -/
  | searchAbort (m : AbortMsg)
  /-- PREFETCH, R262: After its own rows, a gather prefetches next rows into staging. -/
  | prefetch (ctx : BitVec 12) (tab : BitVec 6)
  /-- EMB_UPDATE, R258: An owner applies a row update or set indivisibly. -/
  | embUpdate (m : EmbUpd)
  /-- END_MARKER, R260: A strict batch end marker from one package reaches the owner. -/
  | endMarker (l : Fin 17) (h : ReqHdr) (ctx : BitVec 12) (tab : BitVec 6) (batch src : Nat)
  /-- COLLECTIVE_TIMEOUT, R261: End markers are missing at expiry; the operation aborts with COLLECTIVE. -/
  | collectiveTimeout (ctx : BitVec 12) (tab : BitVec 6)
  /-- EMB_WINDOW_END, R264: Each 2^24 counts a package sends its served-row counts to the coordinator. -/
  | embWindowEnd
  /-- SHARD_COUNT_REPORT, R264: The coordinator receives shard counts and may start a migration. -/
  | shardCountReport (ctx : BitVec 12) (tab : BitVec 6) (src count : Nat) (rows : List (Nat × Nat))
  /-- MIGRATION_OFFER, R266: The receiver reserves spare slots and answers READY. -/
  | migrationOffer (ctx : BitVec 12) (tab : BitVec 6) (peer : Nat) (ver : BitVec 32) (rows : List Nat)
  /-- MIGRATION_READY, R266: The home copies rows to the holder's slots. -/
  | migrationReady (ctx : BitVec 12) (tab : BitVec 6) (peer : Nat) (ver : BitVec 32) (slots : List Nat)
  /-- TRANSFER, R393: The receiver takes ownership and answers TRANSFER_ACCEPTED. -/
  | transfer (ctx : BitVec 12) (tab : BitVec 6) (peer : Nat) (ver : BitVec 32) (rows : List Nat)
  /-- TRANSFER_ACCEPTED, R393: The sender commits the handover and forwards held requests. -/
  | transferAccepted (ctx : BitVec 12) (tab : BitVec 6) (peer : Nat) (ver : BitVec 32)
  /-- FORWARDED_REQUEST, R265: A holder serves a request forwarded by the home and replies to the source. -/
  | forwardedRequest (m : EmbUpd) (isRead : Bool)
  /-- INTAKE_FRAME, R271: A SEND on a bound queue pair is placed in its slot, or answered receiver-not-ready. -/
  | intakeFrame (qp : BitVec 14) (imm : Option (BitVec 32)) (data : List (BitVec 8))
  /-- LINK_TRAINING_COMPLETE, R283: Training and FEC lock complete on all lanes; the link enters Hello. -/
  | linkTrainingComplete (l : Fin 33)
  /-- LINK_TRAINING_TIMEOUT, R283: Training not complete in 2^24 counts; the link returns to Down and retrains. -/
  | linkTrainingTimeout (l : Fin 33)
  /-- HELLO, R285: A received hello is checked; the link goes Up or Held. -/
  | hello (l : Fin 33) (f : Flit) (h : HelloBody)
  /-- HELLO_TIMER, R284: Each 2^20 counts a hello flit is sent. -/
  | helloTimer (l : Fin 33)
  /-- HELLO_TIMEOUT, R283: Four hello periods without a hello take the link Down. -/
  | helloTimeout (l : Fin 33)
  /-- DATA_FLIT, R289: A data flit is accepted or discarded by SEQ and CRC; groups are authenticated. -/
  | dataFlit (l : Fin 33) (f : Flit)
  /-- IDLE_FLIT, R292: An idle flit carries ACK and credits. -/
  | idleFlit (l : Fin 33) (f : Flit)
  /-- REPLAY_REQUEST, R289: The sender resends every flit after ACK. -/
  | replayRequest (l : Fin 33) (f : Flit)
  /-- LINK_RETRY_TIMEOUT, R290: ACK stalled for GLY_RETRY_TMO; resend from the oldest unacknowledged flit. -/
  | linkRetryTimeout (l : Fin 33)
  /-- GLY_ENABLE, R283: Writing GLY_CTRL.ENABLE holds the link Down or starts training. -/
  | glyEnable (l : Fin 16) (en : Bool)
  /-- GLY_RETRAIN, R283: Writing RETRAIN takes the link Down and restarts training. -/
  | glyRetrain (l : Fin 16)
  /-- PORT_STATE, R299: A plane's port-state report updates usable planes. -/
  | portState (l : Fin 16) (plane port st role : BitVec 8) (pod : BitVec 16)
  /-- RD, R303: A remote read request is checked and performed. -/
  | rd (l : Fin 17) (h : ReqHdr)
  /-- WR, R303: A remote write request is checked and performed. -/
  | wr (l : Fin 17) (h : ReqHdr) (data : List (BitVec 8))
  /-- PWR, R297: A partial write with byte-enable mask is performed. -/
  | pwr (l : Fin 17) (h : ReqHdr) (data : List (BitVec 8))
  /-- RD_SHELF, R298: A remote Shelf read is checked against the region set. -/
  | rdShelf (l : Fin 17) (h : ReqHdr)
  /-- WR_SHELF, R298: A remote Shelf write is checked and performed. -/
  | wrShelf (l : Fin 17) (h : ReqHdr) (data : List (BitVec 8))
  /-- ATOMIC, R297: A remote atomic request is performed at the home. -/
  | atomic (l : Fin 17) (h : ReqHdr) (aop : BitVec 8) (data : List (BitVec 8))
  /-- TAKE_SHARED, R322: A request for a shared copy of a coherent line. -/
  | takeShared (l : Fin 17) (h : ReqHdr)
  /-- TAKE_OWNED, R322: A request for ownership of a coherent line. -/
  | takeOwned (l : Fin 17) (h : ReqHdr)
  /-- PROMOTE, R322: A request to promote an S copy to exclusive. -/
  | promote (l : Fin 17) (h : ReqHdr)
  /-- GIVE_DIRTY, R322: An owner gives back a dirty line. -/
  | giveDirty (l : Fin 17) (h : ReqHdr) (data : List (BitVec 8))
  /-- GIVE_CLEAN, R322: An owner gives back a clean line. -/
  | giveClean (l : Fin 17) (h : ReqHdr)
  /-- CALL_SHARE, R316: A snoop asking the peer cache to keep at most a shared copy. -/
  | callShare (l : Fin 17) (h : ReqHdr)
  /-- CALL_DROP, R316: A snoop asking the peer cache to drop its copy. -/
  | callDrop (l : Fin 17) (h : ReqHdr)
  /-- DATA, R307: A data response or snoop reply is accepted. -/
  | data (l : Fin 17) (h : RspHdr) (data : List (BitVec 8))
  /-- COMP, R307: A completion or acknowledgement is accepted. -/
  | comp (l : Fin 17) (h : RspHdr)
  /-- NACK, R304: A refusal is accepted; reissue or REMOTE follows. -/
  | nack (l : Fin 17) (h : RspHdr) (epoch word : BitVec 32)
  /-- RETRY, R323: A RETRY reply is accepted; re-snoop, back-off or malformed handling. -/
  | retry (l : Fin 17) (h : RspHdr) (backoff : BitVec 32)
  /-- EPOCH_HOLD_TIMEOUT, R305: A request held for a newer epoch is answered EPOCH_AHEAD. -/
  | epochHoldTimeout (k : Nat)
  /-- REQUEST_REISSUE, R305: After the pair drains and the map catches up, refused requests are reissued. -/
  | requestReissue (dest : BitVec 16)
  /-- PLANE_SWITCH, R301: After old-plane requests end, a pair moves to its new plane. -/
  | planeSwitch (dest : BitVec 16)
  /-- ATTACHED, R315: An attachment notice reaches the agent. -/
  | attached (l : Fin 17) (h : ReqHdr) (ctx : BitVec 12) (seg : BitVec 4) (agent : BitVec 8) (tag : BitVec 20) (mode : BitVec 8) (lease : BitVec 32)
  /-- DETACHED, R330: A detachment notice reaches the agent, which invalidates the lines. -/
  | detached (l : Fin 17) (h : ReqHdr) (ctx : BitVec 12) (seg : BitVec 4) (agent : BitVec 8) (tag : BitVec 20)
  /-- LEASE, R327: An agent port renews leases; the home answers LEASE_ACK. -/
  | lease (l : Fin 17) (h : ReqHdr) (mask : BitVec 16)
  /-- LEASE_ACK, R330: The home confirms renewed leases to the agent. -/
  | leaseAck (l : Fin 17) (h : ReqHdr) (mask : BitVec 16)
  /-- LOST, R330: An agent is told it was lost and invalidates the lines. -/
  | lost (l : Fin 17) (h : ReqHdr) (mask : BitVec 16) (cause : BitVec 8)
  /-- HOME_TRANSACTION_BEGIN, R321: A waiting transaction of a line begins once the earlier one ends. -/
  | homeTransactionBegin (die : Fin 8) (id : Nat)
  /-- RESNOOP_TIMER, R323: RESNOOP counts after a RETRY, the home snoops the port again. -/
  | resnoopTimer (die : Fin 8) (id : Nat) (port : BitVec 6)
  /-- SNOOP_TIMEOUT, R328: A snoop reply or GRANT_ACK not accepted in time loses the port's agents. -/
  | snoopTimeout (die : Fin 8) (id : Nat) (port : BitVec 6)
  /-- LEASE_EXPIRY, R327: An agent's lease expires and the agent is lost. -/
  | leaseExpiry (port : BitVec 6) (agent : BitVec 4)
  /-- CELL_ADMIT, R339: A cell is admitted from reserve or pool, or the input is held. -/
  | cellAdmit (inp out : Fin 58) (cls : Fin 8) (owner : BitVec 20) (first : Option Nat) (ip : Option IpTuple)
  /-- FRAME_ADMIT, R340: A lossy frame is coloured, WRED-judged and admitted or dropped whole. -/
  | frameAdmit (inp out : Fin 58) (cls : Fin 8) (owner : BitVec 20) (bytes : Nat) (ecn : Bool) (ip : Option IpTuple)
  /-- CELL_DEPART, R335: An output arbitrates and sends one cell per switch cycle. -/
  | cellDepart (out : Fin 58)
  /-- PARTITION_SLOT_END, R347: A schedule slot of SLOT_CELLS cycles ends and the next owner is served. -/
  | partitionSlotEnd
  /-- METER_WRITE, R341: A write to SWC_METER sets the meter and fills both buckets. -/
  | meterWrite (m : Fin 256) (v : BitVec 128)
  /-- ETH_LINK_UP, R351: An Ethernet link completes negotiation and training. -/
  | ethLinkUp (e : Fin 16)
  /-- ETH_LINK_DOWN, R375: An Ethernet link goes down; the partner departs. -/
  | ethLinkDown (e : Fin 16)
  /-- ETH_RETRAIN, R351: Writing RETRAIN restarts auto-negotiation and training. -/
  | ethRetrain (e : Fin 16)
  /-- ETH_SPLIT, R351: Writing SPLIT retrains both lane pairs of the physical port. -/
  | ethSplit (n : Fin 8) (split : Bool)
  /-- FRAME_RECEIVE, R352: A received frame is checked and handed whole to the switch core or discarded. -/
  | frameReceive (e : Fin 16) (f : RxFrame)
  /-- PFC_FRAME, R354: A PFC frame pauses or resumes a priority, or is discarded. -/
  | pfcFrame (e : Fin 16) (prio : Fin 8) (quanta : BitVec 16) (heldTo : Nat)
  /-- PAUSE_FRAME, R351: An 802.3x PAUSE frame is discarded and counted. -/
  | pauseFrame (e : Fin 16)
  /-- PFC_QUANTA_EXPIRY, R354: Pause quanta expire and the priority resumes. -/
  | pfcQuantaExpiry (e : Fin 16) (prio : Fin 8)
  /-- LLDPDU, R374: A received LLDPDU updates the partner entry. -/
  | lldpdu (e : Fin 16) (chassis portId : BitVec 48) (ttl : BitVec 16) (tlv : Option LldpTlv)
  /-- LLDP_TX_TIMER, R374: Each TX_INTERVAL an LLDPDU is sent. -/
  | lldpTxTimer (e : Fin 16)
  /-- LLDP_TTL_EXPIRY, R375: The partner's Time To Live expires; departure. -/
  | lldpTtlExpiry (e : Fin 16)
  /-- PARTNER_REPORT, R387: The leader records a partner arrival or departure in the partner table. -/
  | partnerReport (pkg : BitVec 6) (kind : BitVec 2) (num : BitVec 8) (arrival : Bool) (partner : BitVec 16)
  /-- ARP_REQUEST, R356: An ARP request for an own address is answered. -/
  | arpRequest (e : Fin 16) (ip : BitVec 32) (mac : BitVec 48) (sip : BitVec 32)
  /-- NEIGHBOUR_SOLICITATION, R356: An IPv6 neighbour solicitation is answered. -/
  | neighbourSolicitation (e : Fin 16) (ip : BitVec 128) (mac : BitVec 48) (sip : BitVec 128)
  /-- SEND, R357: A RoCEv2 SEND is received on a queue pair. -/
  | send (qp : BitVec 14) (ce : Bool) (psn : BitVec 24) (imm : Option (BitVec 32)) (data : List (BitVec 8))
  /-- RDMA_WRITE, R198: An RDMA WRITE through a key is checked and performed. -/
  | rdmaWrite (qp : BitVec 14) (ce : Bool) (psn : BitVec 24) (key : BitVec 32) (va : BitVec 64) (data : List (BitVec 8))
  /-- RDMA_READ, R198: An RDMA READ through a key is checked and answered. -/
  | rdmaRead (qp : BitVec 14) (ce : Bool) (psn : BitVec 24) (key : BitVec 32) (va : BitVec 64) (len : Nat)
  /-- ACKNOWLEDGE, R358: A RoCEv2 acknowledgement is received for sent packets. -/
  | acknowledge (qp : BitVec 14) (psn : BitVec 24)
  /-- NAK, R358: A RoCEv2 NAK triggers retransmission or the error state. -/
  | nak (qp : BitVec 14) (psn : BitVec 24) (syndrome : BitVec 8)
  /-- CNP, R359: A congestion notification cuts the queue pair's rate. -/
  | cnp (qp : BitVec 14)
  /-- ACK_TIMEOUT, R358: ACK_TMO expires; retransmit or enter the error state. -/
  | ackTimeout (qp : BitVec 14)
  /-- CC_STEP, R359: Each step period, rates of uncut queue pairs rise. -/
  | ccStep
  /-- MAP_APPEND, R383: A member writes the entry as prepared and answers MAP_ACK. -/
  | mapAppend (src : BitVec 6) (epoch term : BitVec 32) (p : Proposal)
  /-- MAP_ACK, R383: The leader counts an acknowledgement and commits on a majority. -/
  | mapAck (src : BitVec 6) (epoch term : BitVec 32)
  /-- MAP_NACK, R389: A member refuses an entry; the leader abandons it. -/
  | mapNack (src : BitVec 6) (epoch term : BitVec 32) (status : BitVec 8)
  /-- MAP_COMMIT, R383: A member learns an entry is committed. -/
  | mapCommit (src : BitVec 6) (epoch term : BitVec 32)
  /-- MAP_ABANDON, R383: Members discard a prepared entry. -/
  | mapAbandon (src : BitVec 6) (epoch term : BitVec 32) (status : BitVec 8)
  /-- MAP_COMMIT_TIMEOUT, R383: No majority within CMP_MAP_TMO; the leader sends MAP_ABANDON. -/
  | mapCommitTimeout
  /-- EPOCH_APPLY, R384: A package applies a committed epoch in one hub cycle. -/
  | epochApply
  /-- EPOCH_DRAIN, R388: In-flight counts of older epochs reach zero and their resources are released. -/
  | epochDrain
  /-- MAP_HEARTBEAT, R386: A member's heartbeat marks it healthy and carries the committed epoch. -/
  | mapHeartbeat (src : BitVec 6) (epoch term : BitVec 32) (table : List (BitVec 128))
  /-- HEARTBEAT_TIMER, R386: Each 2^20 counts a member sends MAP_HEARTBEAT. -/
  | heartbeatTimer
  /-- HEARTBEAT_LOSS, R386: Four periods without a heartbeat mark a member unhealthy; leadership may pass. -/
  | heartbeatLoss (pkg : BitVec 6)
  /-- LOG_CATCH_UP, R385: A lagging package receives entries or state after its epoch. -/
  | logCatchUp (src : BitVec 6) (epoch term : BitVec 32) (p : Proposal)
  /-- OWNERSHIP_DISPUTE, R394: No owner served within CMP_OWN_TMO; a dispute is reported. -/
  | ownershipDispute (state : Nat) (a b : BitVec 6) (va vb : BitVec 32) (aOwn bOwn reachA reachB : Bool)
  /-- OWNER_SET, R394: The leader's decision sets the owner and version. -/
  | ownerSet (state : Nat) (owner : BitVec 6) (ver : BitVec 32)
  /-- CHARGE_RECORD_TIMER, R398: Each 2^30 counts a charge record is signed and written. -/
  | chargeRecordTimer
  /-- REVOCATION_COMPLETE, R392: A revoked key's or extent's in-flight count drains; pages zeroed. -/
  | revocationComplete (k : Nat)
  /-- PACKAGE_QUIESCENT, R409: A package becomes quiescent for a strict composition and sends QUIESCENT. -/
  | packageQuiescent (tag : BitVec 20)
  /-- QUIESCENT, R409: The coordinator records a quiescence report and may close the round. -/
  | quiescent (tag : BitVec 20) (src : BitVec 16) (round held : BitVec 32)
  /-- ROUND_CLOSE, R409: Homes perform held ACAS and AXCHG in source order and return values. -/
  | roundClose (tag : BitVec 20) (round : BitVec 32)
  /-- EXACT_SUM_RESUME, R408: A strict AFADD waiting for an exact-sum entry proceeds when one ends. -/
  | exactSumResume (die : Fin 8) (k : Nat)
  /-- CKPT_INTERVAL, R429: The checkpoint INTERVAL expires and a checkpoint starts. -/
  | ckptInterval (tag : BitVec 20)
  /-- FREEZE, R430: A package freezes the composition and recalls coherent lines. -/
  | freeze (tag : BitVec 20) (n : BitVec 32)
  /-- DRAIN_COMPLETE, R430: The frozen composition is drained; DRAINED is sent. -/
  | drainComplete (tag : BitVec 20)
  /-- DRAINED, R429: The coordinator records a drained package and sends COPY when all are. -/
  | drained (tag : BitVec 20) (n : BitVec 32) (src : BitVec 16)
  /-- COPY, R429: A package writes its image and dirty pages to undo and buddy staging. -/
  | copy (tag : BitVec 20) (n : BitVec 32)
  /-- STAGED, R429: The coordinator records staging and commits when all have staged. -/
  | staged (tag : BitVec 20) (n : BitVec 32) (src : BitVec 16)
  /-- CKPT_COMMIT, R429: Buddies merge staging; packages discard undo pages and thaw. -/
  | ckptCommit (tag : BitVec 20) (n : BitVec 32)
  /-- CKPT_ABORT, R433: Staging discarded; undo pages kept; packages thaw. -/
  | ckptAbort (tag : BitVec 20) (n : BitVec 32)
  /-- CKPT_TIMEOUT, R433: No DRAINED or STAGED within HLT_CKPT_TMO; the coordinator aborts. -/
  | ckptTimeout (tag : BitVec 20)
  /-- RESTORE, R434: A package freezes, rolls back, loads the image and thaws. -/
  | restore (tag : BitVec 20) (n : BitVec 32)
  /-- SPARE_SWITCH_IN, R424: At a switch point a spare unit or region replaces a suspect or failed one. -/
  | spareSwitchIn (die : Fin 8) (rgn : Fin 128) (cl : Fin 64) (unit : Fin 16) (whole : Bool)
  /-- HEALTH_SAVE_TIMER, R422: Each 2^30 counts scores and spare map are saved to the Attic. -/
  | healthSaveTimer
  /-- RATTLE_UNLOCK, R439: Writing UNLOCK verifies the test token and unlocks Rattle. -/
  | rattleUnlock
  /-- RATTLE_LOCK, R439: Writing LOCK clears every Rattle register and locks. -/
  | rattleLock
  /-- RATTLE_INJECT, R440: Writing GO injects the configured errors. -/
  | rattleInject
  /-- PWRFAIL_N_FALL, R449: PWRFAIL_N falls; POWER_FAIL recorded and the flush starts. -/
  | pwrfailNFall
  /-- POWER_FAIL_FLUSH_DONE, R449: Vault writes and the copy to the flush area complete. -/
  | powerFailFlushDone
  /-- PWRFAIL_N_RISE, R449: PWRFAIL_N rises without power loss; POWER_FAIL detail 1 recorded. -/
  | pwrfailNRise
  /-- TOKEN_REFILL, R451: At multiples of 2^25 / RATE counts, event buckets gain a token. -/
  | tokenRefill
  /-- SUPPRESS_NOTE, R452: 2^25 counts after a first suppression with no record, the count is reported. -/
  | suppressNote (code : BitVec 16)
  /-- IRQ_LEAF_WRITE, R453: Writing 1 to a leaf bit clears it and updates groups, summary and IRQ_N. -/
  | irqLeafWrite (g : Fin 16) (j : Fin 8) (v : BitVec 32)
  /-- PWR_TRIP_WRITE, R474: Writing 1 to a PWR_TRIP bit clears it. -/
  | pwrTripWrite (v : BitVec 9)
  /-- STANDBY_SUPPLY_APPLIED, R457: The always-on domain starts and waits for PORST_N. -/
  | standbySupplyApplied
  /-- PORST_N_FALL, R458: PORST_N low ends whatever start or operation is running. -/
  | porstNFall
  /-- PORST_N_RELEASE, R459: PORST_N released triggers a cold start. -/
  | porstNRelease
  /-- WARM_N, R463: WARM_N held low requests a warm start. -/
  | warmN (counts : Nat)
  /-- START_CTRL_COLD, R457: Writing COLD requests a cold start. -/
  | startCtrlCold
  /-- START_CTRL_WARM, R457: Writing WARM requests a warm start. -/
  | startCtrlWarm
  /-- START_CTRL_LOADER, R466: Writing LOADER enters the recovery loader. -/
  | startCtrlLoader
  /-- FW_COMMIT, R466: In the loader, verify and write the staged firmware image. -/
  | fwCommit
  /-- START_STEP_COMPLETE, R459: A start step completes and the next begins, up to Ready. -/
  | startStepComplete (ok : Bool) (cause : Nat)
  /-- START_STEP_TIMEOUT, R459: A start step exceeds its maximum; the start fails. -/
  | startStepTimeout
  /-- START_REJOIN_TIMEOUT, R461: No leader within START_REJOIN_TMO; Ready without a map. -/
  | startRejoinTimeout
  /-- REFCLK_LOSS, R467: REFCLK lost for 16 counts fails the package. -/
  | refclkLoss
  /-- REFCLK_RETURN, R467: REFCLK returns and the trim resumes. -/
  | refclkReturn
  /-- THROTTLE, R473: A region crosses its throttle threshold and halves issue, or resumes. -/
  | throttle (die : Fin 8) (rgn : Fin 128) (temp : BitVec 16)
  /-- THERM_TRIP, R474: A die at trip level for 4 counts stops; THERMTRIP_N falls and the package fails. -/
  | thermTrip (die : Fin 9) (temp : BitVec 16)
  /-- AVS_FAULT, R471: Three failed AVSBus transactions or a Status fault fail the die. -/
  | avsFault (die : Fin 9) (st : BitVec 16)
  /-- VOLTAGE_STEP, R471: A die changes its voltage target by one 5 mV step. -/
  | voltageStep (die : Fin 9) (up : Bool)
  /-- RAIL_FAULT, R495: A core rail outside 580 to 850 mV for 4 counts is a die rail fault. -/
  | railFault (die : Fin 9) (mv : BitVec 16)
  /-- ENROLL, R478: Writing ENROLL enrols the fabric key in SEC_ENROLL. -/
  | enroll
  /-- SVN_COMMIT, R479: Writing SVN_COMMIT raises the fused SVN to the running image's. -/
  | svnCommit
  /-- DEBUG_UNLOCK, R486: Verify a debug token, erase keys and data, then open debug. -/
  | debugUnlock
  /-- SPI_UNLOCK, R488: Verify an SPI token and open the management port. -/
  | spiUnlock
  /-- SPI_LOCK, R488: Lock the management SPI port. -/
  | spiLock
  /-- ATTEST_GO, R484: Writing GO samples the report fields in one hub cycle. -/
  | attestGo
  /-- ATTEST_DONE, R484: The signed report is placed in SEC_REPORT and DONE set. -/
  | attestDone
  /-- LINK_KEY_WRITE, R482: Writing VALID installs or erases a link's keys. -/
  | linkKeyWrite (n : Fin 33) (v : BitVec 640)
  /-- SPI_READ, R502: SPI read transaction returns status and data from an offset. -/
  | spiRead (off : BitVec 32) (len : Nat)
  /-- SPI_WRITE, R502: SPI write transaction applies whole 4-byte words. -/
  | spiWrite (off : BitVec 32) (data : List (BitVec 8))
  /-- I3C_PRIVATE_WRITE, R503: A one-byte private write sets the sensor read offset. -/
  | i3cPrivateWrite (off : BitVec 8)
  /-- I3C_PRIVATE_READ, R503: A private read returns one sensor refresh from the offset. -/
  | i3cPrivateRead (len : Nat)
  /-- ENTDAA, R503: Dynamic address assignment of the I3C target. -/
  | entdaa (addr : BitVec 7)
  /-- SENSOR_REFRESH, R503: Each 2^12 counts the I3C sensor block is refreshed. -/
  | sensorRefresh
  /-- EXTEST, R504: Boundary scan takes the low-speed pins from the logic. -/
  | extest
  /-- SAMPLE_PRELOAD, R487: Boundary scan samples or preloads boundary cells. -/
  | samplePreload (v : BitVec 63)
  /-- IDCODE, R504: Boundary scan returns the IDCODE. -/
  | idcode
  /-- BYPASS, R487: Boundary scan selects the bypass register. -/
  | bypass
  /-- REGISTER_WRITE, R15: A write to a register field without behaviour of its own sets it by its access code. -/
  | registerWrite (off v : BitVec 32)
  /-- REGION_FAULT, R23: A region's clock generator is lost or its thermal sensor fails; its kernel aborts with a region fault and the region awaits a … -/
  | regionFault (die : Fin 8) (rgn : Fin 128) (cause : Nat)
  /-- TEMPERATURE_BAND_CHANGE, R421: A region's temperature moves at least 1 °C past a band boundary, and a unit in observation must be tested within … -/
  | temperatureBandChange (die : Fin 8) (rgn : Fin 128) (temp : BitVec 16)
  /-- ETH_ENABLE, R374: A write of ETH_CTRL.ENABLE holds the link down and sends a shutdown LLDPDU, or releases the link to come up. -/
  | ethEnable (e : Fin 16) (en : Bool)
  /-- REPRO_DEFAULTS_WRITE, R404: A write to REPRO_DEFAULTS at once recomputes REPRO_SIG_S and REPRO_SIG_C and sets the starting SR_FPCTL of threads … -/
  | reproDefaultsWrite (v : BitVec 32)
  /-- STANDBY_SUPPLY_LOSS, R468: Standby supply is lost; the local count stops and the Carousel contents not in the flush area are lost. -/
  | standbySupplyLoss
  /-- PROPOSAL_FORWARD, R383: The leader takes a map proposal forwarded as a HUB_MSG by a receiving package, checks Table 15-4 and sends MAP_APPEND or … -/
  | proposalForward (src : BitVec 6) (p : Proposal)
  /-- REPLACEMENT_COMPLETE, R424: A spare unit or region replacement, which takes up to 2^10 counts, completes, and a kernel start waiting on it may … -/
  | replacementComplete (die : Fin 8) (rgn : Fin 128)
  deriving DecidableEq, Repr

end Sys2Proof
end

