-- ==== Sys2Proof/Decode.lean ====
section
/-! DEFINITION. The command that a table word spells.  No row of the manual's table gives its command bits: commands
arrive as register accesses, messages, packets, pins and engine events, so no word spells one. -/

namespace Sys2Proof

/-- The command that an opcode-table word spells: none, since no row of the table has bits. -/
def decodeTableWord (nbits w : Nat) : Option Instr :=
  let _ := nbits
  let _ := w
  none

end Sys2Proof
end

