-- ==== Sys2Proof/Config.lean ====
section
/-! DEFINITION. What the manual leaves open: free values, as constants that nothing can evaluate.  Each takes the
number of the choice (State.nonce) or the inputs the value may depend on. -/

namespace Sys2Proof

/-- Whether a region cache still holds, and serves, a copy it once took (R136 gives no replacement rule). -/
opaque Config.cacheHit : Nat → Bool
/-- Arithmetic-clock cycles of the present local count already past (SR_CYCLE, Table 03-2). -/
opaque Config.cyclePhase : Nat → Nat
/-- Contents of an accumulator released by a thread's end (R43, R118). -/
opaque Config.accLeft : Nat → List Nat
/-- The page the allocator takes among the free ones: an index into them (R159). -/
opaque Config.allocPick : Nat → Nat
/-- A draw of a random generator of the part, and other values that physics decides (R342, R160). -/
opaque Config.draw : Nat → Nat
/-- A signature made under a key of the part's key store (R398, R484): key number and the bytes signed. -/
opaque Config.sign : Nat → List Byte → Nat
/-- A value from the part's random number generator (chapter 20). -/
opaque Config.random : Nat → Nat
/-- Bytes of an area whose contents the manual leaves open after an operation (R237, R245): choice number and offset. -/
opaque Config.leftByte : Nat → Nat → Byte
/-- Whether another package's write generation of a table still is what a staged row recorded (R263). -/
opaque Config.peerStill : Nat → Bool
/-- The first check of R435 that fails on what other packages report: 0 none, 1 the identity of the spare, 2 a checkpoint, 3 a
reproducibility signature, 4 a vintage. -/
opaque Config.peerSays : Nat → Nat
/-- Temperature of a die's or the hub's sensor in 0.25 °C steps, by die (8 the hub) and count (R419, R503). -/
opaque Config.dieTemp : Nat → Nat → Nat
/-- Rail voltage in mV, current in A and transactions retried, as a die last read them: by die and count (R471). -/
opaque Config.railMv : Nat → Nat → Nat
opaque Config.railAmps : Nat → Nat → Nat
opaque Config.railRetries : Nat → Nat → Nat
/-- AVSBus status of a rail fault that is no Status fault (Table 19-5). -/
opaque Config.avsStatus : Nat → Nat → Nat
/-- Whether the integrity scan finds that a vintage's hash differs: what the modules hold is theirs (R460). -/
opaque Config.scanDiffers : Nat → Bool
/-- Cause that START_FAILED names for a step that ran longer than its maximum (Table 19-5). -/
opaque Config.failCause : Nat → Nat
/-- Trim of the always-on oscillator and the dies' PLL locks (PWR_CLK_STAT), by count. -/
opaque Config.clockStat : Nat → Nat
/-- Levels of the 63 signals of the boundary register, in an order the manual does not give (R504). -/
opaque Config.pinBits : Nat → Nat

end Sys2Proof
end

