-- ==== Sys2Proof/Machine/Bits.lean ====
section
/-! DEFINITION. Bit fields, byte order (R12), sorted association lists and small list helpers. -/

namespace Sys2Proof.Machine

/-- Bits `hi:lo` of a number (R11). -/
def bits (x hi lo : Nat) : Nat := (x >>> lo) % 2 ^ (hi - lo + 1)
/-- One bit of a number. -/
def bitOf (x i : Nat) : Bool := (x >>> i) % 2 == 1
/-- A Bool as a bit. -/
def b2n (b : Bool) : Nat := if b then 1 else 0
/-- A number as a 64-bit word. -/
def w64 (n : Nat) : Word := BitVec.ofNat 64 n
/-- Sign extension to 64 bits. -/
def sext {n : Nat} (x : BitVec n) : Word := x.signExtend 64

/-- `n` little-endian bytes of a number (R12). -/
def leBytes : (n x : Nat) → List Byte
  | 0, _ => []
  | n + 1, x => BitVec.ofNat 8 x :: leBytes n (x / 256)
/-- The number that little-endian bytes spell (R12). -/
def leNat : List Byte → Nat
  | [] => 0
  | b :: bs => b.toNat + 256 * leNat bs
/-- Byte `i` upward, `n` bytes, of a descriptor or record, as a number (R12). -/
def fieldOf (d : Vec) (i n : Nat) : Nat := (d.toNat >>> (8 * i)) % 2 ^ (8 * n)
/-- A record field: `v`, held to `n` bytes, placed at byte `i`. -/
def putField (i n v : Nat) : Nat := (v % 2 ^ (8 * n)) <<< (8 * i)

/-- An association list with strictly rising keys. -/
abbrev Assoc (α : Type) := List (Nat × α)
/-- The entry under a key. -/
def Assoc.find? {α : Type} : Assoc α → Nat → Option α
  | [], _ => none
  | (k, v) :: m, i => if k = i then some v else Assoc.find? m i
/-- The entry under a key, or a default. -/
def Assoc.getD {α : Type} (m : Assoc α) (i : Nat) (d : α) : α := (m.find? i).getD d
/-- Whether a key has an entry. -/
def Assoc.has {α : Type} (m : Assoc α) (i : Nat) : Bool := (m.find? i).isSome
/-- Set the entry under a key, keeping keys rising. -/
def Assoc.put {α : Type} : Assoc α → Nat → α → Assoc α
  | [], i, v => [(i, v)]
  | (k, w) :: m, i, v =>
    if i < k then (i, v) :: (k, w) :: m
    else if i = k then (i, v) :: m
    else (k, w) :: Assoc.put m i v
/-- Remove the entry under a key. -/
def Assoc.del {α : Type} (m : Assoc α) (i : Nat) : Assoc α := m.filter (fun e => e.1 ≠ i)
/-- The keys, rising. -/
def Assoc.keys {α : Type} (m : Assoc α) : List Nat := m.map Prod.fst
/-- The values in key order. -/
def Assoc.vals {α : Type} (m : Assoc α) : List α := m.map Prod.snd
/-- Apply a function to every value. -/
def Assoc.mapV {α β : Type} (m : Assoc α) (f : Nat → α → β) : Assoc β := m.map (fun e => (e.1, f e.1 e.2))
/-- Change the entry under a key when there is one. -/
def Assoc.upd {α : Type} (m : Assoc α) (i : Nat) (f : α → α) : Assoc α :=
  m.map (fun e => if e.1 = i then (e.1, f e.2) else e)
/-- The key of the first entry that satisfies a test. -/
def Assoc.findKey? {α : Type} (m : Assoc α) (p : Nat → α → Bool) : Option Nat :=
  (List.find? (fun e : Nat × α => p e.1 e.2) m).map Prod.fst

/-- Put a value in its place in a sorted list, before those that it is not above. -/
def insertBy {α : Type} (le : α → α → Bool) (a : α) : List α → List α
  | [] => [a]
  | b :: l => if le a b then a :: b :: l else b :: insertBy le a l
/-- Sort a list; equal values keep their order. -/
def sortBy {α : Type} (le : α → α → Bool) : List α → List α
  | [] => []
  | a :: l => insertBy le a (sortBy le l)

/-- Put every entry of a second map over a first. -/
def Assoc.plus {α : Type} (m n : Assoc α) : Assoc α := n.foldl (fun x e => x.put e.1 e.2) m
/-- A set of numbers, kept strictly rising. -/
abbrev NatSet := List Nat
/-- Add a number to a rising set. -/
def NatSet.add : NatSet → Nat → NatSet
  | [], i => [i]
  | k :: m, i => if i < k then i :: k :: m else if i = k then k :: m else k :: NatSet.add m i
/-- Remove a number from a set. -/
def NatSet.rem (m : NatSet) (i : Nat) : NatSet := m.filter (· ≠ i)

/-- The least number below `n` that satisfies a test. -/
def leastBelow (n : Nat) (p : Nat → Bool) : Option Nat := (List.range n).find? p
/-- Counters wrap at their width (R66). -/
def bump (w x n : Nat) : Nat := (x + n) % 2 ^ w

/-- Element `i` of width `w` of a number. -/
def lane (w x i : Nat) : Nat := (x >>> (w * i)) % 2 ^ w
/-- The number whose elements of width `w` are `f i`, `f (i+1)`, … (`n` of them). -/
def lanesFrom (w : Nat) (f : Nat → Nat) : (i n : Nat) → Nat
  | _, 0 => 0
  | i, n + 1 => f i % 2 ^ w + 2 ^ w * lanesFrom w f (i + 1) n
/-- A 512-bit vector from its elements of width `w`. -/
def vecOf (w n : Nat) (f : Nat → Nat) : Vec := BitVec.ofNat 512 (lanesFrom w f 0 n)
/-- Signed reading of a `w`-bit number. -/
def toS (w x : Nat) : Int := if x < 2 ^ (w - 1) then (x : Int) else (x : Int) - 2 ^ w
/-- Two's complement of an integer at width `w`. -/
def ofS (w : Nat) (x : Int) : Nat := (x % 2 ^ w).toNat
/-- Number of set bits among the low `n`. -/
def popc (x : Nat) : Nat → Nat
  | 0 => 0
  | n + 1 => popc x n + (x >>> n) % 2

end Sys2Proof.Machine
end

