-- ==== Sys2Proof/Machine/UnitState.lean ====
section
/-! DEFINITION. The state of one unit (Table 01-1, Table 02-1): eight threads, the engine queues, the accumulators, the
write buffer and the DMA transfers; and of one running thread group.  Every structure is plain data. -/

namespace Sys2Proof.Machine

/-- The states of a thread slot (Table 02-2). -/
inductive TState where
  | empty | ready | pending | waiting | stalled | draining | stopped
  deriving DecidableEq, Repr

/-- A condition that a consumer meets (R108): POISON 0x10, REMOTE 0x11 or TIMEOUT 0x12, and its detail word. -/
structure Mark where
  code : Nat
  detail : Word
  deriving DecidableEq, Repr

/-- A register of a thread, as the scoreboard and the marks name it (R42, R108). -/
inductive Reg where
  | s (i : Nat)
  | v (i : Nat)
  | p (i : Nat)
  deriving DecidableEq, Repr

/-- What a Pending thread's next instruction needs (R38, R41, R42, R82). -/
structure Want where
  regs : List Reg
  /-- a scoreboard entry of the thread's share (R41) -/
  score : Bool := false
  /-- a place in the vector queue -/
  vq : Bool := false
  /-- a place in the matrix queue -/
  mq : Bool := false
  /-- a write-buffer entry (R82) -/
  wb : Bool := false
  /-- a place in the DMA queue -/
  dq : Bool := false
  /-- a free DMA tag, by number -/
  tag : Option Nat := none
  /-- no vector instruction of the thread outstanding (SRD of SR_VFLAGS, R71) -/
  vdone : Bool := false
  deriving DecidableEq, Repr

/-- What a Waiting thread waits for (R103, R91). -/
inductive WaitFor where
  | bar (rel acq : Bool)
  | fence
  | dwait (mask : Nat)
  | vwait
  | mwait
  | claim (acc : Nat)
  /-- Shelf offset, value, result register, expiry count when armed (R104) -/
  | waite (off : Nat) (val : Word) (d : Nat) (expiry : Option Nat)
  deriving DecidableEq, Repr

/-- An access stalled on an absent segment (R203, Table 07-7). -/
structure Stall where
  source : Nat
  access : Nat
  addr : Nat
  len : Nat
  count : Nat
  /-- fault-queue slot once the record has posted -/
  slotNo : Option Nat
  /-- the wait was counted in FLT_OVERFLOW -/
  delayed : Bool
  /-- expiry of the service timeout (R211) -/
  expiry : Option Nat
  deriving DecidableEq, Repr

/-- What an outstanding load or value-returning remote operation brings back (R41, R97). -/
structure Load where
  id : Nat
  reg : Reg
  addr : Nat
  /-- size code of LD (0–6), or 2/3 for RMT; 7 marks a vector load -/
  sz : Nat
  /-- active bytes of a vector load -/
  mask : Nat
  /-- Z bit and old value of a vector load -/
  zero : Bool
  /-- RMT operation (Table 03-11) and operands -/
  rmt : Option (Nat × Word × Word)
  /-- outstanding in another package, or held at the home, and completed by that answer -/
  remote : Bool
  /-- package of the bytes; whether its request has gone there; SR_RTMO at issue (R98, R99) -/
  dest : Nat
  sent : Bool
  tmo : Nat
  deriving DecidableEq, Repr

/-- An outstanding write of the unit's write buffer (R82): ST, VST or a register-free RMT. -/
structure WbEntry where
  id : Nat
  slot : Nat
  addr : Nat
  len : Nat
  data : Nat
  /-- bytes written, one bit each -/
  mask : Nat
  rmt : Option (Nat × Word × Word)
  sz : Nat
  remote : Bool
  /-- the thread was stopped or drained away from it: no failure left to report -/
  failed : Option Mark
  /-- answered: performed -/
  done : Bool
  /-- package of the bytes; whether its request has gone there; SR_RTMO at issue (R98, R99) -/
  dest : Nat
  sent : Bool
  tmo : Nat
  deriving DecidableEq, Repr

/-- A DMA transfer under a tag (R93 to R95). -/
structure Dma where
  id : Nat
  srcSp : Nat
  dstSp : Nat
  src : Nat
  dst : Nat
  len : Nat
  sn : Word
  tmo : Nat
  /-- Guelyo tags still outstanding -/
  parts : Nat
  /-- bytes of a read that has been answered, by offset -/
  got : List (Nat × List Byte × Bool)
  failed : Option Mark
  done : Bool
  /-- 0: reads not sent; 1: reads sent; 2: writes sent or performed -/
  phase : Nat
  /-- packages that hold a part of the destination, each in Table 01-4's per-pair order (R98) -/
  dest : List Nat
  /-- a performed post-area DMA: area, order in which it was performed, descriptors not yet consumed (R277) -/
  post : Option (Nat × Nat × List Vec)
  deriving DecidableEq, Repr

/-- The fetch of an instruction whose bytes no Larder line of this package holds: its number, requests still out, and whether
any of its bytes came as poison or not at all (R76, R107). -/
structure Fetch where
  id : Nat
  parts : Nat
  bad : Bool
  deriving DecidableEq, Repr

/-- Classes of vector-queue entries. -/
inductive VCls where
  | valu | vcvt | vlds | vsts | pred | vmov | vaflt | tki
  deriving DecidableEq, Repr

/-- One entry of the vector queue: the instruction with the operands it captured at issue (R37, R71). -/
structure VOp where
  id : Nat
  slot : Nat
  cls : VCls
  fn : Nat
  et : Nat
  zero : Bool
  pg : Nat
  va : Nat
  vb : Nat
  old : Nat
  sval : Nat
  off : Nat
  dst : Option Reg
  fpctl : Nat
  seed : Word
  n : Nat
  group : Nat
  tid : Nat
  deriving DecidableEq, Repr

/-- One entry of the matrix queue. -/
structure MOp where
  id : Nat
  slot : Nat
  /-- 0 MMA, 1 MST, 2 AZERO, 3 AREL -/
  kind : Nat
  acc : Nat
  a : Nat
  b : Nat
  c : Nat
  fa : Nat
  fb : Nat
  cont : Bool
  srnd : Bool
  seed : Word
  n : Nat
  group : Nat
  tid : Nat
  deriving DecidableEq, Repr

/-- The exact sum of an open block of one accumulator element (R120 to R122), in units of 2^-320. -/
structure Blk where
  sum : Int
  cmin : Option Int
  cmax : Option Int
  nan : Bool
  pinf : Bool
  ninf : Bool
  deriving DecidableEq, Repr

/-- An accumulator tile (R43, R88 to R92, R118). -/
structure Acc where
  /-- 16 × 16 elements, row-major; an empty list is all zeros -/
  elems : List Nat
  /-- 0 unset, 1 INT32, 2 FP32 -/
  fmt : Nat
  /-- format that issue sees (after the queued instructions) -/
  ifmt : Nat
  holder : Option Nat
  /-- slot that last received the tile (R43) -/
  last : Nat
  /-- open block at issue: FA, FB, elements so far (R90) -/
  blk : Option (Nat × Nat × Nat)
  /-- the exact sums of the open block, in element order -/
  sums : List Blk
  poison : Bool
  /-- queued AREL will release it -/
  releasing : Bool
  deriving DecidableEq, Repr

/-- A thread slot with its register files (Table 03-1) and special registers (Table 03-2). -/
structure Thread where
  st : TState
  ctx : Nat
  tid : Nat
  group : Nat
  pc : Word
  s : Vector Word 32
  v : Vector Vec 8
  p : Vector Word 8
  fpctl : Word
  vflags : Word
  srseed : Word
  rtmo : Word
  /-- local count at which the group was placed (SR_CYCLE) -/
  placed : Nat
  /-- stochastic-rounding instructions issued (R129) -/
  srn : Nat
  /-- marks left by loads and remote operations (R108) -/
  marks : List (Reg × Mark)
  /-- failures still unreported, oldest first, with the DMA tag when a tag failed (R105, R108) -/
  fails : List (Option Nat × Mark)
  loads : List Load
  dma : Vector (Option Dma) 4
  want : Option Want
  wait : Option WaitFor
  /-- count at which it began to wait (R65) -/
  waitAt : Nat
  stall : Option Stall
  fetch : Option Fetch
  /-- at the barrier (R48) -/
  arrived : Bool
  deriving DecidableEq, Repr

/-- Known-answer test in progress on a unit (R65, R420). -/
structure Kat where
  start : Nat
  prog : Nat
  pert : Nat
  deriving DecidableEq, Repr

/-- A unit. -/
structure Unt where
  th : Vector Thread 8
  /-- rotating issue pointer (R39) -/
  ptr : Nat
  vq : List VOp
  /-- instructions in the DMA queue that the engine has not taken: slot and number of each (Table 02-1) -/
  dq : List (Nat × Nat)
  mq : List MOp
  /-- matrix operation whose engine time runs (MATRIX_OP_COMPLETE follows) -/
  mrun : Option MOp
  acc : Vector Acc 4
  wb : List WbEntry
  /-- context whose group the unit last held (R47) -/
  lastCtx : Option Nat
  kat : Option Kat
  deriving DecidableEq, Repr

/-- A thread group on its cluster (R45, R48, R146, R147). -/
structure GroupRun where
  ctx : Nat
  num : Nat
  n : Nat
  /-- threads released to issue (R63) -/
  started : Bool
  /-- ids of the writes that releasing arrivals of the present barrier carry (R146) -/
  carried : List Nat
  /-- carried writes of the barrier that all threads have passed and that acquiring threads still await (R147) -/
  passed : List Nat
  deriving DecidableEq, Repr

/-- An empty thread slot. -/
def Thread.reset : Thread :=
  { st := .empty, ctx := 0, tid := 0, group := 0, pc := 0, s := Vector.replicate 32 0, v := Vector.replicate 8 0,
    p := Vector.replicate 8 0, fpctl := 0, vflags := 0, srseed := 0, rtmo := 0x100000, placed := 0, srn := 0,
    marks := [], fails := [], loads := [], dma := Vector.replicate 4 none, want := none, wait := none, stall := none,
    fetch := none, arrived := false, waitAt := 0 }
/-- An accumulator after reset: unset, unheld, zero. -/
def Acc.reset : Acc :=
  { elems := [], fmt := 0, ifmt := 0, holder := none, last := 7, blk := none, sums := [], poison := false,
    releasing := false }
/-- A unit after reset. -/
def Unt.reset : Unt :=
  { th := Vector.replicate 8 .reset, ptr := 0, vq := [], dq := [], mq := [], mrun := none, acc := Vector.replicate 4 .reset,
    wb := [], lastCtx := none, kat := none }

end Sys2Proof.Machine
end

