-- ==== Sys2Proof/Machine/MemState.lean ====
section
/-! DEFINITION. Contexts, segments, kernels, the fault queue, the Cellar, the composition map and the recorder, as plain
data (chapters 06, 07, 14, 15, 18). -/

namespace Sys2Proof.Machine

/-- A segment entry (Table 07-3, R191 to R196). -/
structure Seg where
  tier : Nat
  placement : Nat
  die : Nat
  present : Bool
  r : Bool
  w : Bool
  a : Bool
  c : Bool
  cohMode : Nat
  /-- source entry of an alias (R195) -/
  src : Option (Nat × Nat)
  base : Nat
  limit : Nat
  vintage : Nat
  /-- page list: key `die · 2^40 + page index of the die offset`, value page number (R157) -/
  pages : Assoc Nat
  deriving DecidableEq, Repr

/-- A consumed descriptor that waits or runs (R366, R367). -/
structure QDesc where
  op : Nat
  seq : Nat
  d : Vec
  /-- consumed through ETH_SYS_DESC (R369) -/
  sys : Bool
  /-- status fixed at consumption: a no-operation that completes in its turn -/
  status : Option Nat
  /-- context and number of the post area it came from (R278) -/
  post : Option (Nat × Nat)
  /-- a search forwarded by another package: the lead, N_LISTS there, and the batch (R215) -/
  fwd : Option (Nat × Nat × List QueryFwd)
  /-- a hub-order descriptor's segments as its check at queue time met them (R201) -/
  segs : Option (Assoc Seg) := none
  deriving DecidableEq, Repr

/-- A precise exception as the completion reports it (R109). -/
structure Exc where
  code : Nat
  unit : Nat
  slot : Nat
  pc : Word
  detail : Word
  deriving DecidableEq, Repr

/-- The running kernel of a context (R57 to R63). -/
structure Kernel where
  q : QDesc
  /-- group counter (R51) -/
  next : Nat
  ended : Nat
  /-- counter closed (R59 step 3) -/
  closed : Bool
  /-- abort cause of Table 14-6, 0 none -/
  cause : Nat
  exc : Option Exc
  /-- final status of a search or embedding kernel, with DETAIL -/
  result : Option (Nat × Nat)
  /-- vintages pinned (R180): by segment, their keys -/
  pins : List (Option Nat)
  /-- threads of a persistent kernel released (R63) -/
  released : Bool
  /-- hub-order descriptors queued before it that had not completed when it started (R61) -/
  ahead : List QDesc
  deriving DecidableEq, Repr

/-- Context states (Table 07-1). -/
inductive CState where
  | unset | idle | running | halted
  deriving DecidableEq, Repr

/-- A completion ring (R370). -/
structure Ring where
  set : Bool
  qp : Nat
  key : Nat
  va : Nat
  log2 : Nat
  freedEn : Bool
  freed : Nat
  f : Nat
  m : Nat
  deriving DecidableEq, Repr

/-- A completion held on a ring (R371): its record with PHASE 0, SEQ and NOTIFY. -/
structure HeldCmp where
  ring : Nat
  rec256 : Nat
  seq : Nat
  notify : Bool
  deriving DecidableEq, Repr

/-- An intake binding (R270 to R275). -/
structure Intake where
  qp : Nat
  d : Vec
  /-- frames placed, and the count at FREED -/
  n : Nat
  f : Nat
  /-- arrival words written (R272) -/
  told : Nat
  deriving DecidableEq, Repr

/-- A post area (R276 to R279). -/
structure Post where
  d : Vec
  /-- bound now -/
  on : Bool
  /-- descriptors consumed, completions written, and the count at CFREED -/
  used : Nat
  m : Nat
  f : Nat
  /-- arrival words written (R279) -/
  told : Nat
  deriving DecidableEq, Repr

/-- An embedding table slot of a context (Table 09-1). -/
structure Table where
  d : Vec
  ver : Nat
  deriving DecidableEq, Repr

/-- A context (Table 07-2). -/
structure Ctx where
  st : CState
  dieMask : Nat
  first : Nat
  cnt : Nat
  pfPages : Nat
  svcTmo : Nat
  ringQp : Nat
  ringKey : Nat
  ringVa : Nat
  /-- the hub stopped writing to the fault ring (R209); rings installed so far -/
  ringBad : Bool
  ringNo : Nat
  nextSeq : Nat
  segs : Assoc Seg
  queue : List QDesc
  kernel : Option Kernel
  rings : Assoc Ring
  held : List HeldCmp
  intakes : Assoc Intake
  posts : Assoc Post
  /-- arrival words still owed for bindings that have ended: unit locator, Shelf offset, first number, how many (R272) -/
  owed : List (Nat × Nat × Nat × Nat)
  tables : Assoc Table
  /-- the first hub-order descriptor has begun -/
  hubOn : Bool
  /-- SVC_SENDs in flight, by number, and the number of the next (R280) -/
  sends : Assoc QDesc
  sendNo : Nat
  deriving DecidableEq, Repr

/-- A context that nothing has configured. -/
def Ctx.reset : Ctx :=
  { st := .unset, dieMask := 0, first := 0, cnt := 0, pfPages := 0, svcTmo := 0, ringQp := 0, ringKey := 0, ringVa := 0,
    ringBad := false, ringNo := 0, nextSeq := 0, segs := [], queue := [], kernel := none, rings := [], held := [], intakes := [],
    posts := [], owed := [], tables := [], hubOn := false, sends := [], sendNo := 0 }

/-- Power states of a region (Table 19-4): Active, Gated, Sleep, Off. -/
inductive RPow where
  | active | gated | sleep | off
  deriving DecidableEq, Repr

/-- A region: power state, entry or wake in progress, idle timing, failure (R52, R54, R469). -/
structure Rgn where
  pow : RPow
  /-- state being entered, and the count at which the entry completes -/
  entering : Option (RPow × Nat)
  /-- count at which a wake in progress makes it Active -/
  waking : Option Nat
  /-- wake waiting for the entry to complete (R54) or for the rate limit (R470) -/
  deferred : Bool
  /-- count since which the region holds no group -/
  idleAt : Nat
  /-- count at which it entered its idle state -/
  lowAt : Nat
  /-- idle state named by the last kernel (Table 02-3) -/
  idleSel : Nat
  failed : Bool
  retired : Bool
  throttled : Bool
  temp : Nat
  deriving DecidableEq, Repr

/-- A region after reset: Off. -/
def Rgn.reset : Rgn :=
  { pow := .off, entering := none, waking := none, deferred := false, idleAt := 0, lowAt := 0, idleSel := 0,
    failed := false, retired := false, throttled := false, temp := 0 }

/-- An open fault record (Table 07-7), without its GEN and SLOT. -/
structure FRec where
  ctx : Nat
  comp : Nat
  unit : Nat
  slot : Nat
  gen : Nat
  rec512 : Nat
  deriving DecidableEq, Repr

/-- The fault queue (R207, R210). -/
structure Flt where
  recs : Assoc FRec
  /-- generation of a slot's next post -/
  gens : Assoc Nat
  /-- fault ids closed by a service timeout (R211) -/
  timed : List Nat
  deriving DecidableEq, Repr

/-- A key entry (Table 07-4, R362, R363). -/
structure Key where
  gen : Nat
  ctx : Nat
  seg : Nat
  window : Bool
  control : Bool
  acc : Nat
  win : Nat
  len : Nat
  va : Nat
  comp : Nat
  /-- revoked, and draining (R392) -/
  revoked : Bool
  deriving DecidableEq, Repr

/-- What a message sent on a queue pair carries (R357). -/
inductive QpKind where
  | write (key va : Nat)
  | send (imm : Option Nat)
  deriving DecidableEq, Repr

/-- Why a message was sent: what its acknowledgement, or the queue pair's failure, bears on. -/
inductive QpUse where
  /-- a completion of a context on its ring -/
  | cmp (ctx : Nat) (h : HeldCmp)
  /-- the notification that follows a completion -/
  | notify (ctx : Nat)
  /-- a fault record on a context's ring: queue pair and number of the ring (R209) -/
  | fault (ctx qp no : Nat)
  | event
  | ledger
  /-- SVC_SEND number k of a context (R280) -/
  | svc (ctx k : Nat)
  /-- inter-pod message (R308) -/
  | xpod
  deriving DecidableEq, Repr

/-- A message sent and not yet acknowledged (R358). -/
structure QpMsg where
  first : Nat
  last : Nat
  kind : QpKind
  use : QpUse
  data : List Byte
  deriving DecidableEq, Repr

/-- A queue pair (R357 to R361). -/
structure Qp where
  comp : Nat
  ctx : Nat
  /-- the QP_SET descriptor that holds its fields (Table 14-3) -/
  d : Vec
  err : Bool
  sqPsn : Nat
  rqPsn : Nat
  unacked : List QpMsg
  retries : Nat
  rnrs : Nat
  timer : Option Nat
  rate : Nat
  lastCut : Nat
  lastCnp : Option Nat
  /-- RDMA READs received and not yet acknowledged: key and last response PSN -/
  reads : List (Nat × Nat)
  deriving DecidableEq, Repr

/-- A vintage (Table 06-7). -/
structure Vint where
  comp : Nat
  num : Nat
  /-- 0 Open, 1 Sealed, 2 Retiring -/
  st : Nat
  /-- Cellar extent numbers in index order -/
  exts : List Nat
  pads : List Nat
  hashes : List Nat
  /-- extents held and not yet written: number and plaintext -/
  area : List (Nat × List Byte)
  /-- stripe sets written for the vintage -/
  sets : List Nat
  hash : Nat
  pins : Nat
  /-- writes of the vintage not yet acknowledged -/
  acks : Nat
  /-- seal or abort that waits for acknowledgements: 0 none, 1 seal, 2 abort, 3 seal whose hash is being written -/
  ending : Nat
  /-- extents of its own placed so far, padding included; extents consumed and not yet added; extents added once every
  consumed descriptor has run; and whether a seal or abort has been consumed -/
  own : Nat
  coming : Nat
  planned : Nat
  closing : Bool
  /-- the integrity scan found its hash to differ (R460) -/
  bad : Bool
  deriving DecidableEq, Repr

/-- A Cellar extent (R165, R176, R185). -/
structure CExt where
  comp : Nat
  refs : Nat
  poisoned : Bool
  counter : Nat
  deriving DecidableEq, Repr

/-- A Cellar channel and its module (R170). -/
structure CChan where
  up : Bool
  ident : Bool
  failed : Bool
  downAt : Nat
  statusAt : Nat
  tmos : List Nat
  tmoCount : Nat
  modId : Nat
  sectors : Nat
  /-- health, spare blocks and temperature of the last STATUS (Table 06-6) -/
  health : Nat
  spare : Nat
  temp : Nat
  deriving DecidableEq, Repr

/-- A READ, WRITE or TRIM outstanding on a channel (R168, R171). -/
structure CTag where
  ch : Nat
  /-- 0 read, 1 write, 2 trim -/
  kind : Nat
  sector : Nat
  n : Nat
  expiry : Option Nat
  /-- the sector fetch it serves, and the row position it reads -/
  fkey : Nat
  pos : Nat
  /-- vintage whose publish it belongs to, for writes; 0 none -/
  vint : Nat
  /-- sectors of a write -/
  data : List Byte
  deriving DecidableEq, Repr

/-- A data sector the hub is fetching for its waiters (R174, R175). -/
structure CFetch where
  waiters : Nat
  /-- the sector once it is here: bytes, or none for poison -/
  got : Option (Option (List Byte))
  /-- reconstruction under way: row positions received so far -/
  recon : Option (Assoc (List Byte))
  /-- the reconstructed sector goes back to its module (R175) -/
  back : Bool
  /-- row positions that could not be read -/
  missed : List Nat
  deriving DecidableEq, Repr

/-- The Cellar (chapter 06). -/
structure Cellar where
  /-- slot: state (0 empty, 1 healthy, 2 failed, 3 rebuilding, 4 spare ready) and channel -/
  slots : Assoc (Nat × Nat)
  chans : Assoc CChan
  tags : Assoc CTag
  /-- commands that wait for a free tag, an Up link or credits of their channel, in order -/
  unsent : List CTag
  /-- tags given up before their reply came: channel · 1,024 + tag -/
  stale : NatSet
  fetch : Assoc CFetch
  exts : Assoc CExt
  vints : Assoc Vint
  /-- highest vintage number each composition has opened -/
  opened : Assoc Nat
  /-- stripe sets allocated -/
  setsUsed : NatSet
  rebuild : Option Nat
  cursor : Nat
  /-- row of the cursor's stripe set that the rebuild is at, and the set that this period's share ends before (R177) -/
  rbRow : Nat
  rbGoal : Nat
  scrubCursor : Nat
  /-- row that the scrubber is at, stripe sets left of this period's share, and the positions of the row read so far while a
  row is being checked (R178) -/
  scRow : Nat
  scLeft : Nat
  scrub : Option (Assoc (List Byte))
  /-- counts at which the current rebuild and scrub periods began (R177, R178) -/
  periodAt : Nat
  scrubAt : Nat
  deriving DecidableEq, Repr

/-- The per-package part of a composition entry (Table 15-3). -/
structure CPart where
  ctxFirst : Nat
  ctxCount : Nat
  /-- (FIRST_RGN, RGN_COUNT) of each die -/
  rgn : List (Nat × Nat)
  larder : Nat
  cellar : Nat
  vintages : Nat
  qpQuota : Nat
  keyQuota : Nat
  fltRes : Nat
  httRes : Nat
  trkRes : Nat
  rdtRes : Nat
  swcRes : List Nat
  slots : Nat
  pfPages : Nat
  deriving DecidableEq, Repr

/-- A composition entry (Table 15-2). -/
structure Comp where
  strict : Bool
  closed : Bool
  agents : List Nat
  parts : Assoc CPart
  stripe : List Nat
  deriving DecidableEq, Repr

/-- The event recorder (chapter 18). -/
structure Evr where
  seq : Nat
  cold : Nat
  carousel : Assoc Nat
  vault : List Nat
  flushArea : Assoc Nat
  shipped : Bool
  /-- count at which a running flush began, with the Carousel slots it copies -/
  flushing : Option (Assoc Nat)
  tokens : Assoc Nat
  subTokens : Assoc Nat
  /-- suppressed count and count of the first suppression, by code -/
  supp : Assoc (Nat × Nat)
  rates : Assoc (Nat × Nat)
  msgs : Nat
  refillAt : Nat
  /-- PWRFAIL_N is low -/
  pwrfail : Bool
  deriving DecidableEq, Repr

/-- A revocation that still drains (R392): KEY_REVOKE of a key, or the items of a REVOKE epoch. -/
structure Revoke where
  key : Option Nat
  ctx : Nat
  seg : Nat
  first : Nat
  bytes : Nat
  epoch : Nat
  /-- the KEY_REVOKE descriptor to complete -/
  q : Option (Nat × QDesc)
  deriving DecidableEq, Repr

/-- A proposal whose MAP_PROPOSE waits here for its outcome (R378, R383). -/
structure Proposing where
  q : QDesc
  bytes : List Byte
  base : Nat
  deriving DecidableEq, Repr

/-- What a leader has appended and not yet committed (R383). -/
structure Appended where
  epoch : Nat
  bytes : List Byte
  acks : NatSet
  at_ : Nat
  /-- package that received the proposal -/
  origin : Nat
  deriving DecidableEq, Repr

/-- Cumulative charge totals of a composition (Table 15-7). -/
structure Charge where
  active : Nat
  region : Nat
  larder : Nat
  cellar : Nat
  slot : Nat
  deriving DecidableEq, Repr

/-- The map of compositions and the package's place in its pod (chapter 15). -/
structure MapSt where
  podPkg : Option (Nat × Nat)
  epoch : Nat
  term : Nat
  members : List Nat
  comps : Assoc Comp
  /-- committed entries, newest first: epoch, term, proposal -/
  log : List (Nat × Nat × List Byte)
  prepared : Option (Nat × Nat × List Byte)
  appended : Option Appended
  /-- committed by the leader and not yet applied here -/
  committed : Option (Nat × List Byte)
  heard : Assoc Nat
  leading : Bool
  hbAt : Nat
  partners : List Nat
  /-- the package's number belongs to another identity (R437) -/
  fenced : Bool
  /-- identity and ownership version of package numbers that a takeover has moved (R436) -/
  idents : Assoc (Nat × Nat)
  /-- proposals that wait at the leader behind the one being appended: receiving package, bytes -/
  waitProps : List (Nat × List Byte)
  proposing : List Proposing
  /-- revoked extents: context, segment, first offset, bytes -/
  revoked : List (Nat × Nat × Nat × Nat)
  revoking : List Revoke
  /-- pages released and waiting for their zeroing: die · 2^17 + page, composition -/
  freeing : List (Nat × Nat)
  /-- resources of an older epoch still to be returned -/
  draining : List Nat
  /-- ownership version and owner package by state number (R393, R394) -/
  owners : Assoc (Nat × Nat)
  charge : Assoc Charge
  chargeSeq : Nat
  chargeAt : Nat
  ledger : Option (Nat × Nat × Nat × Nat)
  chargeHeld : List (Nat × Nat × Bool × List Byte)
  deriving DecidableEq, Repr

end Sys2Proof.Machine
end

