-- ==== Sys2Proof/Machine/NetState.lean ====
section
/-! DEFINITION. Guelyo links, outstanding requests, and the home agents, as plain data (chapters 11 and 12). -/

namespace Sys2Proof.Machine

/-- A flit kept until it is acknowledged (R289). -/
structure RetryFlit where
  seq : Nat
  resent : Nat
  /-- header and slots as they were first sent (Table 11-3) -/
  hdr : Nat
  slots : Nat
  deriving DecidableEq, Repr

/-- A message waiting for credit: virtual channel, slots, bytes. -/
structure OutMsg where
  vc : Nat
  data : List Byte
  deriving DecidableEq, Repr

/-- The keys of a Guelyo link or a Cellar channel (R482, R483). -/
structure LinkKey where
  valid : Bool
  persist : Bool
  txKey : Nat
  rxKey : Nat
  txSalt : Nat
  rxSalt : Nat
  /-- Up index that the next transmission takes, and one above the last verified on reception, 0 with none -/
  txUp : Nat
  rxUp : Nat
  deriving DecidableEq, Repr

/-- No key installed. -/
def LinkKey.reset : LinkKey :=
  { valid := false, persist := false, txKey := 0, rxKey := 0, txSalt := 0, rxSalt := 0, txUp := 0, rxUp := 0 }

/-- A Guelyo link (0–15) or the link layer of a Cellar channel (16–32) (R283 to R292). -/
structure Link where
  /-- 0 Down, 1 Training, 2 Hello, 3 Up, 4 Held (GLY_STAT) -/
  st : Nat
  entered : Nat
  helloRx : Nat
  helloTx : Nat
  helloSent : Bool
  partner : Option HelloBody
  txSeq : Nat
  oldest : Nat
  ackAt : Nat
  retry : List RetryFlit
  rxSeq : Nat
  discarding : Bool
  /-- protected flits sent and received since Up (R288) -/
  txProt : Nat
  rxProt : Nat
  authFails : Nat
  /-- keys of this Up, its index on transmission, and on reception once the first group has verified (R482, R483) -/
  keys : LinkKey
  txUp : Nat
  rxUp : Nat
  /-- flits of the group whose tag has not come, as header and slots, and the sequence number of the first (R288) -/
  grp : List (Nat × Nat)
  grpSeq : Nat
  /-- hellos and freed slots of that group -/
  pend : List HelloBody
  fresh : List Nat
  /-- credits of the partner's hello, slots sent, slots the partner freed, slots freed here: REQ, RSP, SNP, MSG -/
  init : List Nat
  sent : List Nat
  freed : List Nat
  ours : List Nat
  waiting : List OutMsg
  deriving DecidableEq, Repr

/-- A link after reset: Down (Table 11-1). -/
def Link.reset : Link :=
  { st := 0, entered := 0, helloRx := 0, helloTx := 0, helloSent := false, partner := none, txSeq := 0, oldest := 0,
    ackAt := 0, retry := [], rxSeq := 0, discarding := false, txProt := 0, rxProt := 0, authFails := 0,
    keys := .reset, txUp := 0, rxUp := 0, grp := [], grpSeq := 0, pend := [], fresh := [0, 0, 0, 0],
    init := [0, 0, 0, 0], sent := [0, 0, 0, 0], freed := [0, 0, 0, 0], ours := [0, 0, 0, 0], waiting := [] }

/-- An accepted request that waits here: link, operation, header and body, and the context's segments as its check met them
(R201, R306). -/
structure Waiting where
  link : Fin 17
  op : Nat
  h : ReqHdr
  data : List Byte
  segs : Assoc Seg
  deriving DecidableEq, Repr

/-- Whose operation an outstanding request carries. -/
inductive ReqUse where
  | load (u t id : Nat)
  | wb (u id : Nat)
  /-- a part of a DMA: unit, slot, tag, byte offset of the part -/
  | dma (u t tag off : Nat)
  /-- a peer-cache fill (R316) -/
  | peer (key : Nat)
  /-- a hub read of bytes of another package: key of the read; and a hub write for a context -/
  | hub (key : Nat)
  | hubW (ctx : Nat)
  /-- a part of an instruction fetch (R76) -/
  | fetch (u t id : Nat)
  /-- a read of a count that another package holds: context and which (R370) -/
  | count (ctx which : Nat)
  /-- a coherence reply owed to nobody here -/
  | other
  deriving DecidableEq, Repr

/-- A request of this package to another, outstanding or held (R297 to R310). -/
structure OutReq where
  op : Nat
  dest : Nat
  /-- unit locator of the issuer -/
  unit : Nat
  tag : Nat
  comp : Nat
  ctx : Nat
  seg : Nat
  off : Nat
  len : Nat
  data : List Byte
  poison : Bool
  strict : Bool
  tmo : Nat
  expiry : Option Nat
  /-- plane it went out on; 16 for an inter-pod queue pair -/
  plane : Nat
  /-- order of first sending -/
  ord : Nat
  use : ReqUse
  deriving DecidableEq, Repr

/-- How requests of one destination stand (R301, R305). -/
structure Pair where
  plane : Nat
  /-- waiting to change plane, or to reissue after a stale epoch -/
  stopped : Bool
  /-- map epoch to reach before reissuing -/
  needEpoch : Nat
  /-- requests refused with STALE_EPOCH or EPOCH_AHEAD, and the number of AHEAD among them -/
  refused : List (OutReq × Bool)
  /-- new requests held, in order -/
  held : List OutReq
  /-- snoops, hub messages and responses held, in order -/
  msgs : List OutMsg
  deriving DecidableEq, Repr

/-- A request held here for an epoch not yet applied (R305). -/
structure InHeld where
  l : Fin 17
  op : Nat
  h : ReqHdr
  data : List Byte
  expiry : Nat
  deriving DecidableEq, Repr

/-- An inter-pod queue pair: destination, queue pair, last use (R308, R310). -/
structure XPod where
  dest : Nat
  qp : Nat
  used : Nat
  deriving DecidableEq, Repr

/-- A line of the peer cache (R316, Table 12-3): 1 S, 2 WAIT_S, 3 WAIT_S_DROP. -/
structure PeerLine where
  st : Nat
  data : Nat
  poison : Bool
  /-- loads that wait for it -/
  waiters : List ReqUse
  ctx : Nat
  seg : Nat
  comp : Nat
  dest : Nat
  off : Nat
  /-- count before which a refused fill is not reissued -/
  retryAt : Option Nat
  /-- order in which lines came -/
  age : Nat
  deriving DecidableEq, Repr

/-- A hub read of bytes of another package: those who wait for it, and the bytes with their poison once here. -/
structure HubRead where
  waiters : Nat
  got : Option (List Byte × Bool)
  deriving DecidableEq, Repr

/-- Guelyo (chapter 11). -/
structure Gly where
  links : Assoc Link
  /-- latest PORT_STATE: key plane · 64 + port, value (state, role, pod) (R299) -/
  ports : Assoc (Nat × Nat × Nat)
  reqs : Assoc OutReq
  /-- requests whose timeout has acted: `die · 2^16 + tag`, and the requester's locator (R99) -/
  timed : Assoc Nat
  pairs : Assoc Pair
  inHeld : Assoc InHeld
  xpods : List XPod
  /-- map epoch of other pods, as last learned (R308) -/
  podEpoch : Assoc Nat
  /-- reads of Cellar segments by other packages, waiting for their sectors -/
  celWait : List Waiting
  /-- requests that wait behind an earlier request of their source port (R306) -/
  behind : List Waiting
  peer : Assoc PeerLine
  /-- attachments of this package's peer cache at other homes: (home, context, segment) (R316) -/
  peerAt : List (Nat × Nat × Nat)
  /-- leases of this package as an agent, by home: duration, count of the last LEASE sent, count from which it is held
  (R330) -/
  lease : Assoc (Nat × Nat × Nat)
  /-- hub reads of other packages, by context, program address and length -/
  hub : Assoc HubRead
  deriving DecidableEq, Repr

/-- An attachment of an agent to a coherent segment (R313). -/
structure Attach where
  ctx : Nat
  seg : Nat
  /-- pod · 64 + port -/
  port : Nat
  agent : Nat
  isPkg : Bool
  deriving DecidableEq, Repr

/-- What a home transaction serves once its snoops are answered (R322). -/
inductive HAct where
  /-- a coherence request of an agent: opcode, link, header -/
  | coh (op : Nat) (l : Fin 17) (h : ReqHdr) (data : List Byte)
  /-- a request that is no coherence request -/
  | req (op : Nat) (l : Fin 17) (h : ReqHdr) (data : List Byte)
  /-- a store, atomic or DMA of this package -/
  | wb (u id : Nat)
  | dma (u t tag : Nat)
  /-- a value-returning atomic of this package -/
  | rmt (u t id : Nat)
  /-- a read: served by its own step once the line is free -/
  | read
  /-- the recall of a detach, of a victim or of a freeze -/
  | recall
  /-- a host READ or WRITE: queue pair, whether it writes, key, context, address, length, data, PSN to acknowledge -/
  | host (qp : Nat) (wr : Bool) (key ctx addr len : Nat) (data : List Byte) (psn : Nat)
  deriving DecidableEq, Repr

/-- A snoop not yet answered: tag, expiry, count of a due re-snoop (R317, R323, R328). -/
structure Snoop where
  port : Nat
  tag : Nat
  /-- line snooped: the transaction's own, or that of its victim (R326) -/
  line : Nat
  drop : Bool
  /-- plane it went out on -/
  plane : Nat
  expiry : Option Nat
  again : Option Nat
  deriving DecidableEq, Repr

/-- An entry of a home transaction table (R321). -/
structure HTxn where
  die : Nat
  line : Nat
  comp : Nat
  ctx : Nat
  seg : Nat
  /-- segment offset of the line, as snoops name it -/
  off : Nat
  /-- the access writes -/
  wr : Bool
  /-- holds an entry of the table; without one it waits (R325) -/
  entry : Bool
  begun : Bool
  /-- snoops answered; it waits for the rest of its access -/
  clear : Bool
  snoops : List Snoop
  act : HAct
  /-- group of transactions that one access opened -/
  group : Nat
  /-- blocking grant waiting for GRANT_ACK: port, tag, expiry (R324) -/
  grant : Option (Nat × Nat × Option Nat)
  deriving DecidableEq, Repr

/-- An exclusive grant (R326). -/
structure Trk where
  port : Nat
  agent : Nat
  comp : Nat
  ctx : Nat
  seg : Nat
  off : Nat
  age : Nat
  deriving DecidableEq, Repr

/-- A detach whose lines are not all back yet: its descriptor, the window it came by, and what it detaches (R315). -/
structure Leaving where
  win : Nat
  q : QDesc
  at_ : Attach
  deriving DecidableEq, Repr

/-- The home agents of the package (chapter 12). -/
structure Home where
  attach : List Attach
  /-- lease expiry by `port · 16 + agent` (R327) -/
  leases : Assoc Nat
  /-- transactions by number, rising in the order of acceptance -/
  txns : Assoc HTxn
  nextTxn : Nat
  nextTag : Nat
  /-- exclusive grants by line key -/
  trk : Assoc Trk
  /-- snoops and grants whose timeout acted: die of REQUESTER · 2^16 + tag, and the die that counts a late reply (R328) -/
  late : Assoc Nat
  /-- GRANT_ACKs that transient mode will discard: port, tag of the request (R324) -/
  acks : List (Nat × Nat)
  /-- detaches under way -/
  leaving : List Leaving
  deriving DecidableEq, Repr

/-- Who is answered when a held operation is performed. -/
inductive Answer where
  /-- a load of this package -/
  | load (u t id : Nat)
  | wb (u id : Nat)
  | req (l : Fin 17) (h : ReqHdr)
  deriving DecidableEq, Repr

/-- An exact sum at a word (R407). -/
structure Exact where
  comp : Nat
  /-- in units of 2^-149 -/
  sum : Int
  pinf : Bool
  ninf : Bool
  nan : Bool
  negz : Bool
  deriving DecidableEq, Repr

/-- A strict ACAS, AXCHG, or an AFADD that waits for an exact-sum entry (R408, R409). -/
structure HeldOp where
  comp : Nat
  /-- stripe index, context, group, thread, order: the source key of R409 -/
  src : List Nat
  key : Nat
  n : Nat
  aop : Nat
  b : Nat
  c : Nat
  ans : Answer
  deriving DecidableEq, Repr

/-- A strict composition's round here, and at the coordinator (R409). -/
structure Round where
  r : Nat
  sent : Bool
  reports : Assoc Nat
  deriving DecidableEq, Repr

/-- Reproducibility (chapter 16). -/
structure Repro where
  exact : Assoc Exact
  waits : List HeldOp
  held : List HeldOp
  rounds : Assoc Round
  /-- last-source table: set key, then (context, word, source), most recent first (R411) -/
  lastSrc : Assoc (List (Nat × Nat × Nat))
  lossy : NatSet
  deriving DecidableEq, Repr

end Sys2Proof.Machine
end

