-- ==== Sys2Proof/Machine/Regs.lean ====
section
/-! DEFINITION. The control registers (R15, R16): place, width, reset value and the access of every field, one
definition per register of the manual. -/

namespace Sys2Proof.Machine

/-- The access codes of Table 00-3; a bit that no field covers is RSV. -/
inductive Access where
  | ro | rw | wo | w1c
  deriving DecidableEq, Repr

/-- A control register: offset, two index ranges with their strides, width, reset value, fields `(high, low, access)`;
`alt` gives another reset value from a second-index (or only-index) value upward. -/
structure RegDef where
  off : Nat
  n1 : Nat := 1
  s1 : Nat := 0
  n2 : Nat := 1
  s2 : Nat := 0
  width : Nat
  reset : Nat
  alt : Option (Nat × Nat) := none
  fields : List (Nat × Nat × Access)
  deriving DecidableEq, Repr

/-- The control-space offset of entry `(i, j)` of a register. -/
def RegDef.at (r : RegDef) (i j : Nat) : Nat := r.off + r.s1 * i + r.s2 * j
/-- The reset value of entry `(i, j)`. -/
def RegDef.resetAt (r : RegDef) (i j : Nat) : Nat :=
  match r.alt with
  | some (k, v) => if k ≤ i + j then v else r.reset
  | none => r.reset
/-- The entry of a register whose bytes hold a control-space offset. -/
def RegDef.locate (r : RegDef) (o : Nat) : Option (Nat × Nat) :=
  if o < r.off then none
  else
    let d := o - r.off
    let i := if r.s1 = 0 then 0 else min (d / r.s1) (r.n1 - 1)
    let d2 := d - r.s1 * i
    let j := if r.s2 = 0 then 0 else min (d2 / r.s2) (r.n2 - 1)
    if i < r.n1 ∧ j < r.n2 ∧ r.s1 * i + r.s2 * j ≤ d ∧ d - r.s1 * i - r.s2 * j < r.width / 8 then some (i, j) else none

/-- ID_DEVICE (R3). -/
def rID_DEVICE : RegDef := ⟨0x0, 1, 0x0, 1, 0x0, 32, 0x48160110, none,
  [(31, 16, .ro), (15, 12, .ro), (11, 8, .ro), (7, 4, .ro)]⟩
/-- ID_OUI (R4). -/
def rID_OUI : RegDef := ⟨0x8, 1, 0x0, 1, 0x0, 32, 0, none,
  [(23, 0, .ro)]⟩
/-- DIE_SCHED_CFG (R66). -/
def rDIE_SCHED_CFG : RegDef := ⟨0x1000000, 8, 0x1000000, 1, 0x0, 32, 0x1001000, none,
  [(31, 24, .rw), (19, 4, .rw), (1, 0, .rw)]⟩
/-- DIE_SCHED_STAT (R66). -/
def rDIE_SCHED_STAT : RegDef := ⟨0x1000008, 8, 0x1000000, 1, 0x0, 32, 0x0, none,
  [(29, 16, .ro), (15, 8, .ro), (7, 0, .ro)]⟩
/-- DIE_GROUPS_PLACED (R66). -/
def rDIE_GROUPS_PLACED : RegDef := ⟨0x1000010, 8, 0x1000000, 1, 0x0, 64, 0x0, none,
  [(63, 0, .ro)]⟩
/-- DIE_WAKES (R66). -/
def rDIE_WAKES : RegDef := ⟨0x1000018, 8, 0x1000000, 1, 0x0, 64, 0x0, none,
  [(63, 48, .ro), (47, 32, .ro), (31, 16, .ro), (15, 0, .ro)]⟩
/-- DIE_KAT_ABANDON (R66). -/
def rDIE_KAT_ABANDON : RegDef := ⟨0x1000020, 8, 0x1000000, 1, 0x0, 32, 0x0, none,
  [(31, 0, .ro)]⟩
/-- DIE_DMA_LATE (R110). -/
def rDIE_DMA_LATE : RegDef := ⟨0x1000028, 8, 0x1000000, 1, 0x0, 32, 0x0, none,
  [(31, 0, .ro)]⟩
/-- LRD_CFG (R186). -/
def rLRD_CFG : RegDef := ⟨0x1040000, 8, 0x1000000, 1, 0x0, 32, 0x10000001, none,
  [(31, 24, .rw), (0, 0, .rw)]⟩
/-- LRD_STAT (R186). -/
def rLRD_STAT : RegDef := ⟨0x1040008, 8, 0x1000000, 1, 0x0, 32, 0x0, none,
  [(5, 4, .ro), (3, 2, .ro), (1, 0, .ro)]⟩
/-- LRD_ECC_CE (R186). -/
def rLRD_ECC_CE : RegDef := ⟨0x1040010, 8, 0x1000000, 1, 0x0, 64, 0x0, none,
  [(63, 32, .ro), (31, 0, .ro)]⟩
/-- LRD_ECC_UE (R186). -/
def rLRD_ECC_UE : RegDef := ⟨0x1040018, 8, 0x1000000, 1, 0x0, 32, 0x0, none,
  [(31, 16, .ro), (15, 0, .ro)]⟩
/-- LRD_POISON_RD (R186). -/
def rLRD_POISON_RD : RegDef := ⟨0x1040020, 8, 0x1000000, 1, 0x0, 32, 0x0, none,
  [(31, 0, .ro)]⟩
/-- LRD_SCRUB_STAT (R186). -/
def rLRD_SCRUB_STAT : RegDef := ⟨0x1040028, 8, 0x1000000, 1, 0x0, 64, 0x0, none,
  [(63, 48, .ro), (37, 0, .ro)]⟩
/-- LRD_HELD (R186). -/
def rLRD_HELD : RegDef := ⟨0x1040030, 8, 0x1000000, 1, 0x0, 32, 0xC00, none,
  [(31, 0, .ro)]⟩
/-- CEL_CFG (R186). -/
def rCEL_CFG : RegDef := ⟨0x400000, 1, 0x0, 1, 0x0, 32, 0x0, none,
  [(15, 8, .ro), (2, 2, .ro), (1, 0, .ro)]⟩
/-- CEL_REBUILD (R186). -/
def rCEL_REBUILD : RegDef := ⟨0x400020, 1, 0x0, 1, 0x0, 32, 0x10, none,
  [(31, 31, .ro), (20, 16, .ro), (15, 0, .rw)]⟩
/-- CEL_REBUILD_CURSOR (R186). -/
def rCEL_REBUILD_CURSOR : RegDef := ⟨0x400028, 1, 0x0, 1, 0x0, 32, 0x0, none,
  [(22, 0, .ro)]⟩
/-- CEL_RD_TMO (R186). -/
def rCEL_RD_TMO : RegDef := ⟨0x400030, 1, 0x0, 1, 0x0, 32, 0x10000, none,
  [(31, 0, .rw)]⟩
/-- CEL_RD_LATE (R186). -/
def rCEL_RD_LATE : RegDef := ⟨0x400038, 1, 0x0, 1, 0x0, 32, 0x0, none,
  [(31, 0, .ro)]⟩
/-- CEL_RECON (R186). -/
def rCEL_RECON : RegDef := ⟨0x400040, 1, 0x0, 1, 0x0, 64, 0x0, none,
  [(63, 0, .ro)]⟩
/-- CEL_POISON_EXT (R186). -/
def rCEL_POISON_EXT : RegDef := ⟨0x400048, 1, 0x0, 1, 0x0, 32, 0x0, none,
  [(31, 0, .ro)]⟩
/-- CEL_SCRUB (R186). -/
def rCEL_SCRUB : RegDef := ⟨0x400050, 1, 0x0, 1, 0x0, 32, 0x4, none,
  [(15, 0, .rw)]⟩
/-- CEL_VINTAGES (R186). -/
def rCEL_VINTAGES : RegDef := ⟨0x400058, 1, 0x0, 1, 0x0, 32, 0x0, none,
  [(10, 8, .ro), (6, 0, .ro)]⟩
/-- CEL_SLOT (R186). -/
def rCEL_SLOT : RegDef := ⟨0x400100, 17, 0x4, 1, 0x0, 32, 0x0, none,
  [(7, 5, .ro), (4, 0, .ro)]⟩
/-- CEL_CH (R186). -/
def rCEL_CH : RegDef := ⟨0x400200, 17, 0x4, 1, 0x0, 32, 0x0, none,
  [(31, 16, .ro), (2, 2, .ro), (1, 1, .ro), (0, 0, .ro)]⟩
/-- FLT_STAT (R213). -/
def rFLT_STAT : RegDef := ⟨0x700000, 1, 0x0, 1, 0x0, 32, 0x0, none,
  [(28, 16, .ro), (12, 0, .ro)]⟩
/-- FLT_WAITING (R213). -/
def rFLT_WAITING : RegDef := ⟨0x700008, 1, 0x0, 1, 0x0, 32, 0x0, none,
  [(31, 0, .ro)]⟩
/-- FLT_OVERFLOW (R213). -/
def rFLT_OVERFLOW : RegDef := ⟨0x700010, 1, 0x0, 1, 0x0, 64, 0x0, none,
  [(63, 0, .ro)]⟩
/-- FLT_POSTED (R213). -/
def rFLT_POSTED : RegDef := ⟨0x700018, 1, 0x0, 1, 0x0, 64, 0x0, none,
  [(63, 0, .ro)]⟩
/-- FLT_LATE (R213). -/
def rFLT_LATE : RegDef := ⟨0x700020, 1, 0x0, 1, 0x0, 32, 0x0, none,
  [(31, 0, .ro)]⟩
/-- FLT_TMO_ABORT (R213). -/
def rFLT_TMO_ABORT : RegDef := ⟨0x700028, 1, 0x0, 1, 0x0, 32, 0x0, none,
  [(31, 0, .ro)]⟩
/-- FLT_RING_ERR (R213). -/
def rFLT_RING_ERR : RegDef := ⟨0x700030, 1, 0x0, 1, 0x0, 32, 0x0, none,
  [(31, 0, .ro)]⟩
/-- FLT_HOST_ABSENT (R213). -/
def rFLT_HOST_ABSENT : RegDef := ⟨0x700038, 1, 0x0, 1, 0x0, 32, 0x0, none,
  [(31, 0, .ro)]⟩
/-- CTX_STAT (R213). -/
def rCTX_STAT : RegDef := ⟨0x610000, 4096, 0x4, 1, 0x0, 32, 0x0, none,
  [(10, 2, .ro), (1, 0, .ro)]⟩
/-- SRCH_CFG (R246). -/
def rSRCH_CFG : RegDef := ⟨0x1030000, 8, 0x1000000, 1, 0x0, 32, 0x400, none,
  [(10, 0, .rw)]⟩
/-- SRCH_STAT (R246). -/
def rSRCH_STAT : RegDef := ⟨0x1030008, 8, 0x1000000, 1, 0x0, 32, 0x0, none,
  [(31, 24, .ro), (23, 0, .ro)]⟩
/-- SRCH_BATCHES (R246). -/
def rSRCH_BATCHES : RegDef := ⟨0x1030010, 8, 0x1000000, 1, 0x0, 64, 0x0, none,
  [(63, 0, .ro)]⟩
/-- SRCH_ROWS (R246). -/
def rSRCH_ROWS : RegDef := ⟨0x1030018, 8, 0x1000000, 1, 0x0, 64, 0x0, none,
  [(63, 0, .ro)]⟩
/-- SRCH_INDEX_ERR (R246). -/
def rSRCH_INDEX_ERR : RegDef := ⟨0x1030020, 8, 0x1000000, 1, 0x0, 32, 0x0, none,
  [(31, 0, .ro)]⟩
/-- SRCH_POISON (R246). -/
def rSRCH_POISON : RegDef := ⟨0x1030028, 8, 0x1000000, 1, 0x0, 32, 0x0, none,
  [(31, 0, .ro)]⟩
/-- SRCH_BAD_ID (R246). -/
def rSRCH_BAD_ID : RegDef := ⟨0x1030030, 8, 0x1000000, 1, 0x0, 32, 0x0, none,
  [(31, 0, .ro)]⟩
/-- SRCH_PEER_TMO (R246). -/
def rSRCH_PEER_TMO : RegDef := ⟨0x1030100, 1, 0x0, 1, 0x0, 32, 0x400000, none,
  [(31, 0, .rw)]⟩
/-- SRCH_LATE (R246). -/
def rSRCH_LATE : RegDef := ⟨0x1030108, 1, 0x0, 1, 0x0, 32, 0x0, none,
  [(31, 0, .ro)]⟩
/-- SRCH_SEARCHES (R246). -/
def rSRCH_SEARCHES : RegDef := ⟨0x1030110, 1, 0x0, 1, 0x0, 64, 0x0, none,
  [(63, 32, .ro), (31, 0, .ro)]⟩
/-- CTX_EMB_COLL_TMO (R269). -/
def rCTX_EMB_COLL_TMO : RegDef := ⟨0x620000, 1, 0x0, 1, 0x0, 32, 0x400000, none,
  [(31, 0, .rw)]⟩
/-- CTX_EMB_LATE (R269). -/
def rCTX_EMB_LATE : RegDef := ⟨0x620008, 1, 0x0, 1, 0x0, 32, 0x0, none,
  [(31, 0, .ro)]⟩
/-- CTX_RDT_STAT (R269). -/
def rCTX_RDT_STAT : RegDef := ⟨0x620010, 1, 0x0, 1, 0x0, 64, 0x0, none,
  [(48, 32, .ro), (16, 0, .ro)]⟩
/-- CTX_RDT_REFUSED (R269). -/
def rCTX_RDT_REFUSED : RegDef := ⟨0x620018, 1, 0x0, 1, 0x0, 32, 0x0, none,
  [(31, 0, .ro)]⟩
/-- CTX_MIGRATED (R269). -/
def rCTX_MIGRATED : RegDef := ⟨0x620020, 1, 0x0, 1, 0x0, 64, 0x0, none,
  [(63, 32, .ro), (31, 0, .ro)]⟩
/-- CTX_MIG_ABANDON (R269). -/
def rCTX_MIG_ABANDON : RegDef := ⟨0x620028, 1, 0x0, 1, 0x0, 32, 0x0, none,
  [(31, 0, .ro)]⟩
/-- CTX_PF_BAD (R269). -/
def rCTX_PF_BAD : RegDef := ⟨0x620030, 1, 0x0, 1, 0x0, 32, 0x0, none,
  [(31, 0, .ro)]⟩
/-- CTX_PF_DROP (R269). -/
def rCTX_PF_DROP : RegDef := ⟨0x620038, 1, 0x0, 1, 0x0, 32, 0x0, none,
  [(31, 0, .ro)]⟩
/-- CTX_PF_STALE (R269). -/
def rCTX_PF_STALE : RegDef := ⟨0x620040, 1, 0x0, 1, 0x0, 32, 0x0, none,
  [(31, 0, .ro)]⟩
/-- CTX_EMB_OPS (R269). -/
def rCTX_EMB_OPS : RegDef := ⟨0x620048, 1, 0x0, 1, 0x0, 64, 0x0, none,
  [(63, 32, .ro), (31, 0, .ro)]⟩
/-- CTX_SVC_FRAMES (R281). -/
def rCTX_SVC_FRAMES : RegDef := ⟨0x630000, 1, 0x0, 1, 0x0, 64, 0x0, none,
  [(63, 0, .ro)]⟩
/-- CTX_SVC_RNR (R281). -/
def rCTX_SVC_RNR : RegDef := ⟨0x630008, 1, 0x0, 1, 0x0, 32, 0x0, none,
  [(31, 0, .ro)]⟩
/-- CTX_SVC_OVERSIZE (R281). -/
def rCTX_SVC_OVERSIZE : RegDef := ⟨0x630010, 1, 0x0, 1, 0x0, 32, 0x0, none,
  [(31, 0, .ro)]⟩
/-- CTX_SVC_POSTED (R281). -/
def rCTX_SVC_POSTED : RegDef := ⟨0x630018, 1, 0x0, 1, 0x0, 64, 0x0, none,
  [(63, 0, .ro)]⟩
/-- CTX_SVC_SENDS (R281). -/
def rCTX_SVC_SENDS : RegDef := ⟨0x630020, 1, 0x0, 1, 0x0, 64, 0x0, none,
  [(63, 32, .ro), (31, 0, .ro)]⟩
/-- CTX_SVC_ENDED (R281). -/
def rCTX_SVC_ENDED : RegDef := ⟨0x630028, 1, 0x0, 1, 0x0, 32, 0x0, none,
  [(31, 0, .ro)]⟩
/-- GLY_CTRL (R311). -/
def rGLY_CTRL : RegDef := ⟨0x300000, 16, 0x10000, 1, 0x0, 32, 0x1, none,
  [(1, 1, .wo), (0, 0, .rw)]⟩
/-- GLY_STAT (R311). -/
def rGLY_STAT : RegDef := ⟨0x300008, 16, 0x10000, 1, 0x0, 32, 0x0, none,
  [(29, 24, .ro), (23, 20, .ro), (19, 18, .ro), (2, 0, .ro)]⟩
/-- GLY_RETRY_TMO (R311). -/
def rGLY_RETRY_TMO : RegDef := ⟨0x300010, 16, 0x10000, 1, 0x0, 32, 0x400, none,
  [(31, 0, .rw)]⟩
/-- GLY_ERR (R311). -/
def rGLY_ERR : RegDef := ⟨0x300018, 16, 0x10000, 1, 0x0, 64, 0x0, none,
  [(63, 32, .ro), (31, 0, .ro)]⟩
/-- GLY_REPLAY (R311). -/
def rGLY_REPLAY : RegDef := ⟨0x300020, 16, 0x10000, 1, 0x0, 32, 0x0, none,
  [(31, 0, .ro)]⟩
/-- GLY_FEC (R311). -/
def rGLY_FEC : RegDef := ⟨0x300028, 16, 0x10000, 1, 0x0, 64, 0x0, none,
  [(63, 48, .ro), (47, 0, .ro)]⟩
/-- GLY_CREDIT_WAIT (R311). -/
def rGLY_CREDIT_WAIT : RegDef := ⟨0x300030, 16, 0x10000, 1, 0x0, 64, 0x0, none,
  [(63, 48, .ro), (47, 32, .ro), (31, 16, .ro), (15, 0, .ro)]⟩
/-- GLY_LINK_EVT (R311). -/
def rGLY_LINK_EVT : RegDef := ⟨0x300038, 16, 0x10000, 1, 0x0, 32, 0x0, none,
  [(31, 16, .ro), (15, 0, .ro)]⟩
/-- GLY_EPOCH_HOLD (R311). -/
def rGLY_EPOCH_HOLD : RegDef := ⟨0x308000, 1, 0x0, 1, 0x0, 32, 0x10000, none,
  [(31, 0, .rw)]⟩
/-- GLY_XPOD_CFG (R311). -/
def rGLY_XPOD_CFG : RegDef := ⟨0x308008, 1, 0x0, 1, 0x0, 32, 0x8003, none,
  [(15, 3, .rw), (2, 0, .rw)]⟩
/-- GLY_XPOD_STAT (R311). -/
def rGLY_XPOD_STAT : RegDef := ⟨0x308010, 1, 0x0, 1, 0x0, 32, 0x0, none,
  [(12, 0, .ro)]⟩
/-- GLY_ORPHAN (R311). -/
def rGLY_ORPHAN : RegDef := ⟨0x308018, 1, 0x0, 1, 0x0, 32, 0x0, none,
  [(31, 0, .ro)]⟩
/-- GLY_REISSUE (R311). -/
def rGLY_REISSUE : RegDef := ⟨0x308020, 1, 0x0, 1, 0x0, 64, 0x0, none,
  [(63, 32, .ro), (31, 0, .ro)]⟩
/-- GLY_NACK_RX (R311). -/
def rGLY_NACK_RX : RegDef := ⟨0x308028, 1, 0x0, 1, 0x0, 32, 0x0, none,
  [(31, 0, .ro)]⟩
/-- HOME_CFG (R332). -/
def rHOME_CFG : RegDef := ⟨0x1020000, 8, 0x1000000, 1, 0x0, 32, 0x400040, none,
  [(31, 16, .rw), (15, 0, .rw)]⟩
/-- HOME_SNP_TMO (R332). -/
def rHOME_SNP_TMO : RegDef := ⟨0x1020008, 8, 0x1000000, 1, 0x0, 32, 0x100000, none,
  [(31, 0, .rw)]⟩
/-- HOME_LEASE (R332). -/
def rHOME_LEASE : RegDef := ⟨0x1020010, 1, 0x0, 1, 0x0, 32, 0x800000, none,
  [(31, 0, .rw)]⟩
/-- HOME_HTT_STAT (R332). -/
def rHOME_HTT_STAT : RegDef := ⟨0x1020018, 8, 0x1000000, 1, 0x0, 32, 0x0, none,
  [(27, 16, .ro), (11, 0, .ro)]⟩
/-- HOME_TRK_STAT (R332). -/
def rHOME_TRK_STAT : RegDef := ⟨0x1020020, 8, 0x1000000, 1, 0x0, 32, 0x0, none,
  [(18, 0, .ro)]⟩
/-- HOME_RETRY (R332). -/
def rHOME_RETRY : RegDef := ⟨0x1020028, 8, 0x1000000, 1, 0x0, 32, 0x0, none,
  [(31, 0, .ro)]⟩
/-- HOME_WAIT (R332). -/
def rHOME_WAIT : RegDef := ⟨0x1020030, 8, 0x1000000, 1, 0x0, 64, 0x0, none,
  [(63, 32, .ro), (31, 0, .ro)]⟩
/-- HOME_RECALL (R332). -/
def rHOME_RECALL : RegDef := ⟨0x1020038, 8, 0x1000000, 1, 0x0, 32, 0x0, none,
  [(31, 0, .ro)]⟩
/-- HOME_SNOOPS (R332). -/
def rHOME_SNOOPS : RegDef := ⟨0x1020040, 8, 0x1000000, 1, 0x0, 64, 0x0, none,
  [(63, 0, .ro)]⟩
/-- HOME_RESNOOP (R332). -/
def rHOME_RESNOOP : RegDef := ⟨0x1020048, 8, 0x1000000, 1, 0x0, 32, 0x0, none,
  [(31, 0, .ro)]⟩
/-- HOME_POISON (R332). -/
def rHOME_POISON : RegDef := ⟨0x1020050, 8, 0x1000000, 1, 0x0, 32, 0x0, none,
  [(31, 0, .ro)]⟩
/-- HOME_LATE (R332). -/
def rHOME_LATE : RegDef := ⟨0x1020058, 8, 0x1000000, 1, 0x0, 32, 0x0, none,
  [(31, 0, .ro)]⟩
/-- HOME_AGENT_LOSS (R332). -/
def rHOME_AGENT_LOSS : RegDef := ⟨0x1020060, 1, 0x0, 1, 0x0, 32, 0x0, none,
  [(29, 20, .ro), (19, 10, .ro), (9, 0, .ro)]⟩
/-- GLY_PEER (R332). -/
def rGLY_PEER : RegDef := ⟨0x308030, 1, 0x0, 1, 0x0, 64, 0x0, none,
  [(63, 32, .ro), (31, 0, .ro)]⟩
/-- SWC_CFG (R349). -/
def rSWC_CFG : RegDef := ⟨0x100000, 1, 0x0, 1, 0x0, 32, 0x41, none,
  [(8, 8, .rw), (7, 4, .rw), (0, 0, .rw)]⟩
/-- SWC_PART_SLOT (R349). -/
def rSWC_PART_SLOT : RegDef := ⟨0x100008, 1, 0x0, 1, 0x0, 32, 0x10, none,
  [(7, 0, .rw)]⟩
/-- SWC_PRIO_MAP (R349). -/
def rSWC_PRIO_MAP : RegDef := ⟨0x100010, 1, 0x0, 1, 0x0, 32, 0x6DB688, none,
  [(2, 0, .rw), (5, 3, .rw), (8, 6, .rw), (11, 9, .rw), (14, 12, .rw), (17, 15, .rw), (20, 18, .rw), (23, 21, .rw)]⟩
/-- SWC_STAT (R349). -/
def rSWC_STAT : RegDef := ⟨0x100020, 1, 0x0, 1, 0x0, 32, 0x0, none,
  [(19, 0, .ro)]⟩
/-- SWC_CUT (R349). -/
def rSWC_CUT : RegDef := ⟨0x100028, 1, 0x0, 1, 0x0, 64, 0x0, none,
  [(63, 0, .ro)]⟩
/-- SWC_DROP (R349). -/
def rSWC_DROP : RegDef := ⟨0x100030, 4, 0x8, 1, 0x0, 64, 0x0, none,
  [(63, 0, .ro)]⟩
/-- SWC_ECN_MARK (R349). -/
def rSWC_ECN_MARK : RegDef := ⟨0x100050, 1, 0x0, 1, 0x0, 64, 0x0, none,
  [(63, 0, .ro)]⟩
/-- SWC_PAUSE (R349). -/
def rSWC_PAUSE : RegDef := ⟨0x100058, 1, 0x0, 1, 0x0, 32, 0x0, none,
  [(31, 0, .ro)]⟩
/-- SWC_PFC_OVERRUN (R349). -/
def rSWC_PFC_OVERRUN : RegDef := ⟨0x100060, 1, 0x0, 1, 0x0, 32, 0x0, none,
  [(31, 0, .ro)]⟩
/-- SWC_MIR_DROP (R349). -/
def rSWC_MIR_DROP : RegDef := ⟨0x100068, 1, 0x0, 1, 0x0, 32, 0x0, none,
  [(31, 0, .ro)]⟩
/-- SWC_MIR_SKIP (R349). -/
def rSWC_MIR_SKIP : RegDef := ⟨0x100070, 1, 0x0, 1, 0x0, 32, 0x0, none,
  [(31, 0, .ro)]⟩
/-- SWC_BP (R349). -/
def rSWC_BP : RegDef := ⟨0x100078, 1, 0x0, 1, 0x0, 64, 0x0, none,
  [(63, 0, .ro)]⟩
/-- SWC_PART_SCHED (R349). -/
def rSWC_PART_SCHED : RegDef := ⟨0x100100, 64, 0x4, 1, 0x0, 32, 0x0, none,
  [(21, 21, .rw), (20, 20, .rw), (19, 0, .rw)]⟩
/-- SWC_CLASS (R349). -/
def rSWC_CLASS : RegDef := ⟨0x100200, 8, 0x4, 1, 0x0, 32, 0x3012, some (3, 0x3013),
  [(15, 12, .rw), (11, 4, .rw), (1, 1, .rw), (0, 0, .rw)]⟩
/-- SWC_WRED (R349). -/
def rSWC_WRED : RegDef := ⟨0x100400, 8, 0x20, 3, 0x8, 64, 0x0, none,
  [(55, 48, .rw), (43, 24, .rw), (19, 0, .rw)]⟩
/-- SWC_PFC (R349). -/
def rSWC_PFC : RegDef := ⟨0x100800, 16, 0x4, 1, 0x0, 32, 0x200080, none,
  [(31, 16, .rw), (15, 0, .rw)]⟩
/-- SWC_METER (R349). -/
def rSWC_METER : RegDef := ⟨0x101000, 256, 0x10, 1, 0x0, 128, 0, none,
  [(127, 104, .rw), (103, 80, .rw), (79, 56, .rw), (55, 32, .rw), (20, 20, .rw), (19, 0, .rw)]⟩
/-- SWC_MIR (R349). -/
def rSWC_MIR : RegDef := ⟨0x102000, 4, 0x40, 1, 0x0, 512, 0, none,
  [(352, 352, .rw), (351, 224, .rw), (223, 96, .rw), (95, 80, .rw), (79, 64, .rw), (63, 56, .rw), (51, 32, .rw), (20, 13, .rw), (12, 9, .rw), (8, 3, .rw), (2, 1, .rw), (0, 0, .rw)]⟩
/-- ETH_CTRL (R377). -/
def rETH_CTRL : RegDef := ⟨0x200000, 16, 0x10000, 1, 0x0, 32, 0x9, none,
  [(5, 5, .wo), (4, 4, .rw), (3, 3, .rw), (2, 2, .rw), (1, 1, .rw), (0, 0, .rw)]⟩
/-- ETH_STAT (R377). -/
def rETH_STAT : RegDef := ⟨0x200008, 16, 0x10000, 1, 0x0, 32, 0x0, none,
  [(10, 3, .ro), (2, 2, .ro), (1, 0, .ro)]⟩
/-- ETH_MAC (R377). -/
def rETH_MAC : RegDef := ⟨0x200010, 16, 0x10000, 1, 0x0, 64, 0, none,
  [(47, 0, .ro)]⟩
/-- ETH_PFC_EN (R377). -/
def rETH_PFC_EN : RegDef := ⟨0x200018, 16, 0x10000, 1, 0x0, 32, 0x8, none,
  [(7, 0, .rw)]⟩
/-- ETH_DSCP_MAP (R377). -/
def rETH_DSCP_MAP : RegDef := ⟨0x200020, 16, 0x10000, 8, 0x4, 32, 0x0, none,
  [(2, 0, .rw), (6, 4, .rw), (10, 8, .rw), (14, 12, .rw), (18, 16, .rw), (22, 20, .rw), (26, 24, .rw), (30, 28, .rw)]⟩
/-- ETH_IP4 (R377). -/
def rETH_IP4 : RegDef := ⟨0x200040, 16, 0x10000, 4, 0x4, 32, 0x0, none,
  [(31, 0, .rw)]⟩
/-- ETH_IP6 (R377). -/
def rETH_IP6 : RegDef := ⟨0x200080, 16, 0x10000, 4, 0x10, 128, 0, none,
  [(127, 0, .rw)]⟩
/-- ETH_RX_ERR (R377). -/
def rETH_RX_ERR : RegDef := ⟨0x200100, 16, 0x10000, 1, 0x0, 64, 0x0, none,
  [(63, 48, .ro), (47, 32, .ro), (31, 16, .ro), (15, 0, .ro)]⟩
/-- ETH_PAUSE_X (R377). -/
def rETH_PAUSE_X : RegDef := ⟨0x200108, 16, 0x10000, 1, 0x0, 32, 0x0, none,
  [(31, 0, .ro)]⟩
/-- ETH_CNP (R377). -/
def rETH_CNP : RegDef := ⟨0x200110, 16, 0x10000, 1, 0x0, 64, 0x0, none,
  [(63, 32, .ro), (31, 0, .ro)]⟩
/-- ETH_PARTNER (R377). -/
def rETH_PARTNER : RegDef := ⟨0x200140, 16, 0x10000, 1, 0x0, 64, 0x0, none,
  [(57, 57, .ro), (56, 56, .ro), (55, 48, .ro), (47, 0, .ro)]⟩
/-- ETH_MACSEC_SCI (R377). -/
def rETH_MACSEC_SCI : RegDef := ⟨0x200180, 16, 0x10000, 1, 0x0, 64, 0x0, none,
  [(63, 0, .rw)]⟩
/-- ETH_MACSEC_CFG (R377). -/
def rETH_MACSEC_CFG : RegDef := ⟨0x200188, 16, 0x10000, 1, 0x0, 32, 0x0, none,
  [(31, 1, .rw), (0, 0, .rw)]⟩
/-- ETH_MACSEC_SA (R377). -/
def rETH_MACSEC_SA : RegDef := ⟨0x200200, 16, 0x10000, 4, 0x40, 512, 0, none,
  [(451, 451, .rw), (449, 448, .rw), (447, 384, .rw), (383, 288, .wo), (287, 256, .rw), (255, 0, .wo)]⟩
/-- ETH_CC_RATE (R377). -/
def rETH_CC_RATE : RegDef := ⟨0x208000, 1, 0x0, 1, 0x0, 64, 0x8001000400, none,
  [(39, 32, .rw), (31, 16, .rw), (15, 0, .rw)]⟩
/-- ETH_CC_TIME (R377). -/
def rETH_CC_TIME : RegDef := ⟨0x208008, 1, 0x0, 1, 0x0, 32, 0x80004E2, none,
  [(31, 16, .rw), (15, 0, .rw)]⟩
/-- ETH_LLDP (R377). -/
def rETH_LLDP : RegDef := ⟨0x208010, 1, 0x0, 1, 0x0, 32, 0x10000000, none,
  [(31, 0, .rw)]⟩
/-- ETH_DESC (R377). -/
def rETH_DESC : RegDef := ⟨0x208018, 1, 0x0, 1, 0x0, 64, 0x0, none,
  [(63, 0, .ro)]⟩
/-- ETH_DESC_REFUSED (R377). -/
def rETH_DESC_REFUSED : RegDef := ⟨0x208020, 1, 0x0, 1, 0x0, 64, 0x0, none,
  [(63, 32, .ro), (31, 0, .ro)]⟩
/-- ETH_CMP_ERR (R377). -/
def rETH_CMP_ERR : RegDef := ⟨0x208028, 1, 0x0, 1, 0x0, 32, 0x0, none,
  [(31, 0, .ro)]⟩
/-- ETH_CMP_NORING (R377). -/
def rETH_CMP_NORING : RegDef := ⟨0x208030, 1, 0x0, 1, 0x0, 32, 0x0, none,
  [(31, 0, .ro)]⟩
/-- ETH_PARTNER_EVT (R377). -/
def rETH_PARTNER_EVT : RegDef := ⟨0x208038, 1, 0x0, 1, 0x0, 64, 0x0, none,
  [(63, 32, .ro), (31, 0, .ro)]⟩
/-- ETH_SYS_DESC (R377). -/
def rETH_SYS_DESC : RegDef := ⟨0x208100, 1, 0x0, 1, 0x0, 512, 0, none,
  [(511, 0, .wo)]⟩
/-- ETH_SYS_CMP (R377). -/
def rETH_SYS_CMP : RegDef := ⟨0x208140, 1, 0x0, 1, 0x0, 256, 0, none,
  [(255, 0, .ro)]⟩
/-- CMP_EPOCH (R400). -/
def rCMP_EPOCH : RegDef := ⟨0x500000, 1, 0x0, 1, 0x0, 64, 0x0, none,
  [(63, 32, .ro), (31, 0, .ro)]⟩
/-- CMP_LEADER (R400). -/
def rCMP_LEADER : RegDef := ⟨0x500008, 1, 0x0, 1, 0x0, 32, 0x0, none,
  [(15, 15, .ro), (14, 7, .ro), (6, 6, .ro), (5, 0, .ro)]⟩
/-- CMP_MAP_TMO (R400). -/
def rCMP_MAP_TMO : RegDef := ⟨0x500010, 1, 0x0, 1, 0x0, 32, 0x400000, none,
  [(31, 0, .rw)]⟩
/-- CMP_OWN_TMO (R400). -/
def rCMP_OWN_TMO : RegDef := ⟨0x500018, 1, 0x0, 1, 0x0, 32, 0x10000, none,
  [(31, 0, .rw)]⟩
/-- CMP_PROPOSALS (R400). -/
def rCMP_PROPOSALS : RegDef := ⟨0x500020, 1, 0x0, 1, 0x0, 64, 0x0, none,
  [(63, 32, .ro), (31, 0, .ro)]⟩
/-- CMP_REVOKE_PEND (R400). -/
def rCMP_REVOKE_PEND : RegDef := ⟨0x500028, 1, 0x0, 1, 0x0, 32, 0x0, none,
  [(31, 0, .ro)]⟩
/-- CMP_DISPUTES (R400). -/
def rCMP_DISPUTES : RegDef := ⟨0x500030, 1, 0x0, 1, 0x0, 32, 0x0, none,
  [(31, 0, .ro)]⟩
/-- CMP_END_DISCARD (R400). -/
def rCMP_END_DISCARD : RegDef := ⟨0x500038, 1, 0x0, 1, 0x0, 32, 0x0, none,
  [(31, 0, .ro)]⟩
/-- CMP_CHARGE (R400). -/
def rCMP_CHARGE : RegDef := ⟨0x500040, 1, 0x0, 1, 0x0, 64, 0x0, none,
  [(63, 32, .ro), (31, 0, .ro)]⟩
/-- CMP_PARTNER (R400). -/
def rCMP_PARTNER : RegDef := ⟨0x501000, 1024, 0x10, 1, 0x0, 128, 0, none,
  [(127, 64, .ro), (32, 32, .ro), (31, 26, .ro), (25, 24, .ro), (23, 16, .ro), (15, 0, .ro)]⟩
/-- REPRO_DEFAULTS (R413). -/
def rREPRO_DEFAULTS : RegDef := ⟨0x30000, 1, 0x0, 1, 0x0, 32, 0x0, none,
  [(2, 2, .rw), (1, 0, .rw)]⟩
/-- REPRO_SIG_S (R413). -/
def rREPRO_SIG_S : RegDef := ⟨0x30020, 1, 0x0, 1, 0x0, 256, 0x0, none,
  [(255, 0, .ro)]⟩
/-- REPRO_SIG_C (R413). -/
def rREPRO_SIG_C : RegDef := ⟨0x30040, 1, 0x0, 1, 0x0, 256, 0x0, none,
  [(255, 0, .ro)]⟩
/-- REPRO_ROUNDS (R413). -/
def rREPRO_ROUNDS : RegDef := ⟨0x30060, 1, 0x0, 1, 0x0, 64, 0x0, none,
  [(63, 32, .ro), (31, 0, .ro)]⟩
/-- REPRO_EXACT_STAT (R413). -/
def rREPRO_EXACT_STAT : RegDef := ⟨0x30068, 1, 0x0, 1, 0x0, 32, 0x0, none,
  [(31, 0, .ro)]⟩
/-- REPRO_EXACT_WAIT (R413). -/
def rREPRO_EXACT_WAIT : RegDef := ⟨0x30070, 1, 0x0, 1, 0x0, 32, 0x0, none,
  [(31, 0, .ro)]⟩
/-- REPRO_LOSSY (R413). -/
def rREPRO_LOSSY : RegDef := ⟨0x30078, 1, 0x0, 1, 0x0, 32, 0x0, none,
  [(31, 0, .ro)]⟩
/-- REPRO_CHOICES (R413). -/
def rREPRO_CHOICES : RegDef := ⟨0x38000, 4096, 0x8, 1, 0x0, 64, 0x0, none,
  [(63, 0, .ro)]⟩
/-- HLT_CFG (R441). -/
def rHLT_CFG : RegDef := ⟨0x700100, 1, 0x0, 1, 0x0, 32, 0x1801C22, none,
  [(24, 24, .rw), (23, 16, .rw), (13, 8, .rw), (5, 0, .rw)]⟩
/-- HLT_STAT (R441). -/
def rHLT_STAT : RegDef := ⟨0x700108, 1, 0x0, 1, 0x0, 64, 0x0, none,
  [(63, 63, .ro), (52, 32, .ro), (20, 0, .ro)]⟩
/-- HLT_SEL (R441). -/
def rHLT_SEL : RegDef := ⟨0x700110, 1, 0x0, 1, 0x0, 64, 0x0, none,
  [(35, 0, .rw)]⟩
/-- HLT_UNIT (R441). -/
def rHLT_UNIT : RegDef := ⟨0x700118, 1, 0x0, 1, 0x0, 64, 0x0, none,
  [(63, 32, .ro), (31, 24, .ro), (23, 16, .ro), (10, 10, .ro), (9, 9, .ro), (8, 8, .ro), (7, 0, .ro)]⟩
/-- HLT_KAT (R441). -/
def rHLT_KAT : RegDef := ⟨0x700120, 1, 0x0, 1, 0x0, 64, 0x0, none,
  [(63, 32, .ro), (31, 0, .ro)]⟩
/-- HLT_KAT_OVERDUE (R441). -/
def rHLT_KAT_OVERDUE : RegDef := ⟨0x700128, 1, 0x0, 1, 0x0, 32, 0x0, none,
  [(31, 0, .ro)]⟩
/-- HLT_DIE (R441). -/
def rHLT_DIE : RegDef := ⟨0x700200, 8, 0x8, 1, 0x0, 64, 0x0, none,
  [(39, 32, .ro), (28, 24, .ro), (17, 16, .ro), (13, 0, .ro)]⟩
/-- HLT_CKPT (R441). -/
def rHLT_CKPT : RegDef := ⟨0x700300, 1, 0x0, 1, 0x0, 64, 0x0, none,
  [(63, 32, .ro), (31, 0, .ro)]⟩
/-- HLT_CKPT_TMO (R441). -/
def rHLT_CKPT_TMO : RegDef := ⟨0x700308, 1, 0x0, 1, 0x0, 32, 0x10000000, none,
  [(31, 0, .rw)]⟩
/-- HLT_UNDO (R441). -/
def rHLT_UNDO : RegDef := ⟨0x700310, 1, 0x0, 1, 0x0, 64, 0x0, none,
  [(63, 32, .ro), (31, 0, .ro)]⟩
/-- HLT_FREEZE (R441). -/
def rHLT_FREEZE : RegDef := ⟨0x700318, 1, 0x0, 1, 0x0, 64, 0x0, none,
  [(63, 40, .ro), (39, 0, .ro)]⟩
/-- HLT_RESTORE (R441). -/
def rHLT_RESTORE : RegDef := ⟨0x700320, 1, 0x0, 1, 0x0, 32, 0x0, none,
  [(31, 16, .ro), (15, 0, .ro)]⟩
/-- RATTLE_CTRL (R441). -/
def rRATTLE_CTRL : RegDef := ⟨0x40000, 1, 0x0, 1, 0x0, 32, 0x0, none,
  [(3, 2, .ro), (1, 1, .wo), (0, 0, .wo)]⟩
/-- RATTLE_SEED (R441). -/
def rRATTLE_SEED : RegDef := ⟨0x40008, 1, 0x0, 1, 0x0, 64, 0x0, none,
  [(63, 0, .rw)]⟩
/-- RATTLE_CREDIT (R441). -/
def rRATTLE_CREDIT : RegDef := ⟨0x40010, 1, 0x0, 1, 0x0, 32, 0x0, none,
  [(31, 24, .rw), (23, 16, .rw), (15, 8, .rw), (7, 0, .rw)]⟩
/-- RATTLE_ARB (R441). -/
def rRATTLE_ARB : RegDef := ⟨0x40018, 1, 0x0, 1, 0x0, 32, 0x0, none,
  [(2, 2, .rw), (1, 1, .rw), (0, 0, .rw)]⟩
/-- RATTLE_EVICT (R441). -/
def rRATTLE_EVICT : RegDef := ⟨0x40020, 1, 0x0, 1, 0x0, 32, 0x0, none,
  [(31, 16, .rw), (15, 0, .rw)]⟩
/-- RATTLE_INJECT (R441). -/
def rRATTLE_INJECT : RegDef := ⟨0x40028, 1, 0x0, 1, 0x0, 128, 0, none,
  [(127, 64, .rw), (51, 16, .rw), (15, 8, .rw), (6, 6, .wo), (5, 4, .rw), (3, 0, .rw)]⟩
/-- RATTLE_AON (R441). -/
def rRATTLE_AON : RegDef := ⟨0x40030, 1, 0x0, 1, 0x0, 32, 0x0, none,
  [(8, 8, .rw), (7, 0, .rw)]⟩
/-- RATTLE_TOKEN (R441). -/
def rRATTLE_TOKEN : RegDef := ⟨0x40100, 1, 0x0, 1, 0x0, 4096, 0, none,
  [(4095, 0, .wo)]⟩
/-- RATTLE_DELAY (R441). -/
def rRATTLE_DELAY : RegDef := ⟨0x41000, 58, 0x4, 1, 0x0, 32, 0x0, none,
  [(27, 16, .rw), (11, 0, .rw)]⟩
/-- EVR_STAT (R456). -/
def rEVR_STAT : RegDef := ⟨0x20000, 1, 0x0, 1, 0x0, 64, 0x0, none,
  [(63, 32, .ro), (13, 0, .ro)]⟩
/-- EVR_COLD_START (R456). -/
def rEVR_COLD_START : RegDef := ⟨0x20008, 1, 0x0, 1, 0x0, 32, 0x0, none,
  [(31, 0, .ro)]⟩
/-- EVR_WIN (R456). -/
def rEVR_WIN : RegDef := ⟨0x20010, 1, 0x0, 1, 0x0, 32, 0x0, none,
  [(17, 16, .rw), (15, 0, .rw)]⟩
/-- EVR_WIN_DATA (R456). -/
def rEVR_WIN_DATA : RegDef := ⟨0x28000, 1, 0x0, 1, 0x0, 262144, 0, none,
  [(262143, 0, .ro)]⟩
/-- EVR_RATE_SEL (R456). -/
def rEVR_RATE_SEL : RegDef := ⟨0x20018, 1, 0x0, 1, 0x0, 32, 0x0, none,
  [(15, 0, .rw)]⟩
/-- EVR_RATE (R456). -/
def rEVR_RATE : RegDef := ⟨0x20020, 1, 0x0, 1, 0x0, 32, 0x400010, none,
  [(23, 16, .rw), (7, 0, .rw)]⟩
/-- EVR_SUPPRESSED (R456). -/
def rEVR_SUPPRESSED : RegDef := ⟨0x20028, 1, 0x0, 1, 0x0, 64, 0x0, none,
  [(63, 0, .ro)]⟩
/-- EVR_FLUSH (R456). -/
def rEVR_FLUSH : RegDef := ⟨0x20030, 1, 0x0, 1, 0x0, 64, 0x0, none,
  [(63, 32, .ro), (31, 0, .ro)]⟩
/-- EVR_MSG_CFG (R456). -/
def rEVR_MSG_CFG : RegDef := ⟨0x20038, 1, 0x0, 1, 0x0, 64, 0x0, none,
  [(63, 32, .rw), (20, 16, .rw), (13, 0, .rw)]⟩
/-- EVR_MSG_VA (R456). -/
def rEVR_MSG_VA : RegDef := ⟨0x20040, 1, 0x0, 1, 0x0, 64, 0x0, none,
  [(63, 0, .rw)]⟩
/-- EVR_MSG_DROP (R456). -/
def rEVR_MSG_DROP : RegDef := ⟨0x20048, 1, 0x0, 1, 0x0, 32, 0x0, none,
  [(31, 0, .ro)]⟩
/-- IRQ_SUMMARY (R456). -/
def rIRQ_SUMMARY : RegDef := ⟨0x10000, 1, 0x0, 1, 0x0, 32, 0x0, none,
  [(15, 0, .ro)]⟩
/-- IRQ_SUMMARY_MASK (R456). -/
def rIRQ_SUMMARY_MASK : RegDef := ⟨0x10008, 1, 0x0, 1, 0x0, 32, 0x0, none,
  [(15, 0, .rw)]⟩
/-- IRQ_CFG (R456). -/
def rIRQ_CFG : RegDef := ⟨0x10010, 1, 0x0, 1, 0x0, 32, 0x2, none,
  [(5, 4, .rw), (2, 0, .rw)]⟩
/-- IRQ_GROUP (R456). -/
def rIRQ_GROUP : RegDef := ⟨0x10100, 16, 0x8, 1, 0x0, 32, 0x0, none,
  [(7, 0, .ro)]⟩
/-- IRQ_GROUP_MASK (R456). -/
def rIRQ_GROUP_MASK : RegDef := ⟨0x10180, 16, 0x8, 1, 0x0, 32, 0x0, none,
  [(7, 0, .rw)]⟩
/-- IRQ_LEAF (R456). -/
def rIRQ_LEAF : RegDef := ⟨0x11000, 16, 0x20, 8, 0x4, 32, 0x0, none,
  [(31, 0, .w1c)]⟩
/-- IRQ_LEAF_MASK (R456). -/
def rIRQ_LEAF_MASK : RegDef := ⟨0x12000, 16, 0x20, 8, 0x4, 32, 0x0, none,
  [(31, 0, .rw)]⟩
/-- START_CTRL (R476). -/
def rSTART_CTRL : RegDef := ⟨0x100, 1, 0x0, 1, 0x0, 32, 0x0, none,
  [(5, 5, .wo), (4, 4, .rw), (3, 3, .wo), (2, 2, .wo), (1, 1, .wo)]⟩
/-- START_STAT (R476). -/
def rSTART_STAT : RegDef := ⟨0x108, 1, 0x0, 1, 0x0, 32, 0x0, none,
  [(19, 16, .ro), (13, 12, .ro), (11, 10, .ro), (9, 8, .ro), (3, 0, .ro)]⟩
/-- START_READY (R476). -/
def rSTART_READY : RegDef := ⟨0x110, 1, 0x0, 1, 0x0, 64, 0x0, none,
  [(63, 0, .ro)]⟩
/-- START_REJOIN_TMO (R476). -/
def rSTART_REJOIN_TMO : RegDef := ⟨0x118, 1, 0x0, 1, 0x0, 32, 0x1000000, none,
  [(31, 0, .rw)]⟩
/-- START_LOADER_IP (R476). -/
def rSTART_LOADER_IP : RegDef := ⟨0x120, 1, 0x0, 1, 0x0, 32, 0x0, none,
  [(31, 0, .rw)]⟩
/-- START_FW_WIN (R476). -/
def rSTART_FW_WIN : RegDef := ⟨0x10000000, 1, 0x0, 1, 0x0, 536870912, 0, none,
  [(536870911, 0, .wo)]⟩
/-- PWR_CLK_STAT (R476). -/
def rPWR_CLK_STAT : RegDef := ⟨0x50000, 1, 0x0, 1, 0x0, 32, 0x0, none,
  [(31, 16, .ro), (10, 2, .ro), (1, 1, .ro), (0, 0, .ro)]⟩
/-- PWR_THERM_CFG (R476). -/
def rPWR_THERM_CFG : RegDef := ⟨0x50008, 1, 0x0, 1, 0x0, 32, 0x190, none,
  [(9, 0, .rw)]⟩
/-- PWR_TRIP (R476). -/
def rPWR_TRIP : RegDef := ⟨0x50010, 1, 0x0, 1, 0x0, 32, 0x0, none,
  [(8, 0, .w1c)]⟩
/-- PWR_AVS (R476). -/
def rPWR_AVS : RegDef := ⟨0x50100, 9, 0x10, 1, 0x0, 64, 0x0, none,
  [(63, 56, .ro), (55, 40, .ro), (31, 16, .ro), (15, 0, .ro)]⟩
/-- PWR_RGN (R476). -/
def rPWR_RGN : RegDef := ⟨0x51000, 1024, 0x4, 1, 0x0, 32, 0x0, none,
  [(31, 16, .ro), (2, 2, .ro), (1, 0, .ro)]⟩
/-- SEC_STAT (R491). -/
def rSEC_STAT : RegDef := ⟨0x60000, 1, 0x0, 1, 0x0, 32, 0x0, none,
  [(11, 8, .ro), (5, 5, .ro), (4, 4, .ro), (3, 2, .ro)]⟩
/-- SEC_CTRL (R491). -/
def rSEC_CTRL : RegDef := ⟨0x60008, 1, 0x0, 1, 0x0, 32, 0x0, none,
  [(4, 4, .wo), (3, 3, .wo), (2, 2, .wo), (1, 1, .wo), (0, 0, .wo)]⟩
/-- SEC_ATTEST (R491). -/
def rSEC_ATTEST : RegDef := ⟨0x60010, 1, 0x0, 1, 0x0, 32, 0x0, none,
  [(31, 16, .ro), (2, 2, .ro), (1, 1, .ro), (0, 0, .wo)]⟩
/-- SEC_NONCE (R491). -/
def rSEC_NONCE : RegDef := ⟨0x60020, 1, 0x0, 1, 0x0, 256, 0, none,
  [(255, 0, .rw)]⟩
/-- SEC_REPORT (R491). -/
def rSEC_REPORT : RegDef := ⟨0x60100, 1, 0x0, 1, 0x0, 5632, 0, none,
  [(5631, 0, .ro)]⟩
/-- SEC_TOKEN (R491). -/
def rSEC_TOKEN : RegDef := ⟨0x60400, 1, 0x0, 1, 0x0, 4096, 0, none,
  [(4095, 0, .wo)]⟩
/-- SEC_ENROLL (R491). -/
def rSEC_ENROLL : RegDef := ⟨0x60600, 1, 0x0, 1, 0x0, 6176, 0, none,
  [(6175, 3104, .wo), (3103, 32, .wo), (31, 0, .wo)]⟩
/-- SEC_CERT (R491). -/
def rSEC_CERT : RegDef := ⟨0x61000, 1, 0x0, 1, 0x0, 32768, 0, none,
  [(32767, 0, .ro)]⟩
/-- SEC_LINK_KEY (R491). -/
def rSEC_LINK_KEY : RegDef := ⟨0x62000, 33, 0x80, 1, 0x0, 640, 0, none,
  [(639, 384, .wo), (383, 128, .wo), (127, 96, .rw), (95, 64, .rw), (63, 40, .ro), (39, 16, .ro), (1, 1, .rw), (0, 0, .rw)]⟩

def regList0 : List RegDef := [rID_DEVICE, rID_OUI, rDIE_SCHED_CFG, rDIE_SCHED_STAT, rDIE_GROUPS_PLACED, rDIE_WAKES, rDIE_KAT_ABANDON, rDIE_DMA_LATE, rLRD_CFG, rLRD_STAT, rLRD_ECC_CE, rLRD_ECC_UE, rLRD_POISON_RD, rLRD_SCRUB_STAT, rLRD_HELD, rCEL_CFG]

def regList1 : List RegDef := [rCEL_REBUILD, rCEL_REBUILD_CURSOR, rCEL_RD_TMO, rCEL_RD_LATE, rCEL_RECON, rCEL_POISON_EXT, rCEL_SCRUB, rCEL_VINTAGES, rCEL_SLOT, rCEL_CH, rFLT_STAT, rFLT_WAITING, rFLT_OVERFLOW, rFLT_POSTED, rFLT_LATE, rFLT_TMO_ABORT]

def regList2 : List RegDef := [rFLT_RING_ERR, rFLT_HOST_ABSENT, rCTX_STAT, rSRCH_CFG, rSRCH_STAT, rSRCH_BATCHES, rSRCH_ROWS, rSRCH_INDEX_ERR, rSRCH_POISON, rSRCH_BAD_ID, rSRCH_PEER_TMO, rSRCH_LATE, rSRCH_SEARCHES, rCTX_EMB_COLL_TMO, rCTX_EMB_LATE, rCTX_RDT_STAT]

def regList3 : List RegDef := [rCTX_RDT_REFUSED, rCTX_MIGRATED, rCTX_MIG_ABANDON, rCTX_PF_BAD, rCTX_PF_DROP, rCTX_PF_STALE, rCTX_EMB_OPS, rCTX_SVC_FRAMES, rCTX_SVC_RNR, rCTX_SVC_OVERSIZE, rCTX_SVC_POSTED, rCTX_SVC_SENDS, rCTX_SVC_ENDED, rGLY_CTRL, rGLY_STAT, rGLY_RETRY_TMO]

def regList4 : List RegDef := [rGLY_ERR, rGLY_REPLAY, rGLY_FEC, rGLY_CREDIT_WAIT, rGLY_LINK_EVT, rGLY_EPOCH_HOLD, rGLY_XPOD_CFG, rGLY_XPOD_STAT, rGLY_ORPHAN, rGLY_REISSUE, rGLY_NACK_RX, rHOME_CFG, rHOME_SNP_TMO, rHOME_LEASE, rHOME_HTT_STAT, rHOME_TRK_STAT]

def regList5 : List RegDef := [rHOME_RETRY, rHOME_WAIT, rHOME_RECALL, rHOME_SNOOPS, rHOME_RESNOOP, rHOME_POISON, rHOME_LATE, rHOME_AGENT_LOSS, rGLY_PEER, rSWC_CFG, rSWC_PART_SLOT, rSWC_PRIO_MAP, rSWC_STAT, rSWC_CUT, rSWC_DROP, rSWC_ECN_MARK]

def regList6 : List RegDef := [rSWC_PAUSE, rSWC_PFC_OVERRUN, rSWC_MIR_DROP, rSWC_MIR_SKIP, rSWC_BP, rSWC_PART_SCHED, rSWC_CLASS, rSWC_WRED, rSWC_PFC, rSWC_METER, rSWC_MIR, rETH_CTRL, rETH_STAT, rETH_MAC, rETH_PFC_EN, rETH_DSCP_MAP]

def regList7 : List RegDef := [rETH_IP4, rETH_IP6, rETH_RX_ERR, rETH_PAUSE_X, rETH_CNP, rETH_PARTNER, rETH_MACSEC_SCI, rETH_MACSEC_CFG, rETH_MACSEC_SA, rETH_CC_RATE, rETH_CC_TIME, rETH_LLDP, rETH_DESC, rETH_DESC_REFUSED, rETH_CMP_ERR, rETH_CMP_NORING]

def regList8 : List RegDef := [rETH_PARTNER_EVT, rETH_SYS_DESC, rETH_SYS_CMP, rCMP_EPOCH, rCMP_LEADER, rCMP_MAP_TMO, rCMP_OWN_TMO, rCMP_PROPOSALS, rCMP_REVOKE_PEND, rCMP_DISPUTES, rCMP_END_DISCARD, rCMP_CHARGE, rCMP_PARTNER, rREPRO_DEFAULTS, rREPRO_SIG_S, rREPRO_SIG_C]

def regList9 : List RegDef := [rREPRO_ROUNDS, rREPRO_EXACT_STAT, rREPRO_EXACT_WAIT, rREPRO_LOSSY, rREPRO_CHOICES, rHLT_CFG, rHLT_STAT, rHLT_SEL, rHLT_UNIT, rHLT_KAT, rHLT_KAT_OVERDUE, rHLT_DIE, rHLT_CKPT, rHLT_CKPT_TMO, rHLT_UNDO, rHLT_FREEZE]

def regList10 : List RegDef := [rHLT_RESTORE, rRATTLE_CTRL, rRATTLE_SEED, rRATTLE_CREDIT, rRATTLE_ARB, rRATTLE_EVICT, rRATTLE_INJECT, rRATTLE_AON, rRATTLE_TOKEN, rRATTLE_DELAY, rEVR_STAT, rEVR_COLD_START, rEVR_WIN, rEVR_WIN_DATA, rEVR_RATE_SEL, rEVR_RATE]

def regList11 : List RegDef := [rEVR_SUPPRESSED, rEVR_FLUSH, rEVR_MSG_CFG, rEVR_MSG_VA, rEVR_MSG_DROP, rIRQ_SUMMARY, rIRQ_SUMMARY_MASK, rIRQ_CFG, rIRQ_GROUP, rIRQ_GROUP_MASK, rIRQ_LEAF, rIRQ_LEAF_MASK, rSTART_CTRL, rSTART_STAT, rSTART_READY, rSTART_REJOIN_TMO]

def regList12 : List RegDef := [rSTART_LOADER_IP, rSTART_FW_WIN, rPWR_CLK_STAT, rPWR_THERM_CFG, rPWR_TRIP, rPWR_AVS, rPWR_RGN, rSEC_STAT, rSEC_CTRL, rSEC_ATTEST, rSEC_NONCE, rSEC_REPORT, rSEC_TOKEN, rSEC_ENROLL, rSEC_CERT, rSEC_LINK_KEY]

/-- Every control register of the manual. -/
def allRegs : List RegDef :=
  regList0 ++ regList1 ++ regList2 ++ regList3 ++ regList4 ++ regList5 ++ regList6 ++ regList7 ++ regList8 ++ regList9 ++ regList10 ++ regList11 ++ regList12

end Sys2Proof.Machine
end

