-- ==== Sys2Proof/Machine/SysState.lean ====
section
/-! DEFINITION. The state of starts and power, of security, of health and of the package's own interfaces, as plain data
(chapters 17, 19, 20, 21). -/

namespace Sys2Proof.Machine

/-- What the package is doing (Table 19-1, R466, R467, R474). -/
inductive Mode where
  /-- no standby supply -/
  | off
  /-- the always-on domain runs and the package waits for PORST_N or a start request -/
  | standby
  | starting
  | ready
  /-- the package has failed (Table 01-2) -/
  | failed
  /-- failed for want of REFCLK: once that is back the package waits for PORST_N or a start request -/
  | unclocked
  | loader
  deriving DecidableEq, Repr

/-- What a warm start keeps in the device tables (R463). -/
structure Tables where
  ctxs : Assoc Ctx
  qps : Assoc Qp
  keys : Assoc Key
  deriving DecidableEq, Repr

/-- Starts (chapter 19). -/
structure StartSt where
  mode : Mode
  /-- 0 cold, 1 warm, 2 recovery loader -/
  kind : Nat
  /-- step of Table 19-2; 9 Ready -/
  step : Nat
  /-- counts at which the step and the start began -/
  stepAt : Nat
  trigAt : Nat
  /-- a warm request held until Ready (R458) -/
  heldWarm : Bool
  coldFails : Nat
  warmFails : Nat
  lastFail : Nat
  /-- PORST_N and THERMTRIP_N are low; REFCLK is present; standby supply was lost since the last start (R450) -/
  porst : Bool
  therm : Bool
  refclk : Bool
  lost : Bool
  /-- the map that the Attic holds while the package has not rejoined (R385, R461, R464) -/
  attic : Option MapSt
  tables : Option Tables
  /-- START_FW_WIN, by offset (R466) -/
  fw : List Host.Cell
  /-- Larder stacks that have failed, die · 2 + stack (R158, LRD_STAT) -/
  badStacks : NatSet
  deriving DecidableEq, Repr

/-- The start state when PORST_N has just been released: step 1 of a cold start. -/
def StartSt.reset : StartSt :=
  { mode := .starting, kind := 0, step := 1, stepAt := 0, trigAt := 0, heldWarm := false, coldFails := 0, warmFails := 0,
    lastFail := 0, porst := false, therm := false, refclk := true, lost := false, attic := none, tables := none, fw := [],
    badStacks := [] }

/-- An RSA-3072 public key: modulus and exponent (chapter 20). -/
structure RsaKey where
  n : Nat
  e : Nat
  deriving DecidableEq, Repr

/-- Security (chapter 20). -/
structure Sec where
  /-- digests in the written fabric slots, slot 0 first (Table 20-1) -/
  slots : List Nat
  /-- the fabric key in force, and the one that the next start takes (R478) -/
  fabric : Option RsaKey
  fabricNext : Option RsaKey
  fusedSvn : Nat
  /-- composition data keys by tag; tag 0 is the system key (R480) -/
  dataKeys : Assoc Nat
  links : Assoc LinkKey
  /-- the running Molend: slot, version word (bytes 4-7 of its header), SVN, measurement (R479) -/
  slot : Nat
  version : Nat
  svn : Nat
  molend : Nat
  /-- the contents of the boot slots -/
  flash : Assoc (List Byte)
  spiOpen : Bool
  /-- SEC_STAT.DEBUG, and whether debug was unlocked since the cold start -/
  debug : Nat
  debugged : Bool
  /-- the report being signed, with the count of its GO (R484) -/
  sample : Option (Nat × List Byte)
  /-- MASK of the test token that unlocked Rattle (R439) -/
  rattle : Nat
  deriving DecidableEq, Repr

/-- Nothing enrolled, no key, no image. -/
def Sec.reset : Sec :=
  { slots := [], fabric := none, fabricNext := none, fusedSvn := 0, dataKeys := [], links := [], slot := 0, version := 0,
    svn := 0, molend := 0, flash := [], spiOpen := true, debug := 0, debugged := false, sample := none, rattle := 0 }

/-- A cell held in the switch core (R333, R338): switch ports, class, owner, what it is charged to (0 the reserve of its
triple, 1 the pool, 2 the system reserve, 3 a class floor), and, for the first cell of a frame or message, its bytes and
five-tuple; `copy` marks a mirror copy (R346). -/
structure Cell where
  inp : Nat
  out : Nat
  cls : Nat
  owner : Nat
  from_ : Nat
  first : Option Nat
  ip : Option IpTuple
  copy : Bool
  deriving DecidableEq, Repr

/-- The switch core (chapter 13). -/
structure Swc where
  /-- cells held, in the order of their admission -/
  cells : List Cell
  /-- rotating input pointers, and average depths in 2^-16 cells, by `output · 8 + class` (R335, R342) -/
  ptr : Assoc Nat
  avg : Assoc Nat
  /-- class that shares an output now, and the cells left of its quantum (R335) -/
  drr : Assoc (Nat × Nat)
  /-- Tc and Te in 2^-6 bytes and the count at which they stood so (R341) -/
  meters : Assoc (Nat × Nat × Nat)
  /-- triples whose Ethernet input is paused: input port, class, owner (R344) -/
  paused : List (Nat × Nat × Nat)
  /-- slot of the schedule in force, and that schedule (R347) -/
  slot : Nat
  sched : List Nat
  deriving DecidableEq, Repr

/-- A partner on an Ethernet port (R374, R375). -/
structure EPartner where
  chassis : Nat
  portId : Nat
  /-- count at which its Time To Live expires -/
  expiry : Nat
  tlv : Option LldpTlv
  deriving DecidableEq, Repr

/-- An Ethernet port (chapter 14). -/
structure EPort where
  /-- 0 down, 1 training, 2 up (ETH_STAT) -/
  link : Nat
  partner : Option EPartner
  /-- count of the last LLDPDU sent -/
  lldpAt : Nat
  /-- priorities the partner paused, with the count at which the pause ends (R354) -/
  paused : Assoc Nat
  deriving DecidableEq, Repr

/-- A host READ whose bytes are on their way to the hub (R198). -/
structure HostRead where
  qp : Nat
  key : Nat
  ctx : Nat
  addr : Nat
  len : Nat
  psn : Nat
  /-- the context's segments as the check met them (R201) -/
  segs : Assoc Seg
  deriving DecidableEq, Repr

/-- The Ethernet block: ports, the count of the last rate step (R359), and host READs not yet answered. -/
structure Eth where
  ports : Assoc EPort
  ccAt : Nat
  hostReads : List HostRead
  deriving DecidableEq, Repr

/-- The health of a unit (R420 to R423). -/
structure HUnit where
  score : Nat
  observed : Bool
  suspect : Bool
  /-- tests and consecutive passes since it entered observation; mismatches since cold start -/
  tests : Nat
  passes : Nat
  mism : Nat
  /-- bit `4 · band + perturbation`: tested so since it entered observation -/
  cover : Nat
  /-- served by its cluster's spare unit -/
  spared : Bool
  /-- count of its last test; count before which a change of band asks for one; a test that is due and has not run -/
  lastAt : Nat
  dueBy : Option Nat
  due : Bool
  /-- the last period of 2^28 counts in which a corrected Shelf error lowered the score, and how many did (Table 17-4) -/
  ceWin : Nat
  ceN : Nat
  deriving DecidableEq, Repr

/-- A unit as shipped. -/
def HUnit.reset : HUnit :=
  { score := 255, observed := false, suspect := false, tests := 0, passes := 0, mism := 0, cover := 0, spared := false,
    lastAt := 0, dueBy := none, due := false, ceWin := 0, ceN := 0 }

/-- Where a code or a parity check will find an error (R155, R160, R414 to R417). -/
inductive Spot where
  /-- a 64-bit Shelf word, by `unit · 2048 + offset / 8` (R155) -/
  | shelf (word : Nat)
  /-- a Larder line, by key / 64 (R160) -/
  | line (line : Nat)
  /-- a data word or a tag of a region's cache (R417) -/
  | cacheData (rgn : Nat)
  | cacheTag (rgn : Nat)
  /-- a data path or a control path of a unit's engines (R415, R416) -/
  | unitData (u : Nat)
  | unitCtrl (u : Nat)
  /-- a control path of a Puppeteer, of a die's scheduler, and of the hub (R416) -/
  | puppeteer (cl : Nat)
  | die (d : Nat)
  | hub
  /-- a data path or a control path of a link's transmitter (R415, R416) -/
  | linkData (l : Nat)
  | linkCtrl (l : Nat)
  deriving DecidableEq, Repr

/-- An error that is there and that nothing has read yet. -/
structure Flaw where
  spot : Spot
  /-- the code cannot correct it; parity never can -/
  hard : Bool
  /-- injected by Rattle (R419) -/
  inj : Bool
  /-- detail words of its report that its place does not give (Table 17-2) -/
  d0 : Nat
  d1 : Nat
  d2 : Nat
  deriving DecidableEq, Repr

/-- Health and sparing (R420 to R427). -/
structure Health where
  units : Assoc HUnit
  /-- temperature band by region (Table 17-3) -/
  bands : Assoc Nat
  /-- spare regions used by die; replacements of this cold start by die; count of the last replacement by cluster -/
  spareRgn : Assoc Nat
  expelled : Assoc Nat
  replAt : Assoc Nat
  /-- caps reported: clusters with the count of the report, dies -/
  capCl : Assoc Nat
  capDie : NatSet
  /-- replacements in progress by region, with the count at which they complete -/
  replacing : Assoc Nat
  degraded : Bool
  /-- what the Attic holds: health of the units and spare regions used, and the count of the last periodic save (R422) -/
  saved : Assoc HUnit
  savedRgn : Assoc Nat
  savedAt : Nat
  /-- count at which each die's patrol pass began (R162) -/
  patrol : Assoc Nat
  deriving DecidableEq, Repr

/-- Every unit as shipped, no spare used. -/
def Health.reset : Health :=
  { units := [], bands := [], spareRgn := [], expelled := [], replAt := [], capCl := [], capDie := [], replacing := [],
    degraded := false, saved := [], savedRgn := [], savedAt := 0, patrol := [] }

/-- Core rails by die, 8 the hub: voltage target in mV and the count of its last step (R471). -/
structure Pwr where
  target : Assoc Nat
  stepAt : Assoc Nat
  deriving DecidableEq, Repr

/-- The I3C sensor port and the boundary-scan port (R503, R504, R487). -/
structure Pins where
  i3cAddr : Nat
  i3cOff : Nat
  /-- the sensor block as it was last refreshed, and the count of that refresh -/
  block : List Byte
  blockAt : Nat
  /-- JTAG instruction: 0 BYPASS, 1 IDCODE, 2 SAMPLE/PRELOAD, 3 EXTEST; cells preloaded -/
  jtag : Nat
  cells : Nat
  deriving DecidableEq, Repr

/-- An empty switch core. -/
def Swc.reset : Swc := { cells := [], ptr := [], avg := [], drr := [], meters := [], paused := [], slot := 0, sched := [] }
/-- A port with its link down. -/
def EPort.reset : EPort := { link := 0, partner := none, lldpAt := 0, paused := [] }

end Sys2Proof.Machine
end

