-- ==== Sys2Proof/Machine/WorkState.lean ====
section
/-! DEFINITION. The state of running searches and embedding operations, as plain data (chapters 08 and 09). -/

namespace Sys2Proof.Machine

/-- A result entry of a search (R232). -/
structure SEnt where
  id : Nat
  dist : Nat
  score : Nat
  deriving DecidableEq, Repr

/-- A query of a running search (R227, R233). -/
structure SQ where
  raw : Nat
  dense : List Byte
  /-- 0 OK, 1 MALFORMED, 2 BOUNDS -/
  status : Nat
  /-- lists in the order of rank, up to the limit (lead) -/
  rank : List Nat
  /-- lists probed in this round, and in all rounds -/
  now : List Nat
  probed : Nat
  /-- entries matched here in this round, and by every package over all rounds -/
  matched : Nat
  total : Nat
  widened : Bool
  indexErr : Bool
  poison : Bool
  /-- the package list, and the best K after re-rank -/
  best : List SEnt
  final : List SEnt
  deriving DecidableEq, Repr

/-- A list batch (R234): a piece of a list and the queries that probe it. -/
structure SBatch where
  die : Nat
  list : Nat
  /-- address of the piece's first block, item id base, entries, and the queries' numbers -/
  addr : Nat
  base : Nat
  count : Nat
  qs : List Nat
  deriving DecidableEq, Repr

/-- A running search (R233): stage 0 reads its header and queries, 1 its centroids, vectors and directory, 2 scans, 3 waits
between rounds, 4 re-ranks, 5 waits for the last reports, 6 is done. -/
structure Srch where
  d : Vec
  /-- the lead, on a peer -/
  lead : Option Nat
  nLists : Nat
  stage : Nat
  hdr : Nat
  /-- selected delta directory, and the COUNT of each of its entries (R221, R222) -/
  delta : Option (Nat × List Nat)
  qs : List SQ
  queued : List SBatch
  /-- running batches by region -/
  running : Assoc SBatch
  /-- running lists by `die · 2^16 + query` (R237) -/
  dieBest : Assoc (List SEnt)
  /-- peers whose reply is awaited, with the expiry of its timeout -/
  waiting : Assoc (Option Nat)
  failed : List Nat
  /-- last reports, by package -/
  reports : Assoc (List (List SEnt))
  /-- extents that the search keeps fetched, address and bytes; bitmap pieces being fetched for a region's batch (R223) -/
  kept : List (Nat × Nat)
  tombs : Assoc (List (Nat × Nat))
  deriving DecidableEq, Repr

/-- An update or set that waits at its owner: who is answered, row, kind, order key and data (R260). -/
structure EUpd where
  ans : Option (Fin 17 × ReqHdr)
  row : Nat
  set : Bool
  /-- (bag, position, source entry) -/
  key : Nat × Nat × Nat
  data : List Byte
  deriving DecidableEq, Repr

/-- A strict batch at an owner: updates, stripe entries whose end marker has come with who is answered, and the expiry of
the collective timeout (R260, R261). -/
structure EBatch where
  upds : List EUpd
  marks : Assoc (Option (Fin 17 × ReqHdr))
  expiry : Option Nat
  deriving DecidableEq, Repr

/-- A redirect entry of a row's home: holder, spare slot there, and state 0 COPYING, 1 REDIRECTED, 2 returning (R265). -/
structure Redir where
  peer : Nat
  slot : Nat
  st : Nat
  deriving DecidableEq, Repr

/-- A migration or return in progress at its sender (R266, R268): phase 0 offered, 1 copying, 2 transfer sent, 3 lost. -/
structure Mig where
  peer : Nat
  ver : Nat
  rows : List Nat
  slots : List Nat
  phase : Nat
  back : Bool
  /-- window ends since its offer (R267) -/
  age : Nat
  deriving DecidableEq, Repr

/-- What a package keeps for a table slot beyond its TABLE_SET (R258 to R268). -/
structure ETab where
  /-- write generation (R263) -/
  gen : Nat
  /-- scatters submitted here since TABLE_SET -/
  batch : Nat
  /-- strict batch that the owner applies next -/
  next : Nat
  batches : Assoc EBatch
  /-- package entry of a row's last applied update or set (R259) -/
  lastSrc : Assoc Nat
  /-- rows served as owner in this window, and the sampler (R264) -/
  served : Nat
  sampler : Assoc Nat
  redirects : Assoc Redir
  /-- rows held here for their home: spare slot, and whether they are owned (R266) -/
  held : Assoc (Nat × Bool)
  /-- the row that left a spare slot last, by slot (R268); ownership version of each moved row (R393) -/
  gone : Assoc Nat
  vers : Assoc Nat
  mig : Option Mig
  /-- strict updates that the home forwarded while the row is on its way back, with their batch (R260, R268) -/
  fwdHeld : List (Nat × EUpd)
  /-- strict batches whose timeout has acted (R261) -/
  dead : NatSet
  /-- updates and sets sent to each package (R263) -/
  sent : Assoc Nat
  /-- coordinator: reports of the window, and moves it ordered: rows, home, holder -/
  reports : Assoc (Nat × List (Nat × Nat))
  given : List (List Nat × Nat × Nat)
  /-- coordinator: the package that carries out the move or return ordered last, until it has ended, and the window ends
  since (R264) -/
  order : Option (Nat × Nat)
  deriving DecidableEq, Repr

/-- A running embedding operation (R250 to R258): stage 0 reads its inputs, 1 its rows, 2 waits for its updates, 6 is
done. -/
structure ERun where
  op : Nat
  d : Vec
  stage : Nat
  /-- number of the strict batch -/
  batch : Nat
  idx : List Nat
  /-- (first, count) of the bags carried out -/
  bags : List (Nat × Nat)
  fault : Option Nat
  /-- rows to read -/
  rows : List Nat
  deriving DecidableEq, Repr

/-- A prefetched row (R262, R263): bytes, package that served it, generation or vintage it records. -/
structure Staged where
  data : List Byte
  from_ : Nat
  gen : Nat
  deriving DecidableEq, Repr

/-- A prefetch that waits or runs: rows still to read, once they are wanted. -/
structure Pre where
  addr : Nat
  n : Nat
  /-- vintage that the prefetching kernel pinned for the table's segment (R263) -/
  vint : Nat
  /-- its indices are wanted (R262) -/
  want : Bool
  rows : Option (List Nat)
  deriving DecidableEq, Repr

/-- The rest of a row of more than one request that another package reads: context, program address of the next part, and
the bytes as they were at its first part (R258). -/
structure RowSnap where
  ctx : Nat
  addr : Nat
  rest : List (List Byte × Bool)
  deriving DecidableEq, Repr

/-- Embedding (chapter 09). -/
structure Emb where
  runs : Assoc ERun
  /-- by `context · 64 + slot` -/
  tabs : Assoc ETab
  pres : Assoc Pre
  /-- by context, then `slot · 2^40 + row` -/
  staged : Assoc (Assoc Staged)
  /-- by the port that reads; a home's forwarded reads by that number + 2^16 -/
  snaps : Assoc RowSnap
  windowAt : Nat
  deriving DecidableEq, Repr

/-- A copy of a Larder page before its first write since the commit: its bytes and its poisoned lines (R418, R432). -/
structure UndoPage where
  cells : List (Nat × Byte)
  pois : List Nat
  deriving DecidableEq, Repr, Inhabited

/-- A state image of a composition on this package (R431). -/
structure Image where
  n : Nat
  units : Assoc Unt
  shelf : List (Nat × Byte)
  spois : List Nat
  ctxs : Assoc Ctx
  groups : Assoc GroupRun
  taken : Assoc (List Nat)
  exact : Assoc Exact
  choices : Assoc Nat
  srch : Assoc Srch
  runs : Assoc ERun
  tabs : Assoc ETab
  deriving DecidableEq, Repr, Inhabited

/-- Checkpoints of a composition (R428 to R434). -/
structure Ckpt where
  enabled : Bool
  step : Nat
  interval : Nat
  n : Nat
  /-- 0 none, 1 freezing, 2 copying -/
  phase : Nat
  began : Nat
  /-- count at which the present checkpoint interval began -/
  lastAt : Nat
  frozen : Bool
  /-- count up to which the time of the present freeze has been counted (HLT_FREEZE) -/
  frozeAt : Nat
  drainSent : Bool
  drained : NatSet
  staged : NatSet
  /-- undo pages here, and pages whose only copy is the buddy's (R432) -/
  undo : Assoc UndoPage
  far : Assoc UndoPage
  dirty : NatSet
  uncovered : Bool
  /-- the package asks for a checkpoint (R432) -/
  asked : Bool
  image : Option Image
  /-- image being taken, not yet committed, and the bytes its checkpoint sends -/
  taken : Option Image
  bytes : Nat
  /-- CKPT_TAKE to complete, with its context -/
  q : Option (Nat × QDesc)
  deriving DecidableEq, Repr

end Sys2Proof.Machine
end

