-- ==== Sys2Proof/Machine/State.lean ====
section
/-! DEFINITION. The state of one CH4816: everything the manual gives the part, as plain data, the reasons a step can
stop, and the state after reset. -/

namespace Sys2Proof.Machine

/-- Why a command stops the block. -/
inductive Fault where
  /-- Raised by a command that names a unit or region the part's grade does not have (R2): the manual says such a
  locator does not exist.  Safe: the block stops where the hardware has nothing. -/
  | noSuchUnit
  deriving DecidableEq, Repr

/-- Why a command has no meaning. -/
inductive Refusal where
  /-- Raised by the dispatch of a command that this model gives no meaning.  Safe: no state is answered. -/
  | notModelled (mnemonic : String)
  deriving DecidableEq, Repr

/-- What the part was made as: grade, fuses and other factory values (R2, R4, R478). -/
structure Part where
  gradeT : Bool
  oui : Nat
  macs : List Nat
  /-- SHA-256 of the firmware root modulus (R479) and of the token authority key, and that key itself in the boot ROM (Table
  20-1) -/
  rootDigest : Nat
  tokenDigest : Nat
  tokenKey : RsaKey
  /-- the device identity digest, and the device certificate (R477) -/
  identity : Nat
  cert : List Byte
  deriving DecidableEq, Repr

/-- What leaves the package: the messages, writes and reports it sends, oldest first.  The model's own record. -/
inductive Tx where
  /-- a message on a queue pair: queue pair, first PSN, WRITE or SEND, bytes (R357) -/
  | rdma (qp psn : Nat) (kind : QpKind) (data : List Byte)
  /-- an acknowledgement, a NAK with its syndrome, and a READ response, on a queue pair (R358) -/
  | ack (qp psn : Nat)
  | nak (qp psn syndrome : Nat)
  | readRsp (qp psn : Nat) (data : List Byte)
  /-- a congestion notification (R359) -/
  | cnp (qp : Nat)
  /-- a message on a link, 0–15 Guelyo, 16–32 a Cellar channel: virtual channel, header and body bytes (R295, R168); the
  flits that carry it follow -/
  | gly (link vc : Nat) (data : List Byte)
  /-- a flit on a link: header, slots as they are on the wire, CRC (Table 11-3) -/
  | flit (link hdr slots crc : Nat)
  /-- a message to another package whose layout the manual leaves open: kind, and what it carries -/
  | msg (dest kind : Nat) (body : List Nat)
  /-- an Ethernet frame of the port's own: port and bytes without the FCS (R356, R374) -/
  | eth (port : Nat) (frame : List Byte)
  /-- a PFC frame: port, mask of priorities, whether it pauses or resumes them (R344) -/
  | pfc (port mask : Nat) (pause : Bool)
  /-- bytes read on the management SPI port and on the I3C port, and a boundary-scan register shifted out, with its bits -/
  | spi (data : List Byte)
  | i3c (data : List Byte)
  | jtag (n : Nat) (v : Nat)
  deriving DecidableEq, Repr

/-- The state of the block. -/
structure State where
  /-- commands that wait, first in, first out -/
  pending : List Instr
  /-- the local count (R7) -/
  count : Nat
  /-- numbers the free choices taken so far; the model's own field -/
  nonce : Nat
  part : Part
  /-- control registers written since reset: offset and whole value (R15, R16) -/
  ctl : Assoc Nat
  /-- Larder bytes that are not zero, by `die · 2^38 + LPA` (R157) -/
  larder : List Host.Cell
  /-- Shelf bytes that are not zero, by `unit · 2^14 + offset` (chapter 06) -/
  shelf : List Host.Cell
  /-- poisoned Larder lines, by key / 64 (R160, R161) -/
  lpois : NatSet
  /-- poisoned Shelf rows, by key / 64 (R155) -/
  spois : NatSet
  /-- errors that no read has met yet, oldest first (R155, R160, R414 to R417) -/
  flaws : List Flaw
  /-- access counters of Larder pages, by key / 2^21 (R165) -/
  lcount : Assoc Nat
  /-- owner composition of allocated Larder pages, by key / 2^21 -/
  pageOwner : Assoc Nat
  units : Assoc Unt
  /-- running groups by cluster index `unit / 16` -/
  groups : Assoc GroupRun
  /-- regions by `die · 128 + region` -/
  rgns : Assoc Rgn
  /-- counts at which each die began its latest wakes from Sleep or Off, newest first (R470) -/
  wakes : Assoc (List Nat)
  /-- group numbers taken and not yet placed, by `die · 4096 + context` (R51) -/
  taken : Assoc (List Nat)
  /-- region-cache copies: region, then line key, 64 bytes (R136) -/
  rcache : Assoc (Assoc Nat)
  ctxs : Assoc Ctx
  flt : Flt
  qps : Assoc Qp
  keys : Assoc Key
  keyGen : Assoc Nat
  cel : Cellar
  gly : Gly
  home : Home
  repro : Repro
  /-- checkpoints by composition -/
  ckpt : Assoc Ckpt
  map : MapSt
  /-- running searches by context -/
  srch : Assoc Srch
  emb : Emb
  evr : Evr
  start : StartSt
  sec : Sec
  swc : Swc
  eth : Eth
  hlt : Health
  pwr : Pwr
  pins : Pins
  tx : List Tx
  deriving DecidableEq, Repr

/-- The Cellar with no module seen and nothing allocated. -/
def Cellar.reset : Cellar :=
  { slots := [], chans := [], tags := [], unsent := [], fetch := [], exts := [], vints := [], opened := [], setsUsed := [],
    stale := [], rebuild := none, cursor := 0, rbRow := 0, rbGoal := 0, scrubCursor := 0, scRow := 0, scLeft := 0, scrub := none,
    periodAt := 0, scrubAt := 0 }
/-- Guelyo with every link Down and nothing outstanding. -/
def Gly.reset : Gly :=
  { links := [], ports := [], reqs := [], timed := [], pairs := [], inHeld := [], xpods := [], podEpoch := [], celWait := [],
    behind := [], peer := [], peerAt := [], lease := [], hub := [] }
/-- Home agents with no attachment, transaction or grant. -/
def Home.reset : Home :=
  { attach := [], leases := [], txns := [], nextTxn := 0, nextTag := 0, trk := [], late := [], acks := [], leaving := [] }
/-- No exact sum, held operation or round. -/
def Repro.reset : Repro := { exact := [], waits := [], held := [], rounds := [], lastSrc := [], lossy := [] }
/-- A package with no map. -/
def MapSt.reset : MapSt :=
  { podPkg := none, epoch := 0, term := 0, members := [], comps := [], log := [], prepared := none, appended := none,
    committed := none, heard := [], leading := false, hbAt := 0, partners := [], fenced := false,
    idents := [], waitProps := [], proposing := [], revoked := [], revoking := [], freeing := [], draining := [], owners := [], charge := [],
    chargeSeq := 0, chargeAt := 0, ledger := none, chargeHeld := [] }
/-- An empty recorder. -/
def Evr.reset : Evr :=
  { seq := 0, cold := 0, carousel := [], vault := [], flushArea := [], shipped := false, flushing := none, tokens := [],
    subTokens := [], supp := [], rates := [], msgs := 0, refillAt := 0, pwrfail := false }

/-- The I3C port at its static address with the block of a package before step 3, and the scan port in IDCODE. -/
def Pins.reset : Pins :=
  { i3cAddr := 0x3A, i3cOff := 0, block := (List.replicate 9 (leBytes 2 0x8000)).flatten ++ List.replicate 37 0, blockAt := 0,
    jtag := 1, cells := 0 }
/-- A part whose factory values are all zero (log entry 2). -/
def Part.reset : Part :=
  { gradeT := false, oui := 0, macs := [], rootDigest := 0, tokenDigest := 0, tokenKey := ⟨0, 0⟩, identity := 0, cert := [] }

/-- The part right after reset: nothing commanded, every register at its reset value, every memory zero. -/
def State.reset : State :=
  { pending := [], count := 0, nonce := 0, part := Part.reset, ctl := [], larder := [],
    shelf := [], lpois := [], spois := [], flaws := [], lcount := [], pageOwner := [], units := [], groups := [], rgns := [], wakes := [],
    taken := [], rcache := [], ctxs := [(0, { Ctx.reset with st := .idle })], flt := { recs := [], gens := [], timed := [] }, qps := [], keys := [],
    keyGen := [], cel := .reset, gly := .reset, home := .reset, repro := .reset, ckpt := [], map := .reset,
    srch := [], emb := ⟨[], [], [], [], [], 0⟩, evr := .reset, start := .reset, sec := .reset, swc := .reset, eth := ⟨[], 0, []⟩, hlt := .reset, pwr := ⟨[], []⟩,
    pins := .reset, tx := [] }

end Sys2Proof.Machine
end

