-- ==== Sys2Proof/Machine/Ops.lean ====
section
/-! DEFINITION. The named operations over registers, memory and threads that every command's meaning is written with. -/

namespace Sys2Proof.Machine

/-! ### Control registers (R15, R66) -/

/-- The stored value of entry `(i, j)` of a control register. -/
def State.rd (s : State) (r : RegDef) (i : Nat := 0) (j : Nat := 0) : Nat := s.ctl.getD (r.at i j) (r.resetAt i j)
/-- Bits `hi:lo` of a control register. -/
def State.fld (s : State) (r : RegDef) (hi lo : Nat) (i : Nat := 0) (j : Nat := 0) : Nat := bits (s.rd r i j) hi lo
/-- Store a whole control register. -/
def State.wr (s : State) (r : RegDef) (i j v : Nat) : State := { s with ctl := s.ctl.put (r.at i j) (v % 2 ^ r.width) }
/-- A register value with bits `hi:lo` replaced. -/
def setBits (x hi lo v : Nat) : Nat :=
  let w := hi - lo + 1
  x - (bits x hi lo) * 2 ^ lo + v % 2 ^ w * 2 ^ lo
/-- Replace bits `hi:lo` of a control register. -/
def State.setFld (s : State) (r : RegDef) (hi lo v : Nat) (i : Nat := 0) (j : Nat := 0) : State :=
  s.wr r i j (setBits (s.rd r i j) hi lo v)
/-- The bits of a register's fields of an access code. -/
def RegDef.maskOf (r : RegDef) (a : Access) : Nat :=
  r.fields.foldl (fun m f => if f.2.2 = a then m ||| ((2 ^ (f.1 - f.2.1 + 1) - 1) <<< f.2.1) else m) 0
/-- Replace the read-write fields of a register; the rest stays (R15). -/
def State.wrRw (s : State) (r : RegDef) (i j v : Nat) : State :=
  let m := r.maskOf .rw
  let old := s.rd r i j
  s.wr r i j ((old - (old &&& m)) ||| (v &&& m))
/-- Raise the counter in bits `hi:lo`, wrapping at its width (R66). -/
def State.inc (s : State) (r : RegDef) (hi lo : Nat) (i : Nat := 0) (j : Nat := 0) (n : Nat := 1) : State :=
  s.setFld r hi lo (s.fld r hi lo i j + n) i j

/-! ### Byte memories in canonical form -/

/-- The byte at an address; an unlisted address reads as zero. -/
def Memory.get : List Host.Cell → Nat → Byte
  | [], _ => 0
  | (k, b) :: m, a => if k = a then b else Memory.get m a
/-- Remove an address, which then reads as zero. -/
def Memory.clear : List Host.Cell → Nat → List Host.Cell
  | [], _ => []
  | (k, b) :: m, a => if k = a then m else (k, b) :: Memory.clear m a
/-- Write a byte that is not zero, keeping addresses rising. -/
def Memory.insert : List Host.Cell → Nat → Byte → List Host.Cell
  | [], a, v => [(a, v)]
  | (k, b) :: m, a, v =>
    if a < k then (a, v) :: (k, b) :: m
    else if a = k then (a, v) :: m
    else (k, b) :: Memory.insert m a v
/-- Write one byte; zero is what an unlisted address reads as, so writing it removes the entry. -/
def Memory.set (m : List Host.Cell) (a : Nat) (v : Byte) : List Host.Cell :=
  if v = 0 then Memory.clear m a else Memory.insert m a v
/-- Addresses strictly rising above a bound, and no listed byte zero. -/
def Memory.wfFrom : Option Nat → List Host.Cell → Bool
  | _, [] => true
  | lo, (k, b) :: m => (match lo with | none => true | some l => decide (l < k)) && decide (b ≠ 0) && Memory.wfFrom (some k) m
/-- The canonical form of a byte memory. -/
def Memory.wf (m : List Host.Cell) : Bool := Memory.wfFrom none m
/-- Write bytes upward from an address. -/
def Memory.setAll (m : List Host.Cell) (a : Nat) : List Byte → List Host.Cell
  | [] => m
  | b :: bs => Memory.setAll (Memory.set m a b) (a + 1) bs
/-- Read bytes upward from an address. -/
def Memory.getAll (m : List Host.Cell) (a : Nat) : Nat → List Byte
  | 0 => []
  | n + 1 => Memory.get m a :: Memory.getAll m (a + 1) n
/-- Zero every byte in a range of addresses. -/
def Memory.zero (m : List Host.Cell) (a n : Nat) : List Host.Cell := m.filter (fun c => decide (c.1 < a ∨ a + n ≤ c.1))

/-! ### Units, threads, contexts -/

/-- Regions per die of the grade (R2). -/
def State.nRgn (s : State) : Nat := if s.part.gradeT then 112 else 128
/-- Region of a unit locator [19:0]: `die · 128 + region` (R5). -/
def rgnOf (u : Nat) : Nat := u / 1024
/-- Whether the grade has the unit's region (R2). -/
def State.unitOk (s : State) (u : Nat) : Bool := decide (rgnOf u % 128 < s.nRgn) && decide (u < 2 ^ 20)
/-- A unit. -/
def State.unt (s : State) (u : Nat) : Unt := s.units.getD u .reset
/-- Store a unit. -/
def State.setUnt (s : State) (u : Nat) (x : Unt) : State := { s with units := s.units.put u x }
/-- Change a unit. -/
def State.updUnt (s : State) (u : Nat) (f : Unt → Unt) : State := s.setUnt u (f (s.unt u))
/-- A thread slot of a unit. -/
def Unt.thr (x : Unt) (t : Nat) : Thread := x.th.toList.getD t .reset
/-- Store a thread slot. -/
def Unt.setThr (x : Unt) (t : Nat) (y : Thread) : Unt := { x with th := x.th.setIfInBounds t y }
/-- A thread. -/
def State.thr (s : State) (u t : Nat) : Thread := (s.unt u).thr t
/-- Store a thread. -/
def State.setThr (s : State) (u t : Nat) (y : Thread) : State := s.updUnt u (·.setThr t y)
/-- Change a thread. -/
def State.updThr (s : State) (u t : Nat) (f : Thread → Thread) : State := s.setThr u t (f (s.thr u t))
/-- A region. -/
def State.rgn (s : State) (r : Nat) : Rgn := s.rgns.getD r .reset
/-- Change a region. -/
def State.updRgn (s : State) (r : Nat) (f : Rgn → Rgn) : State := { s with rgns := s.rgns.put r (f (s.rgn r)) }
/-- A context. -/
def State.ctx (s : State) (c : Nat) : Ctx := s.ctxs.getD c .reset
/-- Change a context. -/
def State.updCtx (s : State) (c : Nat) (f : Ctx → Ctx) : State := { s with ctxs := s.ctxs.put c (f (s.ctx c)) }
/-- Change the running kernel of a context. -/
def State.updKer (s : State) (c : Nat) (f : Kernel → Kernel) : State :=
  s.updCtx c (fun x => { x with kernel := x.kernel.map f })
/-- The next number of a free choice, or of an operation. -/
def State.tick (s : State) : State := { s with nonce := s.nonce + 1 }
/-- Send something out of the package. -/
def State.send (s : State) (t : Tx) : State := { s with tx := s.tx ++ [t] }

/-- The package's number in its pod, 0 before it joins a map (R22). -/
def State.pkg (s : State) : Nat := (s.map.podPkg.getD (0, 0)).2
/-- The pod's number. -/
def State.pod (s : State) : Nat := (s.map.podPkg.getD (0, 0)).1
/-- pod × 64 + package. -/
def State.self (s : State) : Nat := s.pod * 64 + s.pkg
/-- A composition's part on this package. -/
def State.partOf (s : State) (tag : Nat) : Option CPart :=
  match s.map.comps.find? tag with
  | some c => c.parts.find? s.pkg
  | none => none
/-- The composition that owns a context; 0, the system, for context 0; none when unassigned. -/
def State.compOf? (s : State) (c : Nat) : Option Nat :=
  if c = 0 then some 0
  else s.map.comps.findKey? (fun _ x =>
    match x.parts.find? s.pkg with
    | some p => decide (p.ctxFirst ≤ c ∧ c < p.ctxFirst + p.ctxCount)
    | none => false)
/-- The composition tag of a context, 0 when none owns it. -/
def State.compOf (s : State) (c : Nat) : Nat := (s.compOf? c).getD 0
/-- The composition that owns a region, none for the system's (Table 15-3). -/
def State.rgnComp (s : State) (r : Nat) : Option Nat :=
  s.map.comps.findKey? (fun _ x => match x.parts.find? s.pkg with
    | some p => let f := p.rgn.getD (r / 128) (0, 0); decide (f.1 ≤ r % 128 ∧ r % 128 < f.1 + f.2)
    | none => false)
/-- Whether a composition runs in strict mode (Table 15-2). -/
def State.strict (s : State) (tag : Nat) : Bool := ((s.map.comps.find? tag).map (·.strict)).getD false
/-- The full 36-bit locator of a unit of this package (R5). -/
def State.locator (s : State) (u : Nat) : Nat := s.pod * 2 ^ 26 + s.pkg * 2 ^ 20 + u

/-- The local count, a 64-bit value, advances by `n`, and with it the charge totals of every composition (R7, R398,
Table 15-7). -/
def State.pass (s : State) (n : Nat) : State :=
  let more (tag : Nat) (c : Charge) : Charge :=
    let p := s.partOf tag
    let sum (f : CPart → Nat) : Nat := (p.map f).getD 0
    let busy := s.ctxs.any (fun e => e.2.kernel.isSome && s.compOf? e.1 == some tag)
    { active := c.active + (if busy then n else 0)
      region := c.region + n * sum (fun p => (p.rgn.map Prod.snd).sum)
      larder := c.larder + n * (s.pageOwner.filter (fun e => e.2 = tag)).length
      cellar := c.cellar + n * (s.cel.exts.filter (fun e => e.2.comp = tag)).length
      slot := c.slot + (if s.fld rSWC_CFG 8 8 = 1 then n * sum (·.slots) else 0) }
  { s with count := (s.count + n) % 2 ^ 64, map := { s.map with charge := s.map.charge.mapV more } }
/-- The package runs nothing: it waits for a start, has failed, or is in the recovery loader (R466, R467, Table 01-2). -/
def State.dead (s : State) : Bool := decide (s.start.mode = .off ∨ s.start.mode = .standby ∨ s.start.mode = .failed ∨
  s.start.mode = .unclocked ∨ s.start.mode = .loader)
/-- Whether a composition is frozen (R430). -/
def State.frozen (s : State) (comp : Nat) : Bool := match s.ckpt.find? comp with | some k => k.frozen | none => false
/-- The outcome of a command that only a running package acts on. -/
def State.live (s s' : State) : Host.Outcome State Fault Refusal := .next (if s.dead then s else s')

/-! ### Events (R442 to R455) -/

/-- BURST and RATE of a code, with the values that stand for invalid ones (EVR_RATE). -/
def State.evrRate (s : State) (code : Nat) : Nat × Nat :=
  let br := s.evr.rates.getD code (0x40, 0x10)
  (max br.1 8, if br.2 ∈ [8, 16, 32, 64, 128] then br.2 else 16)
/-- Tokens in the shared bucket of a code. -/
def State.tokens (s : State) (code : Nat) : Nat := s.evr.tokens.getD code (s.evrRate code).1
/-- Tokens in a composition's sub-bucket of a code. -/
def State.subTokens (s : State) (code comp : Nat) : Nat :=
  s.evr.subTokens.getD (code * 2 ^ 20 + comp) ((s.evrRate code).1 / 8)

/-- An event to report. -/
structure Ev where
  code : Nat
  sev : Nat
  /-- unit locator [19:0], or none for the hub -/
  unit : Option Nat := none
  /-- the locator names a die -/
  whole : Bool := false
  comp : Nat := 0
  oper : Nat := 0
  d0 : Nat := 0
  d1 : Nat := 0
  d2 : Nat := 0

/-- The 64-byte record of an event (Table 18-1). -/
def State.evRecord (s : State) (e : Ev) (supp : Nat) : Nat :=
  let die := match e.unit with | some u => u / 2 ^ 17 | none => 8
  let loc := match e.unit with | some u => s.locator u | none => s.locator 0
  let temp := match e.unit, e.whole with | some u, false => (s.rgn (rgnOf u)).temp | _, _ => Config.dieTemp die s.count
  putField 0 8 s.count + putField 8 4 s.evr.cold + putField 12 2 e.code +
  putField 14 1 (e.sev + (if e.unit = none then 8 else 0)) + putField 15 1 e.oper + putField 16 5 loc +
  putField 22 2 temp + putField 24 2 (Config.railMv die s.count) + putField 28 4 e.comp + putField 32 4 supp +
  putField 36 4 s.evr.seq + putField 40 8 e.d0 + putField 48 8 e.d1 + putField 56 8 e.d2

/-! ### Sending on a queue pair (R357 to R361) -/

/-- The path MTU in bytes (Table 14-3). -/
def Qp.mtu (q : Qp) : Nat := 128 * 2 ^ (fieldOf q.d 22 1 % 8)
/-- Packets a message of `n` bytes takes. -/
def Qp.packets (q : Qp) (n : Nat) : Nat := max 1 ((n + q.mtu - 1) / q.mtu)
/-- The acknowledgement timeout of a queue pair in local counts; 0 arms none (Table 14-3). -/
def Qp.ackTmo (q : Qp) : Nat := let a := bits (fieldOf q.d 23 1) 7 3; if a = 0 then 0 else 2 ^ (a + 7)
/-- A queue pair that exists, belongs to the composition and is not in error. -/
def State.qpOk (s : State) (qp comp : Nat) : Bool :=
  match s.qps.find? qp with
  | some q => q.comp == comp && !q.err
  | none => false
/-- Send a message on a usable queue pair; none when it cannot be sent. -/
def State.qpSend (s : State) (qp comp : Nat) (kind : QpKind) (use : QpUse) (data : List Byte) : Option State :=
  match s.qps.find? qp with
  | none => none
  | some q =>
    if q.comp ≠ comp ∨ q.err then none
    else
      let n := q.packets data.length
      let m : QpMsg := { first := q.sqPsn, last := (q.sqPsn + n - 1) % 2 ^ 24, kind := kind, use := use, data := data }
      let q' := { q with
        sqPsn := (q.sqPsn + n) % 2 ^ 24
        unacked := q.unacked ++ [m]
        timer := if q.timer.isNone && decide (q.ackTmo ≠ 0) then some (s.count + q.ackTmo) else q.timer }
      some ({ s with qps := s.qps.put qp q' }.send (.rdma qp q.sqPsn kind data))

/-! ### The recorder and the interrupt leaves (R442 to R455) -/

/-- Whether the host event ring is set (EVR_MSG_CFG, EVR_MSG_VA). -/
def State.evrRingSet (s : State) : Bool :=
  let l := s.fld rEVR_MSG_CFG 20 16
  decide (6 ≤ l ∧ l ≤ 16) && decide (s.rd rEVR_MSG_VA ≠ 0)

/-- Store a record in the Carousel, and in the Vault while it fills (R445, R446). -/
def State.evrStore (s : State) (rec : Nat) (vault : Bool) : State :=
  let e := s.evr
  { s with evr := { e with
      carousel := e.carousel.put (e.seq % 65536) rec
      vault := if vault && e.shipped && decide (e.vault.length < 8192) then e.vault ++ [rec] else e.vault
      seq := (e.seq + 1) % 2 ^ 32 } }

/-- Send the record as an event message, or count it as dropped (R455). -/
def State.evrMessage (s : State) (code sev rec : Nat) : State :=
  let mode := s.fld rIRQ_CFG 5 4
  let masked := bitOf (s.rd rIRQ_LEAF_MASK (code / 256) (code / 32 % 8)) (code % 32)
  if mode = 0 ∨ masked ∨ sev < s.fld rIRQ_CFG 2 0 then s
  else
    let l := s.fld rEVR_MSG_CFG 20 16
    let kind := QpKind.write (s.fld rEVR_MSG_CFG 63 32) (s.rd rEVR_MSG_VA + 64 * (s.evr.msgs % 2 ^ l))
    match if s.evrRingSet then s.qpSend (s.fld rEVR_MSG_CFG 13 0) 0 kind .event (leBytes 64 rec) else none with
    | some s' => { s' with evr := { s'.evr with msgs := s'.evr.msgs + 1 } }
    | none => s.inc rEVR_MSG_DROP 31 0

/-- Set the leaf bit of a code when its severity reaches MIN_SEV (R453). -/
def State.setLeaf (s : State) (code sev : Nat) : State :=
  if s.fld rIRQ_CFG 2 0 ≤ sev ∧ code / 256 < 11 then
    let g := code / 256; let j := code / 32 % 8
    s.wr rIRQ_LEAF g j (s.rd rIRQ_LEAF g j ||| 2 ^ (code % 32))
  else s

/-- Write the record of an event, with its suppressed count, leaf and message (R445, R446, R452 to R455). -/
def State.record (s : State) (e : Ev) : State :=
  let supp := (s.evr.supp.getD e.code (0, 0)).1
  let rec512 := s.evRecord e (min supp 0xFFFFFFFF)
  let wasFull := decide (8192 ≤ s.evr.vault.length)
  let s := { s with evr := { s.evr with supp := s.evr.supp.del e.code } }
  let s := (s.evrStore rec512 true).setLeaf e.code e.sev
  let s := s.evrMessage e.code e.sev rec512
  if !wasFull && decide (8192 ≤ s.evr.vault.length) then
    let f : Ev := { code := 3, sev := 0, d0 := (s.evr.seq + 2 ^ 32 - 1) % 2 ^ 32 }
    let r := s.evRecord f 0
    ((s.evrStore r false).setLeaf 3 0).evrMessage 3 0 r
  else s

/-- Take a token for an event; none when every bucket it may draw on is empty (R451). -/
def State.takeToken (s : State) (e : Ev) : Option State :=
  let sub := s.subTokens e.code e.comp
  let shared := s.tokens e.code
  if 4 ≤ e.sev ∨ e.code ∈ [1, 2, 4] then some s
  else if e.comp ≠ 0 ∧ (s.partOf e.comp).isSome ∧ 0 < sub then
    some { s with evr := { s.evr with subTokens := s.evr.subTokens.put (e.code * 2 ^ 20 + e.comp) (sub - 1) } }
  else if 0 < shared then some { s with evr := { s.evr with tokens := s.evr.tokens.put e.code (shared - 1) } }
  else none

/-- Report an event: recorded, or suppressed and counted (R451, R452); either sets its leaf. -/
def State.raise (s : State) (e : Ev) : State :=
  match s.takeToken e with
  | some s' => s'.record e
  | none =>
    let p := s.evr.supp.getD e.code (0, s.count)
    ({ s with evr := { s.evr with supp := s.evr.supp.put e.code (p.1 + 1, p.2) } }.inc rEVR_SUPPRESSED 63 0).setLeaf
      e.code e.sev

/-! ### Program addresses (R156, R157, R195, R197, R200) -/

/-- Where a byte of a program address lies. -/
inductive Loc where
  /-- Larder byte of this package: `die · 2^38 + LPA` -/
  | larder (key : Nat)
  /-- byte of a Cellar extent -/
  | cellar (ext byte : Nat)
  /-- another package of the stripe list: pod × 64 + package -/
  | remote (pkg : Nat)
  /-- no page holds it -/
  | nowhere
  deriving DecidableEq, Repr

/-- A segment entry of a context. -/
def State.seg? (s : State) (c g : Nat) : Option Seg := (s.ctx c).segs.find? g
/-- Key of a page list: die and page index of the die offset. -/
def pageKey (die idx : Nat) : Nat := die * 2 ^ 40 + idx
/-- Larder byte of a die offset through a page list (R157). -/
def Seg.larderAt (g : Seg) (die off : Nat) : Loc :=
  match g.pages.find? (pageKey die (off / 2 ^ 21)) with
  | some p => .larder (die * 2 ^ 38 + p * 2 ^ 21 + off % 2 ^ 21)
  | none => .nowhere
/-- The stripe list of a composition. -/
def State.stripe (s : State) (tag : Nat) : List Nat := ((s.map.comps.find? tag).map (·.stripe)).getD []
/-- The offset within one package's part of a striped object (Table 06-2). -/
def stripedOff (o p : Nat) : Nat := (o / 2 ^ 21 / p) * 2 ^ 21 + o % 2 ^ 21
/-- Die and die offset of an offset interleaved at 4 KiB (Table 06-2). -/
def interleave (o : Nat) : Nat × Nat := (o / 2 ^ 12 % 8, o / 2 ^ 15 * 2 ^ 12 + o % 2 ^ 12)
/-- Cellar byte of an offset within a vintage (R156, R179). -/
def State.vintAt (s : State) (comp vint o : Nat) : Loc :=
  match s.cel.vints.find? (comp * 2 ^ 32 + vint) with
  | some v =>
    match v.exts.drop (o / 2 ^ 21) with
    | e :: _ => .cellar e (o % 2 ^ 21)
    | [] => .nowhere
  | none => .nowhere
/-- Place a backing offset of a segment (Table 06-2). -/
def State.place (s : State) (comp : Nat) (g : Seg) (vint o : Nat) : Loc :=
  if g.placement = 2 then
    let l := s.stripe comp
    if l = [] then .nowhere
    else
      let pk := l.getD (o / 2 ^ 21 % l.length) 0
      if pk ≠ s.self then .remote pk
      else
        let o' := stripedOff o l.length
        if g.tier = 1 then s.vintAt comp vint o' else let x := interleave o'; g.larderAt x.1 x.2
  else if g.tier = 1 then s.vintAt comp vint o
  else if g.placement = 1 then let x := interleave o; g.larderAt x.1 x.2
  else g.larderAt g.die o
/-- The key of the vintage that a context's running kernel has pinned for a segment (R180). -/
def State.pin? (s : State) (c gi : Nat) : Option Nat :=
  match (s.ctx c).kernel with | some k => k.pins.getD gi none | none => none
/-- The vintage an access of a context sees: the one its kernel pinned, else the one bound (R137, R180). -/
def State.vintOf (s : State) (c gi : Nat) (g : Seg) : Nat :=
  match s.pin? c gi with | some k => k % 2 ^ 32 | none => g.vintage
/-- Follow aliases from an entry and an offset to the entry that owns the pages, and the offset there (R195). -/
def State.rootFrom (s : State) : (fuel c gi o : Nat) → Option (Nat × Nat × Nat)
  | 0, _, _, _ => none
  | f + 1, c, gi, o =>
    match s.seg? c gi with
    | none => none
    | some g =>
      match g.src with
      | none => some (c, gi, o)
      | some (sc, sg) => State.rootFrom s f sc sg (g.base + o)
/-- The entry that owns the bytes of a program address, and the offset there. -/
def State.rootOf (s : State) (c addr : Nat) : Option (Nat × Nat × Nat) :=
  s.rootFrom 65536 c (addr / 2 ^ 60 % 16) (addr % 2 ^ 60)
/-- Translate a program address of a context (R197); an alias uses its source's page list (R195). -/
def State.translate (s : State) (c addr : Nat) : Loc :=
  match s.rootOf c addr with
  | none => .nowhere
  | some (oc, og, o) =>
    match s.seg? oc og with
    | some g => s.place (s.compOf oc) g (s.vintOf oc og g) (g.base + o)
    | none => .nowhere

/-- The segments of a context as an access that has passed its checks keeps them: an alias stands for the part of its source
(R195, R201). -/
def State.snapSegs (s : State) (c : Nat) : Assoc Seg :=
  (s.ctx c).segs.mapV (fun gi g => match s.rootOf c (gi * 2 ^ 60) with
    | some (oc, og, o) => (match s.seg? oc og with
      | some h => { h with base := h.base + o, src := none }
      | none => g)
    | none => g)
/-- A state seen with the segments that an earlier check of a context met. -/
def State.withSegs (s : State) (c : Nat) (segs : Assoc Seg) : State := s.updCtx c (fun x => { x with segs := segs })
/-- What the hub does for an access that passed its checks earlier, by the segments of then (R201). -/
def State.asOf (s : State) (c : Nat) (segs : Option (Assoc Seg)) (f : State → State) : State :=
  match segs with
  | none => f s
  | some g => (f (s.withSegs c g)).withSegs c (s.ctx c).segs
/-- The state as such an access reads it. -/
def State.seen (s : State) (c : Nat) (segs : Option (Assoc Seg)) : State :=
  match segs with
  | none => s
  | some g => s.withSegs c g
/-- What a host's READ does, by the segments of its check; a vintage is the one bound, not one that a kernel has pinned
(R180, R201). -/
def State.asHost (s : State) (c : Nat) (segs : Assoc Seg) (f : State → State) : State :=
  let k := (s.ctx c).kernel
  (s.updCtx c (fun x => { x with kernel := none })).asOf c (some segs) f |>.updCtx c (fun x => { x with kernel := k })
/-- The state as a host's READ reads it. -/
def State.hostSeen (s : State) (c : Nat) (segs : Assoc Seg) : State :=
  s.updCtx c (fun x => { x with kernel := none, segs := segs })
/-- Whether a segment table names a Larder page, by `die · 2^17 + page`. -/
def segsName (segs : Assoc Seg) (page : Nat) : Bool :=
  segs.any (fun g => g.2.pages.any (fun p => p.1 / 2 ^ 40 * 2 ^ 17 + p.2 == page))

/-- Permissions an access needs: read 1, write 2, atomic 4. -/
abbrev permR : Nat := 1
abbrev permW : Nat := 2
abbrev permA : Nat := 4
/-- Whether a segment grants a permission. -/
def Seg.grants (g : Seg) (p : Nat) : Bool :=
  (!bitOf p 0 || g.r) && (!bitOf p 1 || g.w) && (!bitOf p 2 || g.a)
/-- Whether an extent, or the extent of its source through an alias, meets one revoked at the current epoch (R195, R392). -/
def State.revokedAt (s : State) (c gi off len : Nat) : Bool :=
  let meets (c gi off : Nat) : Bool :=
    s.map.revoked.any (fun r => decide (r.1 = c ∧ r.2.1 = gi ∧ r.2.2.1 < off + len ∧ off < r.2.2.1 + r.2.2.2))
  meets c gi off || (match s.rootFrom 65536 c gi off with | some (oc, og, o) => meets oc og o | none => false)
/-- Steps 4 to 7 of Table 07-5: the Azkel-1 exception code of the first check that fails. -/
def State.segCheck (s : State) (c addr len perm : Nat) : Option Nat :=
  let gi := addr / 2 ^ 60 % 16
  let o := addr % 2 ^ 60
  match s.seg? c gi with
  | none => some 0x08
  | some g =>
    if g.limit < o + len then some 0x09
    else if !g.grants perm then some 0x0A
    else if s.revokedAt c gi o len then some 0x0B
    else none
/-- Step 8 of Table 07-5. -/
def State.absent (s : State) (c addr : Nat) : Bool :=
  match s.seg? c (addr / 2 ^ 60 % 16) with
  | some g => !g.present
  | none => false
/-- The descriptor status of steps 4 to 8 of Table 07-5: BOUNDS, REVOKED, ABSENT. -/
def State.descCheck (s : State) (c addr len perm : Nat) : Option Nat :=
  match s.segCheck c addr len perm with
  | some 0x0B => some 0x03
  | some _ => some 0x02
  | none => if s.absent c addr then some 0x04 else none
/-- Whether a program address lies in a present or absent Larder segment. -/
def State.inLarder (s : State) (c addr : Nat) : Bool :=
  match s.seg? c (addr / 2 ^ 60 % 16) with
  | some g => g.tier == 0
  | none => false
/-- Whether a program address lies in a coherent segment. -/
def State.inCoherent (s : State) (c addr : Nat) : Bool :=
  match s.seg? c (addr / 2 ^ 60 % 16) with
  | some g => g.c
  | none => false

/-! ### Post areas (R276, R277) -/

/-- AREA of a post area. -/
def Post.area (p : Post) : Nat := fieldOf p.d 24 8
/-- Whether a write meets a post area of any context, aliases followed (R277). -/
def State.postHit (s : State) (c addr n : Nat) : Bool :=
  match s.rootOf c addr with
  | none => false
  | some r =>
    s.ctxs.any (fun x => x.2.posts.any (fun p => p.2.on &&
      (match s.rootOf x.1 p.2.area with
       | some q => q.1 == r.1 && q.2.1 == r.2.1 && decide (q.2.2 < r.2.2 + n ∧ r.2.2 < q.2.2 + 65536)
       | none => false)))
/-- The post area of a context that accepts a Shelf-to-memory DMA of this extent (R277). -/
def State.postOf (s : State) (c addr n : Nat) : Option Nat :=
  if addr % 64 = 0 ∧ n % 64 = 0 then
    (s.ctx c).posts.findKey? (fun _ p => p.on && decide (p.area ≤ addr ∧ addr + n ≤ p.area + 65536))
  else none

/-! ### Completion rings, and the counts that a host keeps (R370) -/

/-- A completion ring of a context. -/
def State.ring (s : State) (c r : Nat) : Ring := (s.ctx c).rings.getD r ⟨false, 0, 0, 0, 0, false, 0, 0, 0⟩
/-- Change a completion ring. -/
def State.updRing (s : State) (c r : Nat) (f : Ring → Ring) : State :=
  s.updCtx c (fun x => { x with rings := x.rings.put r (f (s.ring c r)) })
/-- Take a count into F. -/
def State.setFreed (s : State) (c which f : Nat) : State :=
  if which < 4 then s.updRing c which (fun k => { k with f := f })
  else if which < 2 ^ 20 then
    s.updCtx c (fun x => { x with intakes := x.intakes.upd (which - 4) (fun i => { i with f := f }) })
  else s.updCtx c (fun x => { x with posts := x.posts.upd (which - 2 ^ 20) (fun p => { p with f := f }) })

end Sys2Proof.Machine
end

