-- ==== Sys2Proof/Machine/Abort.lean ====
section
/-! DEFINITION. The fault queue, exceptions and kernel abort, waits and readiness. -/

namespace Sys2Proof.Machine

/-! ### The fault queue (R203, R207 to R212) -/

/-- Open records of a composition. -/
def State.openOf (s : State) (comp : Nat) : Nat := (s.flt.recs.filter (fun e => e.2.comp = comp)).length
/-- Fault-queue reserve of a composition (Table 15-3); 64 for the system (R210). -/
def State.fltRes (s : State) (comp : Nat) : Nat :=
  if comp = 0 then 64 else ((s.partOf comp).map (·.fltRes)).getD 0
/-- Capacity of the shared pool (R210). -/
def State.fltPool (s : State) : Nat :=
  if s.map.epoch = 0 then 4032 else 4032 - (s.map.comps.map (fun e => s.fltRes e.1)).sum
/-- Compositions that hold open records. -/
def State.fltComps (s : State) : List Nat := (s.flt.recs.map (fun e => e.2.comp)).eraseDups
/-- Free slots of the shared pool. -/
def State.fltPoolFree (s : State) : Nat :=
  s.fltPool - (s.fltComps.map (fun k => s.openOf k - s.fltRes k)).sum
/-- Whether a stall of a context may post its record now (R210). -/
def State.mayPost (s : State) (c : Nat) : Bool :=
  let k := s.compOf c
  decide ((s.flt.recs.filter (fun e => e.2.ctx = c)).length < 256) &&
    (decide (s.openOf k < s.fltRes k) || decide (0 < s.fltPoolFree))
/-- Threads stalled without a record, as (count, unit, slot), in posting order (R210). -/
def State.waitingStalls (s : State) : List (Nat × Nat × Nat) :=
  let all := s.units.flatMap (fun e => (List.range 8).filterMap (fun t =>
    let th := e.2.thr t
    match th.st, th.stall with
    | .stalled, some x => if x.slotNo.isNone then some (x.count, e.1, t) else none
    | _, _ => none))
  sortBy (fun a b => decide (a.1 < b.1) || (a.1 == b.1 && decide (a.2.1 * 8 + a.2.2 ≤ b.2.1 * 8 + b.2.2))) all
/-- The 64-byte fault record of a stalled thread (Table 07-7). -/
def State.faultRecord (s : State) (u t : Nat) (x : Stall) (slot gen : Nat) : Nat :=
  let th := s.thr u t
  let seq := (((s.ctx th.ctx).kernel).map (·.q.seq)).getD 0
  putField 0 4 (gen * 4096 + slot) + putField 4 1 (x.source + x.access * 16) + putField 5 1 (b2n x.delayed) +
  putField 6 2 (th.ctx + x.addr / 2 ^ 60 % 16 * 4096) + putField 8 8 x.count + putField 16 8 s.count +
  putField 24 8 x.addr + putField 32 4 x.len + putField 36 4 (s.compOf th.ctx) + putField 40 5 (s.locator u) +
  putField 45 1 t + putField 48 4 seq + putField 52 4 th.group + putField 56 8 th.pc.toNat
/-- Write a record to the context's ring, when it has one (R208, R209). -/
def State.ringWrite (s : State) (c slot rec : Nat) : State :=
  let x := s.ctx c
  if (x.ringQp = 0 ∧ x.ringKey = 0 ∧ x.ringVa = 0) ∨ x.ringBad then s
  else
    match s.qpSend x.ringQp (s.compOf c) (.write x.ringKey (x.ringVa + 64 * slot)) (.fault c x.ringQp x.ringNo) (leBytes 64 rec) with
    | some s' => s'
    | none =>
      let s := (s.updCtx c (fun y => { y with ringBad := true })).inc rFLT_RING_ERR 31 0
      s.raise { code := 0x0900, sev := 2, comp := s.compOf c, d0 := c, d1 := x.ringQp }
/-- Post the record of a stalled thread in the lowest free slot (R207). -/
def State.postOne (s : State) (u t : Nat) (delayed : Bool) : State :=
  let th := s.thr u t
  match th.stall, leastBelow 4096 (fun i => !s.flt.recs.has i) with
  | some x, some slot =>
    let x : Stall := { x with delayed := delayed, slotNo := some slot }
    let gen := s.flt.gens.getD slot 0
    let rec512 := s.faultRecord u t x slot gen
    let s := s.setThr u t { th with stall := some x }
    let s := { s with flt := { s.flt with
      recs := s.flt.recs.put slot ⟨th.ctx, s.compOf th.ctx, u, t, gen, rec512⟩
      gens := s.flt.gens.put slot ((gen + 1) % 2 ^ 20) } }
    (s.inc rFLT_POSTED 63 0).ringWrite th.ctx slot rec512
  | _, _ => s
/-- Post the waiting stalls that have become eligible, in order, with DELAYED set (R210). -/
def State.postWaiting (s : State) : State :=
  s.waitingStalls.foldl (fun s w => if s.mayPost (s.thr w.2.1 w.2.2).ctx then s.postOne w.2.1 w.2.2 true else s) s
/-- Close the open records that satisfy a test, then post what waits. -/
def State.closeRecs (s : State) (p : FRec → Bool) : State :=
  ({ s with flt := { s.flt with recs := s.flt.recs.filter (fun e => !p e.2) } }).postWaiting
/-- The thread stalls at an absent segment and its record posts, or waits (R203, R210, R211). -/
def State.stallThread (s : State) (u t source access addr len : Nat) : State :=
  let th := s.thr u t
  let x := s.ctx th.ctx
  let st : Stall :=
    { source := source, access := access, addr := addr, len := len, count := s.count, slotNo := none,
      delayed := false, expiry := if x.svcTmo = 0 then none else some (s.count + x.svcTmo) }
  let waited := s.waitingStalls.any (fun w => s.mayPost (s.thr w.2.1 w.2.2).ctx)
  let s := s.setThr u t { th with st := .stalled, stall := some st, want := none }
  if !waited && s.mayPost th.ctx then s.postOne u t false else s.inc rFLT_OVERFLOW 63 0

/-! ### Exceptions and kernel abort (R59, R60, R105, R106, R212) -/

/-- The units of the groups that a context's kernel has placed. -/
def State.kerUnits (s : State) (c : Nat) : List Nat :=
  s.groups.flatMap (fun e => if e.2.ctx = c then (List.range 16).map (fun i => e.1 * 16 + i) else [])
/-- A thread at the stop of its group: it leaves any wait or stall and enters Stopped (R59, R105, R212). -/
def Thread.stop (th : Thread) : Thread :=
  match th.st with
  | .empty => th
  | .draining => th
  | .stopped => th
  | _ => { th with st := .stopped, wait := none, stall := none, want := none, fetch := none }
/-- Abort the running kernel of a context: close its counter and stop every thread of its groups (R59 steps 2 to 5, R60);
the first cause stands. -/
def State.abortKernel (s : State) (c cause : Nat) (exc : Option Exc) : State :=
  match (s.ctx c).kernel with
  | none => s
  | some k =>
    let k' := if k.closed then k else { k with closed := true, cause := cause, exc := exc }
    let s := s.updCtx c (fun x => { x with kernel := some k' })
    let s := { s with taken := s.taken.filter (fun e => decide (e.1 % 4096 ≠ c)) }
    let us := s.kerUnits c
    let s := { s with units := s.units.mapV (fun u (x : Unt) =>
      if us.contains u then { x with th := x.th.map Thread.stop } else x) }
    s.closeRecs (fun r => decide (r.ctx = c))
/-- A thread takes a precise exception: it is Stopped at the instruction, and its kernel is aborted (R59, R106). -/
def State.takeExc (s : State) (u t code : Nat) (detail : Word) : State :=
  let th := s.thr u t
  let s := s.setThr u t { th with st := .stopped, wait := none, stall := none, want := none, fetch := none }
  s.abortKernel th.ctx 0 (some ⟨code, u, t, th.pc, detail⟩)

/-! ### Waits and readiness (R38, R40, R103) -/

/-- A register is the destination of an outstanding load or queued vector instruction of the thread (R42). -/
def Unt.busyReg (x : Unt) (t : Nat) (r : Reg) : Bool :=
  r ≠ .s 0 && ((x.thr t).loads.any (fun l => l.reg == r) || x.vq.any (fun o => o.slot == t && o.dst == some r))
/-- Whether what a Pending thread's next instruction needs is there (Table 02-2). -/
def Unt.wantOk (x : Unt) (t : Nat) (w : Want) : Bool :=
  let th := x.thr t
  w.regs.all (fun r => !x.busyReg t r) && (!w.score || decide (th.loads.length < 16)) &&
  (!w.vq || decide (x.vq.length < 4)) && (!w.mq || decide (x.mq.length < 4)) && (!w.dq || decide (x.dq.length < 8)) &&
  (!w.wb || decide ((x.wb.filter (fun e => !e.done)).length < 32)) &&
  (match w.tag with | some g => (th.dma.toList.getD g none).isNone | none => true) &&
  (!w.vdone || !x.vq.any (fun o => o.slot == t))
/-- Outstanding memory operations of a thread that FENCE awaits (R103). -/
def Unt.fenceOpen (x : Unt) (t : Nat) : Bool :=
  !(x.thr t).loads.isEmpty || x.wb.any (fun e => e.slot == t && !e.done)
/-- Outstanding matrix instructions of a thread. -/
def Unt.matrixOpen (x : Unt) (t : Nat) : Bool :=
  x.mq.any (fun o => o.slot == t) || (match x.mrun with | some o => o.slot == t | none => false)
/-- Whether a wait is satisfied (R91, R103). -/
def Unt.waitOver (x : Unt) (t : Nat) : WaitFor → Bool
  | .fence => !x.fenceOpen t
  | .dwait m => (List.range 4).all (fun i => !bitOf m i || ((x.thr t).dma.toList.getD i none).isNone)
  | .vwait => !x.vq.any (fun o => o.slot == t)
  | .mwait => !x.matrixOpen t
  | _ => false
/-- Of several conditions, the one that an instruction reports: of the lowest code, and of these the first (R107). -/
def lowestMark (l : List Mark) : Option Mark := (sortBy (fun a b => decide (a.code ≤ b.code)) l).head?
/-- The failure a wait reports (R95, R107, R108). -/
def Thread.waitFail (th : Thread) : WaitFor → Option Mark
  | .fence => lowestMark ((th.fails.filter (fun f => f.1.isNone)).map Prod.snd)
  | .dwait m => lowestMark ((th.fails.filter (fun f => match f.1 with | some g => bitOf m g | none => false)).map Prod.snd)
  | _ => none
/-- The failures that END reports: those never awaited, and the refusals and timeouts that mark a register and were never
consumed; poison is reported by its consumer alone (R105, Table 03-13). -/
def Thread.endFails (th : Thread) : List Mark :=
  th.fails.map Prod.snd ++ (th.marks.map Prod.snd).filter (fun m => m.code ≠ 0x10)
/-- The thread leaves its wait and goes on after the waiting instruction. -/
def Thread.leaveWait (th : Thread) : Thread := { th with st := .ready, wait := none, pc := th.pc + 4, arrived := false }
/-- Make a Pending or Waiting thread Ready when its condition has cleared (R40); a failed wait raises (R108). -/
def State.settleThread (s : State) (u t : Nat) : State :=
  let x := s.unt u
  let th := x.thr t
  match th.st with
  | .pending =>
    match th.want with
    | some w => if x.wantOk t w then s.setThr u t { th with st := .ready, want := none } else s
    | none => s
  | .waiting =>
    match th.wait with
    | some w =>
      if x.waitOver t w then
        match th.waitFail w with
        | some m => s.takeExc u t m.code m.detail
        | none => s.setThr u t th.leaveWait
      else s
    | none => s
  | _ => s
/-- A running known-answer slice is abandoned when a thread of the unit is Ready (R65). -/
def State.katAbandon (s : State) (u : Nat) : State :=
  let x := s.unt u
  if x.kat.isSome && x.th.toList.any (fun th => th.st == .ready) then
    (s.setUnt u { x with kat := none }).inc rDIE_KAT_ABANDON 31 0 (u / 2 ^ 17)
  else s
/-- Settle every thread of a unit after a completion (R40). -/
def State.settle (s : State) (u : Nat) : State :=
  ((List.range 8).foldl (fun s t => s.settleThread u t) s).katAbandon u

end Sys2Proof.Machine
end

