-- ==== Sys2Proof/Machine/Flaws.lean ====
section
/-! DEFINITION. Errors that the codes and the parity of the part find: where they lie until something reads them, and what
finding one does (R155, R160, R161, R414 to R417, R419, R421 to R423). -/

namespace Sys2Proof.Machine

/-! ### Health of a unit (R420 to R425) -/

/-- The health of a unit. -/
def State.hunit (s : State) (u : Nat) : HUnit := s.hlt.units.getD u .reset
/-- Change the health block. -/
def State.updHlt (s : State) (f : Health → Health) : State := { s with hlt := f s.hlt }
/-- Change the health of a unit. -/
def State.updHunit (s : State) (u : Nat) (f : HUnit → HUnit) : State :=
  s.updHlt (fun h => { h with units := h.units.put u (f (s.hunit u)) })
/-- Save scores, observation state and the spare map in the Attic (R422). -/
def State.healthSave (s : State) : State := s.updHlt (fun h => { h with saved := h.units, savedRgn := h.spareRgn })
/-- Suspect threshold (HLT_CFG). -/
def State.expelBelow (s : State) : Nat := s.fld rHLT_CFG 23 16
/-- Suspect units, and those in observation. -/
def State.suspects (s : State) : List Nat := (s.hlt.units.filter (fun e => e.2.suspect)).map Prod.fst
/-- Regions logically retired, or failed and waiting for it. -/
def State.retired (s : State) : List Nat := (s.rgns.filter (fun e => e.2.retired)).map Prod.fst
/-- Spare regions of a die still unused (R20). -/
def State.spareRgns (s : State) (die : Nat) : Nat := 2 - s.hlt.spareRgn.getD die 0
/-- Whether the spare unit of a unit's cluster is unused. -/
def State.spareFree (s : State) (u : Nat) : Bool :=
  (List.range 16).all (fun i => !(s.hunit (u / 16 * 16 + i)).spared)
/-- Suspect units for which neither a spare unit nor a spare region remains (R425). -/
def State.stranded (s : State) : List Nat :=
  s.suspects.filter (fun u => !s.spareFree u && s.spareRgns (u / 2 ^ 17) == 0)
/-- Set DEGRADED and report PKG_DEGRADED (R425, R426). -/
def State.degrade (s : State) : State :=
  (s.updHlt (fun h => { h with degraded := true })).raise
    { code := 0x0111, sev := 3, d0 := s.stranded.length, d1 := s.retired.length }
/-- A unit below the threshold becomes suspect (R423), and degrades the package when nothing can replace it (R425). -/
def State.suspectCheck (s : State) (u : Nat) : State :=
  let h := s.hunit u
  if h.suspect ∨ s.expelBelow ≤ h.score then s
  else
    let s := s.updHunit u (fun h => { h with suspect := true })
    let s := s.raise { code := 0x010C, sev := 3, unit := some u, d0 := h.score }
    let s := if s.stranded.contains u then s.degrade else s
    s.healthSave
/-- A unit enters observation (R421). -/
def State.observe (s : State) (u : Nat) : State :=
  if (s.hunit u).observed then s
  else
    let s := s.updHunit u (fun h => { h with observed := true, tests := 0, passes := 0, cover := 0 })
    (s.raise { code := 0x010B, sev := 3, unit := some u, d0 := (s.hunit u).score, d1 := 1 }).healthSave
/-- An error of weight `n` attributed to a unit: it enters observation, and its score falls unless the error was injected
(R421, R422, Table 17-4). -/
def State.unitHurt (s : State) (u n : Nat) (inj : Bool) : State :=
  if inj then s.observe u
  else ((s.updHunit u (fun h => { h with score := h.score - n })).observe u).suspectCheck u
/-- A corrected Shelf error takes 1 from the unit's score, at most 8 in a period of 2^28 counts; a suspect unit is under
observation (R422, R423, Table 17-4). -/
def State.unitWorn (s : State) (u : Nat) (inj : Bool) : State :=
  let h := s.hunit u
  let w := s.count / 2 ^ 28
  let n := if h.ceWin = w then h.ceN else 0
  if inj ∨ 8 ≤ n then s
  else
    let s := (s.updHunit u (fun h => { h with score := h.score - 1, ceWin := w, ceN := n + 1 })).suspectCheck u
    if (s.hunit u).suspect then s.observe u else s

/-! ### What fails (Table 01-2, R416) -/

/-- The context whose region set holds a region. -/
def State.ctxOfRgn (s : State) (r : Nat) : Option Nat :=
  s.ctxs.findKey? (fun _ x => bitOf x.dieMask (r / 128) && decide (x.first ≤ r % 128 ∧ r % 128 < x.first + x.cnt))
/-- A region fails: its kernel is aborted with cause 3, its cache is lost, and it takes no further group (Table 01-2). -/
def State.regionFail (s : State) (r : Nat) : State :=
  let s := s.updRgn r (fun x => { x with failed := true })
  let s := { s with rcache := s.rcache.del r }
  match s.ctxOfRgn r with
  | some c => if (s.ctx c).kernel.isSome then s.abortKernel c 3 none else s
  | none => s
/-- The kernel that holds a unit ends with cause 3 for a parity error of its control path (R416). -/
def State.unitFail (s : State) (u : Nat) : State :=
  match s.ctxOfRgn (rgnOf u) with
  | some c => if (s.kerUnits c).contains u then s.abortKernel c 3 none else s
  | none => s
/-- Change the start state. -/
def State.updStart (s : State) (f : StartSt → StartSt) : State := { s with start := f s.start }
/-- The package fails (Table 01-2). -/
def State.packageFail (s : State) : State :=
  if s.start.mode = .off ∨ s.start.mode = .standby then s else s.updStart (fun x => { x with mode := .failed })

/-! ### Larder lines (R160, R161) -/

/-- A line that the controller finds uncorrectable is poisoned, counted and reported: cause 0 read, 1 scrub, 2 partial write
(R160, R161, R162); `inj` is the INJECTED flag (R419). -/
def State.lineLost (s : State) (key cause oper : Nat) (inj : Nat := 0) : State :=
  let die := key / 2 ^ 38
  if s.lpois.contains (key / 64) then s
  else
    let s := { s with lpois := s.lpois.add (key / 64) }
    let s := if bits key 8 8 = 0 then s.inc rLRD_ECC_UE 15 0 die else s.inc rLRD_ECC_UE 31 16 die
    s.raise { code := 0x0106, sev := 2, comp := s.pageOwner.getD (key / 2 ^ 21) 0, unit := some (die * 2 ^ 17), whole := true, oper := oper,
              d0 := key % 2 ^ 38 + inj, d1 := bits key 8 8, d2 := cause }
/-- A line that the controller corrects is counted and reported with its stack and symbol (R160). -/
def State.lineFixed (s : State) (key oper sym : Nat) (inj : Nat := 0) : State :=
  let die := key / 2 ^ 38
  let s := if bits key 8 8 = 0 then s.inc rLRD_ECC_CE 31 0 die else s.inc rLRD_ECC_CE 63 32 die
  s.raise { code := 0x0105, sev := 1, unit := some (die * 2 ^ 17), whole := true, oper := oper, d0 := key % 2 ^ 38 + inj,
            d1 := bits key 8 8, d2 := sym }

/-! ### Finding an error -/

/-- INJECTED, bit 63 of a report's first detail word (R419). -/
abbrev injected : Nat := 2 ^ 63
/-- What finding an error does, in an operation of Table 17-1; `cause` is LARDER_UE's (R155, R160, R415 to R417). -/
def State.found (s : State) (f : Flaw) (oper cause : Nat) : State :=
  let inj := if f.inj then injected else 0
  match f.spot with
  | .shelf w =>
    let u := w / 2048
    let row := w % 2048 / 8
    if f.hard then
      (({ s with spois := s.spois.add (u * 256 + row) } : State).raise
        { code := 0x0101, sev := 2, unit := some u, oper := oper, d0 := row + inj }).unitHurt u 32 f.inj
    else (s.raise { code := 0x0100, sev := 1, unit := some u, oper := oper, d0 := row + inj, d1 := f.d1 }).unitWorn u f.inj
  | .line l => if f.hard then s.lineLost (64 * l) cause oper inj else s.lineFixed (64 * l) oper f.d2 inj
  | .cacheData r =>
    s.raise { code := if f.hard then 0x0103 else 0x0102, sev := if f.hard then 2 else 1, unit := some (r * 2 ^ 10), oper := oper,
              d0 := f.d0 + inj, d1 := f.d1 }
  | .cacheTag r =>
    if f.hard then
      (s.raise { code := 0x0104, sev := 3, unit := some (r * 2 ^ 10), oper := oper, d0 := f.d0 + inj, d1 := f.d1 }).regionFail r
    else s.raise { code := 0x0102, sev := 1, unit := some (r * 2 ^ 10), oper := oper, d0 := f.d0 + inj, d1 := f.d1 }
  | .unitData u =>
    (s.raise { code := 0x0108, sev := 2, unit := some u, oper := oper, d0 := f.d0 + inj, d1 := f.d1 }).unitHurt u 64 f.inj
  | .unitCtrl u =>
    ((s.raise { code := 0x0109, sev := 3, unit := some u, oper := oper, d0 := f.d0 + inj, d1 := f.d1, d2 := f.d2 }).unitFail
      u).unitHurt u 64 f.inj
  | .puppeteer cl =>
    (s.raise { code := 0x0109, sev := 3, unit := some (cl * 16), oper := oper, d0 := f.d0 + inj, d1 := f.d1,
               d2 := f.d2 }).regionFail (cl / 64)
  | .die d =>
    (s.raise { code := 0x0109, sev := 5, unit := some (d * 2 ^ 17), whole := true, oper := oper, d0 := f.d0 + inj, d1 := f.d1,
               d2 := f.d2 }).packageFail
  | .hub => (s.raise { code := 0x0109, sev := 5, oper := oper, d0 := f.d0 + inj, d1 := f.d1, d2 := f.d2 }).packageFail
  | .linkData _ => s.raise { code := 0x0108, sev := 2, oper := oper, d0 := f.d0 + inj, d1 := f.d1 }
  | .linkCtrl l =>
    (s.raise { code := 0x0109, sev := 3, oper := oper, d0 := f.d0 + inj, d1 := f.d1, d2 := f.d2 }).inc rGLY_ERR 31 0 l
/-- The first error at a place. -/
def State.flaw? (s : State) (p : Spot) : Option Flaw := s.flaws.find? (fun f => f.spot = p)
/-- Whether an error lies at a place. -/
def State.flawed (s : State) (p : Spot) : Bool := (s.flaw? p).isSome
/-- Whether the first error at a place cannot be corrected. -/
def State.hardAt (s : State) (p : Spot) : Bool := match s.flaw? p with | some f => f.hard | none => false
/-- A place is read: the first error there is found, and is there no more (R155, R160). -/
def State.meet (s : State) (p : Spot) (oper : Nat) (cause : Nat := 0) : State :=
  match s.flaw? p with
  | none => s
  | some f => ({ s with flaws := s.flaws.eraseP (fun f => f.spot = p) } : State).found f oper cause
/-- Places are read, one after the other. -/
def State.meetAll (s : State) (ps : List Spot) (oper : Nat) : State := ps.foldl (fun s p => s.meet p oper) s
/-- Every place of a kind is read. -/
def State.meetWhere (s : State) (p : Spot → Bool) (oper : Nat) : State :=
  s.meetAll ((s.flaws.map (·.spot)).filter p) oper
/-- Places are written anew, or lose what they held: their errors are gone. -/
def State.mend (s : State) (p : Spot → Bool) : State := { s with flaws := s.flaws.filter (fun f => !p f.spot) }
/-- The words that an extent of a Shelf touches. -/
def shelfSpots (u off n : Nat) : List Spot :=
  (List.range (if n = 0 then 0 else (off + n - 1) / 8 - off / 8 + 1)).map (fun i => .shelf (u * 2048 + off / 8 + i))
/-- Larder line numbers that `n` bytes from a key touch. -/
def linesOf (key n : Nat) : List Nat :=
  if n = 0 then [] else (List.range ((key + n - 1) / 64 - key / 64 + 1)).map (fun i => key / 64 + i)
/-- A word of a unit's Shelf. -/
def Spot.inShelf (u : Nat) : Spot → Bool
  | .shelf w => w / 2048 == u
  | _ => false
/-- A line of a Larder page. -/
def Spot.inPage (page : Nat) : Spot → Bool
  | .line l => l / 2 ^ 15 == page
  | _ => false
/-- A place within a region: its Shelves, its cache, its units and its Puppeteers. -/
def Spot.inRgn (r : Nat) : Spot → Bool
  | .shelf w => rgnOf (w / 2048) == r
  | .cacheData q => q == r
  | .cacheTag q => q == r
  | .unitData u => rgnOf u == r
  | .unitCtrl u => rgnOf u == r
  | .puppeteer cl => cl / 64 == r
  | _ => false

end Sys2Proof.Machine
end

