-- ==== Sys2Proof/Machine/Access.lean ====
section
/-! DEFINITION. The Shelf and Larder accesses with poison, codes, counters and region-cache copies, and the registers of a
thread. -/

namespace Sys2Proof.Machine

/-! ### Shelf rows (R138, R139, R155) -/

/-- Bytes of a Shelf. -/
def State.shelfRead (s : State) (u off n : Nat) : List Byte := Memory.getAll s.shelf (u * 2 ^ 14 + off) n
/-- A Shelf word or wider field as a number. -/
def State.shelfNat (s : State) (u off n : Nat) : Nat := leNat (s.shelfRead u off n)
/-- Whether a Shelf row is poisoned. -/
def State.rowPoison (s : State) (u off : Nat) : Bool := s.spois.contains (u * 256 + off / 64)
/-- Whether a read of an extent returns poison: a row of it is poisoned, or a word of it is uncorrectable (R155). -/
def State.rowsPoison (s : State) (u off n : Nat) : Bool :=
  (List.range (if n = 0 then 0 else (off + n - 1) / 64 - off / 64 + 1)).any (fun i => s.rowPoison u (off + 64 * i)) ||
    (shelfSpots u off n).any s.hardAt
/-- An extent of a Shelf is read: the errors of its words are found (R155). -/
def State.shelfMeet (s : State) (u off n oper : Nat) : State := s.meetAll (shelfSpots u off n) oper
/-- A WAITE that finds its word equal completes with 0; a poisoned row raises (R104). -/
def State.waiteThread (s : State) (u t : Nat) : State :=
  let th := s.thr u t
  match th.st, th.wait with
  | .waiting, some (.waite off val d e) =>
    let bad := s.rowsPoison u off 8
    let s := s.shelfMeet u off 8 2
    if bad then s.takeExc u t 0x10 0
    else if w64 (s.shelfNat u off 8) = val ∧ (match e with | some x => decide (s.count ≤ x) | none => true) = true then
      s.setThr u t { th.leaveWait with s := if d = 0 then th.s else th.s.setIfInBounds d 0 }
    else s
  | _, _ => s
/-- After a Shelf write, the WAITEs of the unit look again (R104). -/
def State.waiteCheck (s : State) (u : Nat) : State :=
  ((List.range 8).foldl (fun s t => s.waiteThread u t) s).katAbandon u
/-- Split bytes at an alignment boundary: the pieces with their addresses. -/
def chunks (al : Nat) : (fuel a : Nat) → List Byte → List (Nat × List Byte)
  | 0, _, _ => []
  | _ + 1, _, [] => []
  | f + 1, a, bs => let n := al - a % al; (a, bs.take n) :: chunks al f (a + n) (bs.drop n)
/-- Whether bytes from `off` upward cover a word of a unit's Shelf whole. -/
def Spot.covered (u off n : Nat) : Spot → Bool
  | .shelf w => w / 2048 == u && decide (off ≤ w % 2048 * 8 ∧ w % 2048 * 8 + 8 ≤ off + n)
  | _ => false
/-- Write the bytes of one Shelf row: a whole row clears poison, poisoned data sets it; a word written whole loses its
errors, and one written in part is read first (R95, R155). -/
def State.shelfRow (s : State) (u off : Nat) (bs : List Byte) (poison : Bool) : State :=
  let row := u * 256 + off / 64
  let s := (s.mend (Spot.covered u off bs.length)).shelfMeet u off bs.length 0
  { s with
    shelf := Memory.setAll s.shelf (u * 2 ^ 14 + off) bs
    spois := if poison then s.spois.add row else if bs.length = 64 then s.spois.rem row else s.spois }
/-- Write bytes to a Shelf, row by row. -/
def State.shelfWrite (s : State) (u off : Nat) (bs : List Byte) (poison : Bool) : State :=
  ((chunks 64 (bs.length + 1) off bs).foldl (fun s c => s.shelfRow u c.1 c.2 poison) s).waiteCheck u
/-- Zero a unit's Shelf and its poison (R47, R469). -/
def State.shelfZero (s : State) (u : Nat) : State :=
  { s.mend (Spot.inShelf u) with
           shelf := Memory.zero s.shelf (u * 2 ^ 14) (2 ^ 14)
           spois := s.spois.filter (fun r => decide (r / 256 ≠ u)) }

/-! ### Larder lines (R160, R161, R165) -/

/-- Bytes of the Larder from a key. -/
def State.larderRead (s : State) (key n : Nat) : List Byte := Memory.getAll s.larder key n
/-- Whether a read of a Larder line returns poison: it is poisoned, or uncorrectable (R160, R161). -/
def State.linePoison (s : State) (key : Nat) : Bool := s.lpois.contains (key / 64) || s.hardAt (.line (key / 64))
/-- A Larder line is read: an error of it is found (R160). -/
def State.lineMeet (s : State) (line oper : Nat) : State := s.meet (.line line) oper
/-- Count one line access at the controller; the counter stops at all ones (R165). -/
def State.countLine (s : State) (key : Nat) : State :=
  { s with lcount := s.lcount.put (key / 2 ^ 21) (min (s.lcount.getD (key / 2 ^ 21) 0 + 1) 0xFFFFFFFF) }
/-- Pages that the composition's Larder quota still covers: its undo pages and its local image are charged with its own pages
(Table 06-4, R431, R432). -/
def State.quotaLeft (s : State) (comp : Nat) : Nat :=
  if comp = 0 then 2 ^ 40
  else
    let image : Nat := ((s.partOf comp).map (fun p => 14 * p.rgn.foldl (fun n r => n + r.2) 0 + (p.ctxCount + 1) / 2)).getD 0
    (((s.partOf comp).map (·.larder)).getD 0) - ((s.pageOwner.filter (fun e => e.2 = comp)).length +
      ((s.ckpt.find? comp).map (fun k => k.undo.length + if k.image.isSome then image else 0)).getD 0)
/-- The first write to a page since the commit copies it to an undo page, or leaves the package uncovered, when only the
buddy has the page's bytes, and asks for a checkpoint (R432). -/
def State.undoTouch (s : State) (key : Nat) : State :=
  let page := key / 2 ^ 21
  match s.pageOwner.find? page with
  | none => s
  | some comp =>
    match s.ckpt.find? comp with
    | none => s
    | some k =>
      if !k.enabled || k.image.isNone || k.dirty.contains page then s
      else
        let s := s.meetWhere (Spot.inPage page) 0x0C
        let k := { k with dirty := k.dirty.add page }
        let u : UndoPage :=
          ⟨s.larder.filter (fun c => decide (c.1 / 2 ^ 21 = page)), s.lpois.filter (fun l => decide (l / 2 ^ 15 = page))⟩
        if 0 < s.quotaLeft comp then
          { s with ckpt := s.ckpt.put comp { k with undo := k.undo.put page u } }.inc rHLT_UNDO 31 0
        else
          let s := { s with ckpt := s.ckpt.put comp { k with far := k.far.put page u, uncovered := true, asked := true } }.inc
            rHLT_UNDO 63 32
          let lead := (s.stripe comp).headD s.self
          if lead = s.self ∨ k.asked then s else s.send (.msg lead 61 [comp])
/-- A write on a word ends its exact sum (R408). -/
def State.exactEnd (s : State) (key n : Nat) : State :=
  { s with repro := { s.repro with exact := s.repro.exact.filter (fun e => decide (e.1 + 4 ≤ key ∨ key + n ≤ e.1)) } }
/-- Write the bytes of one line: a whole line clears poison and errors; a part is merged with what the controller reads,
and is lost and reported when that is poisoned or uncorrectable (R161). -/
def State.larderLine (s : State) (key : Nat) (bs : List Byte) (poison : Bool) : State :=
  let line := key / 64
  let s := ((s.undoTouch key).exactEnd key bs.length).countLine key
  if poison then { s.mend (· == .line line) with lpois := s.lpois.add line }
  else if bs.length = 64 then
    { s.mend (· == .line line) with larder := Memory.setAll s.larder key bs, lpois := s.lpois.rem line }
  else if s.lpois.contains line then
    s.raise { code := 0x0106, sev := 2, comp := s.pageOwner.getD (key / 2 ^ 21) 0, unit := some (key / 2 ^ 38 * 2 ^ 17), whole := true,
              oper := 2, d0 := key % 2 ^ 38, d1 := bits key 8 8, d2 := 2 }
  else if s.hardAt (.line line) then s.meet (.line line) 2 2
  else { s.meet (.line line) 2 with larder := Memory.setAll s.larder key bs }
/-- Write the bytes of one line that a mask names, `data` being the line's 64 bytes (ST, VST, PWR). -/
def State.larderMask (s : State) (line mask data : Nat) (poison : Bool) : State :=
  if mask = 2 ^ 64 - 1 ∨ poison ∨ s.linePoison (64 * line) = true then
    s.larderLine (line * 64) (if mask = 2 ^ 64 - 1 then leBytes 64 data else [0]) poison
  else
    let s := ((s.undoTouch (line * 64)).exactEnd (line * 64) 64).countLine (line * 64)
    { s.meet (.line line) 2 with larder := (List.range 64).foldl (fun m i =>
        if bitOf mask i then Memory.set m (line * 64 + i) (BitVec.ofNat 8 (lane 8 data i)) else m) s.larder }
/-- Write bytes upward from a Larder key, line by line. -/
def State.larderWrite (s : State) (key : Nat) (bs : List Byte) (poison : Bool) : State :=
  (chunks 64 (bs.length + 1) key bs).foldl (fun s c => s.larderLine c.1 c.2 poison) s
/-- A read that met a poisoned line (LRD_POISON_RD). -/
def State.notePoisonRead (s : State) (key : Nat) : State := s.inc rLRD_POISON_RD 31 0 (key / 2 ^ 38)

/-! ### Region-cache copies (R136, R390) -/

/-- The copy of a line in a region's cache. -/
def State.cached? (s : State) (rgn line : Nat) : Option Nat := (s.rcache.getD rgn []).find? line
/-- Keep a copy of a line. -/
def State.cachePut (s : State) (rgn line v : Nat) : State :=
  { s with rcache := s.rcache.put rgn ((s.rcache.getD rgn []).put line v) }
/-- Drop a copy. -/
def State.cacheDrop (s : State) (rgn line : Nat) : State :=
  { s with rcache := s.rcache.put rgn ((s.rcache.getD rgn []).del line) }
/-- Number `v` with bytes from `off` upward replaced. -/
def patchBytes (v off : Nat) : List Byte → Nat
  | [] => v
  | b :: bs => patchBytes (setBits v (8 * off + 7) (8 * off) b.toNat) (off + 1) bs
/-- A store by a unit of the region updates its copy (R136). -/
def State.cacheStore (s : State) (rgn key : Nat) (bs : List Byte) : State :=
  match s.cached? rgn (key / 64) with
  | some v => s.cachePut rgn (key / 64) (patchBytes v (key % 64) bs)
  | none => s
/-- A line read at its home, with its poison, counted (R136, R165). -/
def State.homeRead (s : State) (key oper : Nat) : Nat × Bool × State :=
  (leNat (s.larderRead (key / 64 * 64) 64), s.linePoison key, (s.countLine key).lineMeet (key / 64) oper)
/-- The home's line, of which a region's cache keeps a copy unless it is poisoned. -/
def State.cacheFill (s : State) (rgn key oper : Nat) : Nat × Bool × State :=
  let r := s.homeRead key oper
  (r.1, r.2.1, if r.2.1 then (if (s.cached? rgn (key / 64)).isSome then r.2.2.cacheDrop rgn (key / 64) else r.2.2) else r.2.2.cachePut rgn (key / 64) r.1)
/-- A line as LD, VLD or fetch of a region reads it: the copy when the cache still serves it (an open choice), else the
home's line, of which a copy is kept (R136).  An uncorrectable word of a copy drops it, and an uncorrectable tag fails the
region; both serve the read from the home (R417). -/
def State.cacheRead (s : State) (rgn key : Nat) (coherent : Bool) (oper : Nat) : Nat × Bool × State :=
  let line := key / 64
  if coherent then s.homeRead key oper
  else if s.hardAt (.cacheTag rgn) then (s.meet (.cacheTag rgn) oper).homeRead key oper
  else
    let s := s.meet (.cacheTag rgn) oper
    match s.cached? rgn line with
    | some v =>
      if Config.cacheHit s.nonce then
        if s.hardAt (.cacheData rgn) then (((s.meet (.cacheData rgn) oper).cacheDrop rgn line).tick).cacheFill rgn key oper
        else (v, false, (s.meet (.cacheData rgn) oper).tick)
      else s.tick.cacheFill rgn key oper
    | none => s.cacheFill rgn key oper
/-- Every region cache discards its copies of a page's lines (R194, R390). -/
def State.cacheDropPage (s : State) (page : Nat) : State :=
  { s with rcache := s.rcache.map (fun e => (e.1, e.2.filter (fun l => decide (l.1 / 2 ^ 15 ≠ page)))) }

/-! ### Registers of a thread (R68) -/

/-- A scalar register; s0 reads as zero. -/
def Thread.gs (th : Thread) (i : Nat) : Word := if i = 0 then 0 else th.s.toList.getD i 0
/-- Write a scalar register; a write to s0 is discarded, and an overwrite clears a mark (R68, R108). -/
def Thread.setS (th : Thread) (i : Nat) (v : Word) : Thread :=
  if i = 0 then th
  else { th with s := th.s.setIfInBounds i v, marks := th.marks.filter (fun m => m.1 ≠ .s i) }
/-- A vector register. -/
def Thread.gv (th : Thread) (i : Nat) : Vec := th.v.toList.getD i 0
/-- Write a vector register. -/
def Thread.setV (th : Thread) (i : Nat) (v : Vec) : Thread :=
  { th with v := th.v.setIfInBounds i v, marks := th.marks.filter (fun m => m.1 ≠ .v i) }
/-- A predicate register; p0 reads as all ones. -/
def Thread.gp (th : Thread) (i : Nat) : Word := if i = 0 then BitVec.allOnes 64 else th.p.toList.getD i 0
/-- Write a predicate register; a write to p0 is discarded. -/
def Thread.setP (th : Thread) (i : Nat) (v : Word) : Thread :=
  if i = 0 then th else { th with p := th.p.setIfInBounds i v, marks := th.marks.filter (fun m => m.1 ≠ .p i) }
/-- The mark on a register (R108). -/
def Thread.mark? (th : Thread) (r : Reg) : Option Mark := (th.marks.find? (fun m => m.1 = r)).map Prod.snd
/-- Mark a register; s0 and p0 discard every write, and a mark with it (R68). -/
def Thread.setMark (th : Thread) (r : Reg) (m : Mark) : Thread :=
  if r = .s 0 ∨ r = .p 0 then th else { th with marks := (r, m) :: th.marks.filter (fun e => e.1 ≠ r) }

end Sys2Proof.Machine
end

