-- ==== Sys2Proof/Machine/Gcm.lean ====
section
/-! DEFINITION. AES-256-GCM as link groups use it (R288, R483): whole blocks only, since the headers of a group are 3 blocks
and its slots 59. -/

namespace Sys2Proof.Machine

/-- The AES S-box, byte `x` of the number being the substitute of `x` (FIPS 197). -/
def aesBox : Nat :=
  0x16bb54b00f2d99416842e6bf0d89a18cdf2855cee9871e9b948ed9691198f8e19e1dc186b95735610ef6034866b53e70 * 2 ^ 1664 +
  0x8a8bbd4b1f74dde8c6b4a61c2e2578ba08ae7a65eaf4566ca94ed58d6d37c8e779e4959162acd3c25c2406490a3a32e0 * 2 ^ 1280 +
  0xdb0b5ede14b8ee4688902a22dc4f816073195d643d7ea7c41744975fec130ccdd2f3ff1021dab6bcf5389d928f40a351 * 2 ^ 896 +
  0xa89f3c507f02f94585334d43fbaaefd0cf584c4a39becb6a5bb1fc20ed00d153842fe329b3d63b52a05a6e1b1a2c8309 * 2 ^ 512 +
  0x75b227ebe28012079a059618c323c7041531d871f1e5a534ccf73f362693fdb7c072a49cafa2d4adf04759fa7dc982ca * 2 ^ 128 +
  0x76abd7fe2b670130c56f6bf27b777c63
/-- Substitute one byte. -/
def aesSub (x : Nat) : Nat := bits aesBox (8 * x + 7) (8 * x)
/-- A byte doubled in the field of AES. -/
def aesDouble (x : Nat) : Nat := (2 * x) ^^^ (if x < 128 then 0 else 0x11B)
/-- Mix each column of four bytes. -/
def aesMix : List Nat → List Nat
  | a :: b :: c :: d :: rest =>
    let t := a ^^^ b ^^^ c ^^^ d
    let one (x y : Nat) := x ^^^ t ^^^ aesDouble (x ^^^ y)
    one a b :: one b c :: one c d :: one d a :: aesMix rest
  | rest => rest
/-- Row `r` of the columns turns left by `r` places. -/
def aesTurn (st : List Nat) : List Nat := (List.range 16).map (fun i => st.getD (5 * i % 16) 0)
/-- Key schedule: 32-bit words, the newest first, from the eight of the key. -/
def aesWords : (more : Nat) → List Nat → List Nat
  | 0, ws => ws
  | more + 1, ws =>
    let i := ws.length
    let last := ws.headD 0
    let sub (x : Nat) := aesSub (bits x 31 24) * 2 ^ 24 + aesSub (bits x 23 16) * 2 ^ 16 + aesSub (bits x 15 8) * 2 ^ 8 + aesSub (bits x 7 0)
    let t :=
      if i % 8 = 0 then sub (last % 2 ^ 24 * 2 ^ 8 + last / 2 ^ 24) ^^^ (2 ^ (i / 8 - 1) * 2 ^ 24)
      else if i % 8 = 4 then sub last
      else last
    aesWords more ((ws.getD 7 0 ^^^ t) :: ws)
/-- The sixty words of a 256-bit key, in order. -/
def aesSchedule (key : Nat) : List Nat :=
  (aesWords 52 ((List.range 8).map (fun i => bits key (32 * i + 31) (32 * i)))).reverse
/-- Bytes of a block or word, most significant first. -/
def bytesOf (n x : Nat) : List Nat := (List.range n).map (fun i => bits x (8 * (n - 1 - i) + 7) (8 * (n - 1 - i)))
/-- A block of bytes as a number, most significant byte first. -/
def blockOf (bs : List Nat) : Nat := bs.foldl (fun x b => x * 256 + b) 0
/-- Add the round key whose four words come first. -/
def aesAdd (st ws : List Nat) : List Nat := List.zipWith (· ^^^ ·) st ((ws.take 4).flatMap (bytesOf 4))
/-- Rounds from the words that remain; the last one mixes nothing. -/
def aesRounds : (more : Nat) → List Nat → List Nat → List Nat
  | 0, st, ws => aesAdd (aesTurn (st.map aesSub)) ws
  | more + 1, st, ws => aesRounds more (aesAdd (aesMix (aesTurn (st.map aesSub))) ws) (ws.drop 4)
/-- Encrypt one block under an expanded key. -/
def aesBlock (ws : List Nat) (x : Nat) : Nat := blockOf (aesRounds 13 (aesAdd (bytesOf 16 x) ws) (ws.drop 4))

/-- Product in the field of GCM, bit 127 of a block being its first. -/
def gcmMul (x y : Nat) : Nat :=
  ((List.range 128).foldl (fun (acc : Nat × Nat) i =>
    (if bitOf x (127 - i) then acc.1 ^^^ acc.2 else acc.1, acc.2 / 2 ^^^ (if acc.2 % 2 = 1 then 0xE1 * 2 ^ 120 else 0))) (0, y)).1
/-- GHASH of whole blocks. -/
def ghash (key : Nat) (blocks : List Nat) : Nat := blocks.foldl (fun y b => gcmMul (y ^^^ b) key) 0
/-- Encrypt or decrypt blocks: the counter starts at 2 (SP 800-38D). -/
def gcmBlocks (key iv : Nat) (blocks : List Nat) : List Nat :=
  let ws := aesSchedule key
  blocks.zipIdx.map (fun b => b.1 ^^^ aesBlock ws (iv * 2 ^ 32 + b.2 + 2))
/-- The authentication tag of additional data and ciphertext, both in whole blocks. -/
def gcmTag (key iv : Nat) (aad cipher : List Nat) : Nat :=
  let ws := aesSchedule key
  ghash (aesBlock ws 0) (aad ++ cipher ++ [128 * aad.length * 2 ^ 64 + 128 * cipher.length]) ^^^ aesBlock ws (iv * 2 ^ 32 + 1)

/-! ### CRC-32C (R286) -/

/-- The CRC register after `n` further bits of a message, its first bit being bit 0. -/
def crcBits : (n : Nat) → (crc x : Nat) → Nat
  | 0, crc, _ => crc
  | n + 1, crc, x =>
    let crc := crc ^^^ (x % 2)
    crcBits n (crc / 2 ^^^ (if crc % 2 = 1 then 0x82F63B78 else 0)) (x / 2)
/-- CRC-32C of the bytes of a little-endian number of `n` bytes: 0x1EDC_6F41 reflected, from all ones, inverted at the end. -/
def crc32c (n x : Nat) : Nat := crcBits (8 * n) (2 ^ 32 - 1) x ^^^ (2 ^ 32 - 1)

end Sys2Proof.Machine
end

