-- ==== Sys2Proof/Machine/Flits.lean ====
section
/-! DEFINITION. Flits and the sending side of a link: header, CRC, groups and their encryption, flits kept for resending, and
credits (R286 to R292, R483). -/

namespace Sys2Proof

/-- Sequence number of a flit (Table 11-3). -/
def Flit.seq (f : Flit) : Nat := Machine.bits f.hdr.toNat 15 4
/-- Sequence number of the last flit that its sender received in order. -/
def Flit.ack (f : Flit) : Nat := Machine.bits f.hdr.toNat 27 16
/-- Slots its sender has freed since Up, modulo 4,096: REQ, RSP, SNP, MSG. -/
def Flit.freed (f : Flit) : List Nat := (List.range 4).map (fun v => Machine.bits f.hdr.toNat (43 + 12 * v) (32 + 12 * v))

end Sys2Proof

namespace Sys2Proof.Machine

/-- The CRC of a flit: over its first 252 bytes (R286). -/
def flitCrc (hdr slots : Nat) : Nat := crc32c 252 (hdr % 2 ^ 96 + slots % 2 ^ 1920 * 2 ^ 96)
/-- Whether a flit passes its CRC check. -/
def crcOk (f : Flit) : Bool := flitCrc f.hdr.toNat f.slots.toNat == f.crc.toNat

/-! ### Links and credits (R289, R292) -/

/-- A link. -/
def State.link (s : State) (l : Nat) : Link := s.gly.links.getD l .reset
/-- Change a link. -/
def State.updLink (s : State) (l : Nat) (f : Link → Link) : State :=
  { s with gly := { s.gly with links := s.gly.links.put l (f (s.link l)) } }
/-- Slots a message occupies (R287). -/
def msgSlots (b : List Byte) : Nat := (b.length + 15) / 16
/-- Flits that carry a message and complete its group: 59 slots to a group of 4 flits (R288). -/
def msgFlits (b : List Byte) : Nat := 4 * ((msgSlots b + 58) / 59)
/-- Credit in slots on a virtual channel (R292). -/
def Link.credit (k : Link) (vc : Nat) : Int := (k.init.getD vc 0 : Int) + k.freed.getD vc 0 - k.sent.getD vc 0
/-- Whether a message may go out now: credit for every slot, the retry window open, and groups left under the key (R289,
R292, R483). -/
def Link.canSend (k : Link) (m : OutMsg) : Bool :=
  decide ((msgSlots m.data : Int) ≤ k.credit m.vc) && decide (k.txSeq + msgFlits m.data ≤ k.oldest + 1024) &&
    decide (k.txProt + msgFlits m.data ≤ 2 ^ 42)

/-! ### Groups (R288, R483) -/

/-- The other byte order of a value of `n` bytes. -/
def flipBytes (n x : Nat) : Nat := leNat (leBytes n x).reverse
/-- The nonce of group `g` in Up `u` (R483). -/
def groupIv (salt u g : Nat) : Nat := salt * 2 ^ 64 + 2 ^ 40 * u + g
/-- Slots of a group's flits as blocks, the tag's slot left out. -/
def groupBlocks (flits : List (Nat × Nat)) : List Nat :=
  (flits.flatMap (fun f => (List.range 15).map (fun i => flipBytes 16 (lane 128 f.2 i)))).take 59
/-- Headers of a group's flits as blocks of additional data, in order. -/
def groupAad (flits : List (Nat × Nat)) : List Nat :=
  let all := leNat (flits.flatMap (fun f => leBytes 12 f.1))
  (List.range 3).map (fun i => flipBytes 16 (lane 128 all i))
/-- Tag of a group of four encrypted flits, as its slot holds it. -/
def groupTag (key salt u g : Nat) (flits : List (Nat × Nat)) : Nat :=
  flipBytes 16 (gcmTag (flipBytes 32 key) (groupIv salt u g) (groupAad flits) (groupBlocks flits))
/-- Fifteen slots of a flit as one number. -/
def packSlots (ps : List Nat) : Nat := ps.foldr (fun p x => p % 2 ^ 128 + x * 2 ^ 128) 0
/-- Encrypt a group: four headers and 59 slots in, the four flits with the tag in the last slot out. -/
def groupSeal (key salt u g : Nat) (hdrs ps : List Nat) : List (Nat × Nat) :=
  let cs := (gcmBlocks (flipBytes 32 key) (groupIv salt u g) (ps.map (flipBytes 16))).map (flipBytes 16)
  let flits := hdrs.zipIdx.map (fun h => (h.1, packSlots ((cs.drop (15 * h.2)).take 15)))
  let tag := groupTag key salt u g flits
  flits.zipIdx.map (fun f => if f.2 = 3 then (f.1.1, f.1.2 + tag * 2 ^ 1792) else f.1)

/-! ### Sending -/

/-- Slots that requests of a link still hold here while they wait: for an epoch, behind an earlier request, or for an entry
of the home transaction table (R305, R306, R325). -/
def State.heldSlots (s : State) (l : Nat) : Nat :=
  let size (k : Fin 17) (data : List Byte) : Nat := if k.val = l then 2 + msgSlots data else 0
  (s.gly.inHeld.map (fun e => size e.2.l e.2.data)).sum + (s.gly.behind.map (fun b => size b.link b.data)).sum +
    (s.home.txns.map (fun e => match e.2.act with
      | .req _ k _ data => if e.2.entry then 0 else size k data
      | _ => 0)).sum
/-- Slots freed here since Up, per virtual channel (R292, R305). -/
def State.freedHere (s : State) (l : Nat) : List Nat :=
  match (s.link l).ours with
  | req :: rest => (req - s.heldSlots l) :: rest
  | [] => []
/-- Header of a flit: type, sequence number, START bits; ACK and the credits as they stand (Table 11-3). -/
def State.flitHdr (s : State) (l type seq start : Nat) : Nat :=
  let cr := s.freedHere l
  type + seq % 4096 * 2 ^ 4 + ((s.link l).rxSeq + 4095) % 4096 * 2 ^ 16 + cr.getD 0 0 % 4096 * 2 ^ 32 +
    cr.getD 1 0 % 4096 * 2 ^ 44 + cr.getD 2 0 % 4096 * 2 ^ 56 + cr.getD 3 0 % 4096 * 2 ^ 68 + start * 2 ^ 80
/-- Put a flit on the wire. -/
def State.flitOut (s : State) (l : Nat) (f : Nat × Nat) : State := s.send (.flit l f.1 f.2 (flitCrc f.1 f.2))
/-- A flit that takes no SEQ: idle, or a replay request (R287, R289). -/
def State.flitPlain (s : State) (l type : Nat) : State := s.flitOut l (s.flitHdr l type 0 0, 0)
/-- Send flits that take a SEQ and keep them until they are acknowledged (R289). -/
def State.flitsKept (s : State) (l : Nat) (fs : List (Nat × Nat)) : State :=
  fs.foldl (fun s f => s.flitOut l f) (s.updLink l (fun k => { k with
    ackAt := if k.retry.isEmpty then s.count else k.ackAt
    retry := k.retry ++ fs.zipIdx.map (fun f => ⟨k.txSeq + f.2, 0, f.1.1, f.1.2⟩)
    txSeq := k.txSeq + fs.length }))
/-- Send one group: its first flit of a type, with its slots in the clear, and whether slot 0 begins a message (R288). -/
def State.groupSend (s : State) (l type : Nat) (start : Bool) (ps : List Nat) : State :=
  let k := s.link l
  let hdrs := (List.range 4).map (fun i =>
    s.flitHdr l (if i = 0 then type else 1) (k.txSeq + i) (if i = 0 then b2n start else 0))
  let fs := groupSeal k.keys.txKey k.keys.txSalt k.txUp (k.txProt / 4) hdrs ((ps ++ List.replicate 59 0).take 59)
  (s.flitsKept l fs).updLink l (fun k => { k with txProt := k.txProt + 4 })
/-- The slots of a message (R287). -/
def slotsOf (data : List Byte) : List Nat := (List.range (msgSlots data)).map (fun i => leNat ((data.drop (16 * i)).take 16))
/-- Send a message: its slots begin a group, and null slots complete the last group it needs (R287, R288). -/
def State.linkSend (s : State) (l : Nat) (m : OutMsg) : State :=
  let s := (s.send (.gly l m.vc m.data)).updLink l (fun k => { k with
    sent := k.sent.set m.vc (k.sent.getD m.vc 0 + msgSlots m.data) })
  let ps := slotsOf m.data
  (List.range (msgFlits m.data / 4)).foldl (fun s i => s.groupSend l 1 (i == 0) ((ps.drop (59 * i)).take 59)) s
/-- Send what waits on a link as far as credits allow, in order within each virtual channel. -/
def State.linkPump (s : State) (l : Nat) : State :=
  let ms := (s.link l).waiting
  let s := s.updLink l (fun k => { k with waiting := [] })
  ms.foldl (fun s m =>
    let k := s.link l
    if k.waiting.any (fun w => w.vc = m.vc) || !k.canSend m then s.updLink l (fun k => { k with waiting := k.waiting ++ [m] })
    else s.linkSend l m) s
/-- Bits of GLY_CREDIT_WAIT that count a virtual channel. -/
def creditField (vc : Nat) : Nat := 16 * vc
/-- Whether a link's transmitter finds a parity error in the data of a message: it then sends it with POISON (R415). -/
def State.sendsBad (s : State) (l : Nat) (data : List Byte) : Bool := !data.isEmpty && s.flawed (.linkData l)
/-- Hand a message to a link; one that must wait for credit is counted (R292).  A flit whose control parity is wrong counts
as a CRC failure and is resent (R416). -/
def State.linkPush (s : State) (l vc : Nat) (data : List Byte) : State :=
  let s := s.meet (.linkCtrl l) 0x0F
  let k := s.link l
  let m : OutMsg := ⟨vc, data⟩
  if k.st ≠ 3 then s
  else if k.waiting.any (fun w => w.vc = vc) || !k.canSend m then
    (s.updLink l (fun k => { k with waiting := k.waiting ++ [m] })).inc rGLY_CREDIT_WAIT (creditField vc + 15)
      (creditField vc) l
  else s.linkSend l m

end Sys2Proof.Machine
end

