-- ==== Sys2Proof/Machine/Cellar.lean ====
section
/-! DEFINITION. The Cellar: stripe placement, parity, sector fetches, failed modules, rebuild and scrub (R168 to R178). -/

namespace Sys2Proof.Machine

/-! ### Erasure layout (R172, R173) -/

/-- Data slots per row: 14 in normal, 6 in reduced configuration. -/
def State.celD (s : State) : Nat := if s.fld rCEL_CFG 1 0 = 1 then 14 else 6
/-- Slots: 16 or 8. -/
def State.celN (s : State) : Nat := if s.fld rCEL_CFG 1 0 = 1 then 16 else 8
/-- Whether the package has a Cellar (R154). -/
def State.hasCellar (s : State) : Bool := s.fld rCEL_CFG 1 0 ≠ 0
/-- Stripe set, row and data position of sector `q` of extent `e`, with `d` data slots per row (R173). -/
def stripePos (d e q : Nat) : Nat × Nat × Nat :=
  let l := 512 * (e % (d / 2)) + q
  (e / (d / 2), l / d, l % d)
/-- Slot of a row position: data `j`, P at `d`, Q at `d + 1` (R173). -/
def stripeSlot (n set row pos : Nat) : Nat := (pos + set + row) % n
/-- Module sector of a row (R173). -/
def stripeSector (set row : Nat) : Nat := 256 * set + row
/-- Extents with a data sector in a row. -/
def rowExtents (d set row : Nat) : List Nat :=
  ((List.range d).map (fun j => set * (d / 2) + (row * d + j) / 512)).eraseDups

/-! ### GF(2^8) with polynomial 0x11D (R173) -/

/-- Multiplication by g = 2. -/
def gfDouble (a : Nat) : Nat := if a < 128 then 2 * a else (2 * a) ^^^ 0x11D
/-- Product in GF(2^8). -/
def gfMul : (fuel a b : Nat) → Nat
  | 0, _, _ => 0
  | f + 1, a, b => (if b % 2 = 1 then a else 0) ^^^ gfMul f (gfDouble a) (b / 2)
/-- Power in GF(2^8). -/
def gfPow (a : Nat) : Nat → Nat
  | 0 => 1
  | n + 1 => gfMul 8 a (gfPow a n)
/-- Inverse in GF(2^8). -/
def gfInv (a : Nat) : Nat := gfPow a 254
/-- Bytewise XOR. -/
def xorBytes (a b : List Byte) : List Byte := List.zipWith (· ^^^ ·) a b
/-- Bytewise scaling. -/
def gfScale (k : Nat) (a : List Byte) : List Byte := a.map (fun b => BitVec.ofNat 8 (gfMul 8 k b.toNat))
/-- A sector of zeros. -/
def zeroSector : List Byte := List.replicate 4096 0
/-- P of a row's data sectors (R173). -/
def parityP (ds : List (List Byte)) : List Byte := ds.foldl xorBytes zeroSector
/-- Q of a row's data sectors (R173). -/
def parityQ (ds : List (List Byte)) : List Byte :=
  (ds.zipIdx).foldl (fun acc d => xorBytes acc (gfScale (gfPow 2 d.2) d.1)) zeroSector

/-- Data position `j` from the other `d` positions of its row that are known (R175). -/
def reconData (d j : Nat) (known : Assoc (List Byte)) : List Byte :=
  let data := known.filter (fun e => e.1 < d)
  let px := data.foldl (fun acc e => xorBytes acc e.2) zeroSector
  let qx := data.foldl (fun acc e => xorBytes acc (gfScale (gfPow 2 e.1) e.2)) zeroSector
  match known.find? d, known.find? (d + 1) with
  | some p, none => xorBytes p px
  | none, some q => gfScale (gfInv (gfPow 2 j)) (xorBytes q qx)
  | some p, some q =>
    -- one other data position is unknown too
    match leastBelow d (fun k => k ≠ j ∧ ¬ known.has k) with
    | none => xorBytes p px
    | some k =>
      let a := xorBytes p px
      let b := xorBytes q qx
      let den := gfInv ((gfPow 2 j) ^^^ (gfPow 2 k))
      gfScale den (xorBytes b (gfScale (gfPow 2 k) a))
  | none, none => zeroSector
/-- Any position of a row, data, P or Q, from `d` others that are known (R175). -/
def reconstruct (d pos : Nat) (known : Assoc (List Byte)) : List Byte :=
  let ds := (List.range d).map (fun j => (known.find? j).getD (reconData d j known))
  if pos < d then ds.getD pos [] else if pos = d then parityP ds else parityQ ds
/-- What the syndromes of a whole row say (R178): nothing is wrong; one position is, with its right content; or some `none`,
they identify no single sector. -/
def rowVerdict (d : Nat) (row : Assoc (List Byte)) : Option (Option (Nat × List Byte)) :=
  let ds := (List.range d).map (fun j => (row.find? j).getD zeroSector)
  let sp := xorBytes ((row.find? d).getD zeroSector) (parityP ds)
  let sq := xorBytes ((row.find? (d + 1)).getD zeroSector) (parityQ ds)
  let pOk := sp.all (· == 0)
  let qOk := sq.all (· == 0)
  if pOk && qOk then none
  else if pOk then some (some (d + 1, parityQ ds))
  else if qOk then some (some (d, parityP ds))
  else some ((leastBelow d (fun j => gfScale (gfPow 2 j) sp == sq)).map (fun j => (j, xorBytes (ds.getD j []) sp)))

/-! ### Channels, slots and sector fetches (R170 to R176) -/

/-- A channel whose module nobody has seen. -/
def CChan.reset : CChan :=
  { up := false, ident := false, failed := false, downAt := 0, statusAt := 0, tmos := [], tmoCount := 0, modId := 0,
    sectors := 0, health := 0, spare := 0, temp := 0 }
/-- A channel. -/
def State.chan (s : State) (c : Nat) : CChan := s.cel.chans.getD c .reset
/-- Change a channel. -/
def State.updChan (s : State) (c : Nat) (f : CChan → CChan) : State :=
  { s with cel := { s.cel with chans := s.cel.chans.put c (f (s.chan c)) } }
/-- State and channel of a slot. -/
def State.slot (s : State) (n : Nat) : Nat × Nat := s.cel.slots.getD n (0, 0)
/-- Set a slot. -/
def State.setSlot (s : State) (n st ch : Nat) : State :=
  { s with cel := { s.cel with slots := s.cel.slots.put n (st, ch) } }
/-- A module is present: link trained and IDENT received (R170). -/
def State.chanPresent (s : State) (c : Nat) : Bool := (s.chan c).up && (s.chan c).ident
/-- Whether a slot serves reads of a stripe set: healthy, or rebuilding below the cursor, with a module that has not failed
(R175); what a link that is down for the moment holds up times out (R171). -/
def State.slotReads (s : State) (n set : Nat) : Bool :=
  let x := s.slot n
  (x.1 == 1 || (x.1 == 3 && decide (set < s.cel.cursor))) && (s.chan x.2).ident && !(s.chan x.2).failed
/-- A tag of a channel for a new command (Table 06-5): one that no command holds, and whose late reply nothing waits for while
such a tag is free (R28, R171). -/
def State.freeTag (s : State) (ch : Nat) : Option Nat :=
  match leastBelow 1024 (fun t => !s.cel.tags.has (ch * 1024 + t) && !s.cel.stale.contains (ch * 1024 + t)) with
  | some t => some t
  | none => leastBelow 1024 (fun t => !s.cel.tags.has (ch * 1024 + t))
/-- OPCODE of a command (Table 06-6). -/
def CTag.opcode (t : CTag) : Nat := if t.kind = 0 then 0x10 else if t.kind = 1 then 0x20 else 0x28
/-- A message to a module: the header of Table 06-5 and the sectors that follow it (R168). -/
def celBytes (op tag sector n : Nat) (data : List Byte) : List Byte :=
  leBytes 1 op ++ leBytes 1 0 ++ leBytes 2 tag ++ leBytes 5 sector ++ leBytes 2 n ++ leBytes 5 0 ++ data
/-- Hand a message to the link of a channel: link 16 + channel, on the REQ virtual channel (R167). -/
def State.celPush (s : State) (ch op tag sector n : Nat) (data : List Byte) : State :=
  s.linkPush (16 + ch) 0 (celBytes op tag sector n data)
/-- Send a command, when a tag is free and its channel's link is Up and has the credits; otherwise it waits behind those of its
channel (R167, R168).  A READ arms CEL_RD_TMO as it leaves (R171). -/
def State.celTry (s : State) (t : CTag) : State :=
  let k := s.link (16 + t.ch)
  let wait := { s with cel := { s.cel with unsent := s.cel.unsent ++ [t] } }
  if s.cel.unsent.any (fun w => w.ch == t.ch) then wait
  else
    match s.freeTag t.ch with
    | none => wait
    | some g =>
      if k.st ≠ 3 ∨ k.canSend ⟨0, celBytes t.opcode g t.sector t.n t.data⟩ = false then wait
      else
        let d := s.rd rCEL_RD_TMO
        let t := { t with expiry := if t.kind ≠ 0 ∨ d = 0 then none else some (s.count + d) }
        ({ s with cel := { s.cel with
          tags := s.cel.tags.put (t.ch * 1024 + g) t
          stale := s.cel.stale.rem (t.ch * 1024 + g) } }).celPush t.ch t.opcode g t.sector t.n t.data
/-- The commands of a channel that wait go out as far as they can, in order. -/
def State.celSend (s : State) (ch : Nat) : State :=
  (s.cel.unsent.filter (fun t => t.ch == ch)).foldl State.celTry
    { s with cel := { s.cel with unsent := s.cel.unsent.filter (fun t => t.ch != ch) } }
/-- A command of the hub to a module. -/
def State.celIssue (s : State) (ch kind sector n fkey pos vint : Nat) (data : List Byte) : State :=
  s.celTry { ch := ch, kind := kind, sector := sector, n := n, expiry := none, fkey := fkey, pos := pos, vint := vint, data := data }
/-- READ one sector for a fetch. -/
def State.celRead (s : State) (ch sector fkey pos : Nat) : State := s.celIssue ch 0 sector 1 fkey pos 0 []
/-- WRITE one sector (DESIGN CHOICE, log entry 62); `vint` is the vintage that waits for it, 0 for none. -/
def State.celWrite (s : State) (ch sector : Nat) (data : List Byte) (vint : Nat) : State := s.celIssue ch 1 sector 1 0 0 vint data
/-- TRIM sectors. -/
def State.celTrim (s : State) (ch sector n : Nat) : State := s.celIssue ch 2 sector n 0 0 0 []
/-- A Cellar extent. -/
def State.cext (s : State) (e : Nat) : CExt := s.cel.exts.getD e ⟨0, 0, false, 0⟩
/-- Change a Cellar extent. -/
def State.updCext (s : State) (e : Nat) (f : CExt → CExt) : State :=
  { s with cel := { s.cel with exts := s.cel.exts.put e (f (s.cext e)) } }
/-- Poison every extent that has a data sector in a row, and report each newly poisoned (R176, R178). -/
def State.poisonRow (s : State) (set row : Nat) : State :=
  (rowExtents s.celD set row).foldl (fun s e =>
    if s.cel.exts.has e && !(s.cext e).poisoned then
      (s.updCext e (fun x => { x with poisoned := true })).raise
        { code := 0x0107, sev := 2, comp := (s.cext e).comp, oper := 0x0B, d0 := (s.cext e).comp, d1 := e }
    else s) s
/-- Change a sector fetch. -/
def State.setFetch (s : State) (k : Nat) (f : CFetch) : State :=
  { s with cel := { s.cel with fetch := s.cel.fetch.put k f } }
/-- Keys of fetches beside those of data sectors, which are extent · 512 + sector: a row position that the rebuild
reconstructs, one that the scrubber repairs, and the row that the scrubber reads. -/
def rebuildKey (set row pos : Nat) : Nat := 2 ^ 60 + (set * 256 + row) * 32 + pos
/-- A row position that the scrubber repairs. -/
def repairKey (set row pos : Nat) : Nat := 2 ^ 61 + (set * 256 + row) * 32 + pos
/-- The row that the scrubber reads. -/
abbrev scrubKey : Nat := 2 ^ 62
/-- Stripe set, row and position that a fetch is of. -/
def fetchPos (d k : Nat) : Nat × Nat × Nat :=
  if k < 2 ^ 60 then stripePos d (k / 512) (k % 512)
  else
    let x := k % 2 ^ 60
    (x / 2 ^ 13, x / 32 % 256, x % 32)
/-- Row positions of a set that can be read, those of a list left out. -/
def State.rowReads (s : State) (set row : Nat) (out : List Nat) : List Nat :=
  (List.range (s.celD + 2)).filter (fun p => !out.contains p && s.slotReads (stripeSlot s.celN set row p) set)
/-- READ a position of a row for a fetch. -/
def State.rowRead1 (s : State) (k set row p : Nat) : State :=
  s.celRead (s.slot (stripeSlot s.celN set row p)).2 (stripeSector set row) k p
/-- Issue the reads that reconstruct a row position: `celD` others that can be read (R175); with fewer, the row's extents are
poisoned (R176). -/
def State.startRecon (s : State) (k : Nat) (back : Bool) (missed : List Nat) : State :=
  let d := s.celD
  let (set, row, j) := fetchPos d k
  let ok := s.rowReads set row (j :: missed)
  let w := match s.cel.fetch.find? k with | some f => f.waiters | none => 0
  if ok.length < d then
    (s.poisonRow set row).setFetch k { waiters := w, got := some none, recon := none, back := false, missed := missed }
  else
    let s := s.setFetch k { waiters := w, got := none, recon := some [], back := back, missed := missed }
    (ok.take d).foldl (fun s p => s.rowRead1 k set row p) s
/-- Begin fetching a data sector for a waiter, or join the fetch under way (R174); one read is counted (R165). -/
def State.celWant (s : State) (ext q : Nat) : State :=
  let k := ext * 512 + q
  match s.cel.fetch.find? k with
  | some f => s.setFetch k { f with waiters := f.waiters + 1 }
  | none =>
    let s := s.updCext ext (fun x => { x with counter := min (x.counter + 1) 0xFFFFFFFF })
    if (s.cext ext).poisoned then s.setFetch k { waiters := 1, got := some none, recon := none, back := false, missed := [] }
    else
      let (set, row, j) := stripePos s.celD ext q
      let sl := stripeSlot s.celN set row j
      let s := s.setFetch k { waiters := 1, got := none, recon := none, back := false, missed := [] }
      if s.slotReads sl set then s.celRead (s.slot sl).2 (stripeSector set row) k j
      else s.startRecon k false []
/-- Whether a sector has arrived. -/
def State.celHere (s : State) (ext q : Nat) : Bool :=
  match s.cel.fetch.find? (ext * 512 + q) with | some f => f.got.isSome | none => false
/-- Bytes of a fetched sector; none when it is poison. -/
def State.celBytes (s : State) (ext byte n : Nat) : Option (List Byte) :=
  match s.cel.fetch.find? (ext * 512 + byte / 4096) with
  | some { got := some (some bs), .. } => some ((bs.drop (byte % 4096)).take n)
  | _ => none
/-- A waiter is done with a sector; the last one lets it go. -/
def State.celDrop (s : State) (ext q : Nat) : State :=
  let k := ext * 512 + q
  match s.cel.fetch.find? k with
  | some f =>
    if f.waiters ≤ 1 then { s with cel := { s.cel with fetch := s.cel.fetch.del k } }
    else s.setFetch k { f with waiters := f.waiters - 1 }
  | none => s
/-- A position of a fetch came back whole: serve it, or reconstruct when enough positions are here (R175).  A repair goes
back to its module and is done. -/
def State.celGot (s : State) (k pos : Nat) (bs : List Byte) : State :=
  match s.cel.fetch.find? k with
  | none => s
  | some f =>
    match f.recon with
    | none => s.setFetch k { f with got := some (some bs) }
    | some r =>
      let d := s.celD
      let (set, row, j) := fetchPos d k
      let r := r.put pos bs
      if r.length < d then s.setFetch k { f with recon := some r }
      else
        let v := reconstruct d j r
        let s := s.setFetch k { f with got := some (some v), recon := none }
        let s := if k < 2 ^ 60 then s.inc rCEL_RECON 63 0 else s
        let s := if repairKey 0 0 0 ≤ k then s.celDrop 0 k else s
        let sl := stripeSlot s.celN set row j
        if f.back && s.slotReads sl set then s.celWrite (s.slot sl).2 (stripeSector set row) v 0 else s
/-- A position of a fetch cannot be read: reconstruct, or take another position (R175, R176). -/
def State.celMiss (s : State) (k pos : Nat) : State :=
  match s.cel.fetch.find? k with
  | none => s
  | some f =>
    if f.got.isSome then s
    else
    match f.recon with
    | none => s.startRecon k true [pos]
    | some r =>
      let (set, row, j) := fetchPos s.celD k
      let missed := pos :: f.missed
      let busy := (s.cel.tags.vals ++ s.cel.unsent).filterMap (fun t =>
        if t.kind = 0 ∧ t.fkey = k then some t.pos else none)
      match (s.rowReads set row (j :: missed ++ r.keys ++ busy)).head? with
      | some p => (s.setFetch k { f with missed := missed }).rowRead1 k set row p
      | none =>
        let s := (s.poisonRow set row).setFetch k { f with got := some none, recon := none, missed := missed }
        if repairKey 0 0 0 ≤ k then s.celDrop 0 k else s

/-- Stripe sets a module holds. -/
def State.slotSets (s : State) (n : Nat) : Nat := (s.chan (s.slot n).2).sectors / 256
/-- Assign a ready spare to the lowest failed slot and start its rebuild, when no rebuild runs (R175, R176). -/
def State.tryRebuild (s : State) : State :=
  let sp := s.slot 16
  match s.cel.rebuild, leastBelow s.celN (fun n => (s.slot n).1 == 2) with
  | none, some n =>
    if sp.1 = 4 then
      let s := (s.setSlot n 3 sp.2).setSlot 16 0 0
      { s with cel := { s.cel with rebuild := some n, cursor := 0, rbRow := 0, rbGoal := 0, periodAt := s.count } }
    else s
  | _, _ => s
/-- A present module is declared failed, with its cause: 0 link down, 1 no STATUS, 2 reported, 3 timeouts (R170, R175). -/
def State.moduleFailed (s : State) (ch cause : Nat) : State :=
  if (s.chan ch).failed then s
  else
    let s := s.updChan ch (fun c => { c with failed := true })
    let s := s.raise { code := 0x0600, sev := 3, d0 := ch, d1 := cause }
    let s := if (s.slot 16) = (4, ch) then s.setSlot 16 0 0 else s
    match leastBelow s.celN (fun n => (s.slot n).2 == ch && ((s.slot n).1 == 1 || (s.slot n).1 == 3)) with
    | some n =>
      let s := s.setSlot n 2 ch
      let s := if s.cel.rebuild = some n then { s with cel := { s.cel with
          rebuild := none, cursor := 0, rbRow := 0, rbGoal := 0
          fetch := s.cel.fetch.filter (fun e => decide (e.1 < 2 ^ 60 ∨ 2 ^ 61 ≤ e.1)) } } else s
      s.tryRebuild
    | none => s

/-- Sectors that `n` bytes from a Cellar byte touch. -/
def sectorSpan (byte n : Nat) : List Nat :=
  if n = 0 then [] else (List.range ((byte + n - 1) / 4096 - byte / 4096 + 1)).map (fun i => byte / 4096 + i)

end Sys2Proof.Machine
end

