-- ==== Sys2Proof/Machine/Flags.lean ====
section
/-! DEFINITION. The sticky flags of SR_VFLAGS (Table 03-2) and the one place where overflow, underflow and inexact are
judged (R84, R125). -/

namespace Sys2Proof.Machine

/-- SR_VFLAGS [0] (Table 03-2). -/
def flInvalid : Nat := 1
/-- SR_VFLAGS [1]. -/
def flDivZero : Nat := 2
/-- SR_VFLAGS [2]. -/
def flOverflow : Nat := 4
/-- SR_VFLAGS [3]. -/
def flUnderflow : Nat := 8
/-- SR_VFLAGS [4]. -/
def flInexact : Nat := 16
/-- SR_VFLAGS [8], set by TKI on a malformed list (R102). -/
def flTkiBad : Nat := 256
/-- The writable bits of SR_VFLAGS; the others are reserved (Table 03-2). -/
def vflagsMask : Nat := 0x11F
/-- The writable bits of SR_FPCTL: RM and SRND (Table 03-2). -/
def fpctlMask : Nat := 0x7

/-- The flags of a rounding that did not overflow: underflow when tiny and inexact, inexact when inexact (R84). -/
def roundFlags (tiny inexact : Bool) : Nat :=
  (if tiny && inexact then flUnderflow else 0) ||| (if inexact then flInexact else 0)

/-- Sticky accumulation into SR_VFLAGS. -/
def stick (flags : Word) (f : Nat) : Word := flags ||| w64 f

end Sys2Proof.Machine
end

