-- ==== Sys2Proof/Machine/Float.lean ====
section
/-! DEFINITION. The floating-point formats of Table 04-1, exact values, rounding (R84, R125, R129), the binary32
operations of the vector engine, and the transcendental algorithms of R130 to R134. -/

namespace Sys2Proof.Machine

/-- An exact value: NaN, an infinity, or ±m·2^e. -/
inductive FV where
  | nan
  | inf (neg : Bool)
  | fin (neg : Bool) (m : Nat) (e : Int)
  deriving DecidableEq, Repr

/-- How a format spends its special encodings (Table 04-1). -/
inductive Specials where
  /-- Infinities and NaN by IEEE 754 rules. -/
  | ieee
  /-- NaN only (E4M3). -/
  | nanOnly
  /-- Every encoding finite (E2M1, E3M2, E2M3). -/
  | none
  deriving DecidableEq, Repr

/-- A floating-point format: widths of E and M, bias, largest finite value `maxM · 2^maxE` (Table 04-1). -/
structure Fmt where
  ebits : Nat
  mbits : Nat
  bias : Nat
  maxM : Nat
  maxE : Int
  sp : Specials
  qnan : Nat
  deriving DecidableEq, Repr

def fp32 : Fmt := ⟨8, 23, 127, 2 ^ 24 - 1, 104, .ieee, 0x7FC00000⟩
def bf16 : Fmt := ⟨8, 7, 127, 255, 120, .ieee, 0x7FC0⟩
def fp16 : Fmt := ⟨5, 10, 15, 2047, 5, .ieee, 0x7E00⟩
def e5m2 : Fmt := ⟨5, 2, 15, 7, 13, .ieee, 0x7F⟩
def e4m3 : Fmt := ⟨4, 3, 7, 14, 5, .nanOnly, 0x7F⟩
def e2m1 : Fmt := ⟨2, 1, 1, 3, 1, .none, 0⟩
def e3m2 : Fmt := ⟨3, 2, 3, 7, 2, .none, 0⟩
def e2m3 : Fmt := ⟨2, 3, 1, 15, -1, .none, 0⟩

/-- The precision, hidden bit included. -/
def Fmt.prec (f : Fmt) : Nat := f.mbits + 1
/-- The exponent of the smallest normal magnitude. -/
def Fmt.emin (f : Fmt) : Int := 1 - (f.bias : Int)
/-- Total bits. -/
def Fmt.width (f : Fmt) : Nat := 1 + f.ebits + f.mbits

/-- The value an encoding stands for (R112). -/
def Fmt.decode (f : Fmt) (x : Nat) : FV :=
  let s := bitOf x (f.ebits + f.mbits)
  let e := (x >>> f.mbits) % 2 ^ f.ebits
  let m := x % 2 ^ f.mbits
  let top := 2 ^ f.ebits - 1
  if f.sp = .ieee ∧ e = top then (if m = 0 then .inf s else .nan)
  else if f.sp = .nanOnly ∧ e = top ∧ m = 2 ^ f.mbits - 1 then .nan
  else if e = 0 then .fin s m (f.emin - f.mbits)
  else .fin s (2 ^ f.mbits + m) ((e : Int) - f.bias - f.mbits)

/-- The rounding in force: an SR_FPCTL mode (0 nearest even, 1 zero, 2 down, 3 up) or a stochastic draw (R129). -/
inductive RM where
  | mode (n : Nat)
  | draw (r : Nat)
  deriving DecidableEq, Repr

/-- Round to nearest, ties to even. -/
def rne : RM := .mode 0

/-- `y0 + inc` of truncation `y0` with remainder `rem` of `2^sh`. -/
def roundInc (rm : RM) (neg : Bool) (y0 rem sh : Nat) : Nat :=
  match rm with
  | .mode 0 => if rem * 2 > 2 ^ sh ∨ (rem * 2 = 2 ^ sh ∧ y0 % 2 = 1) then y0 + 1 else y0
  | .mode 2 => if rem ≠ 0 ∧ neg then y0 + 1 else y0
  | .mode 3 => if rem ≠ 0 ∧ ¬neg then y0 + 1 else y0
  | .mode _ => y0
  | .draw r => if r < rem * 2 ^ 32 / 2 ^ sh then y0 + 1 else y0

/-- Round the magnitude `m·2^e` to a multiple of `2^q`: the multiple and whether it is exact. -/
def roundAt (rm : RM) (neg : Bool) (m : Nat) (e q : Int) : Nat × Bool :=
  if q ≤ e then (m * 2 ^ (e - q).toNat, true)
  else
    let sh := (q - e).toNat
    (roundInc rm neg (m / 2 ^ sh) (m % 2 ^ sh) sh, m % 2 ^ sh == 0)

/-- A rounding to a format: multiple `k` of `2^q`, inexact, tiny after rounding (R84), beyond the largest finite (R125). -/
structure Rounded where
  k : Nat
  q : Int
  inexact : Bool
  tiny : Bool
  exceeds : Bool
  deriving DecidableEq, Repr

/-- Compare `k·2^q` with `m·2^e`: strictly greater. -/
def magGt (k : Nat) (q : Int) (m : Nat) (e : Int) : Bool :=
  if q ≤ e then decide (k > m * 2 ^ (e - q).toNat) else decide (k * 2 ^ (q - e).toNat > m)

/-- Round a nonzero magnitude to a format's precision, judging tininess and overflow with the rounding in force. -/
def roundMag (f : Fmt) (rm : RM) (neg : Bool) (m : Nat) (e : Int) : Rounded :=
  if m = 0 then ⟨0, f.emin - f.mbits, false, false, false⟩
  else
    let top : Int := (Nat.log2 m : Int) + e
    let qu := top - f.mbits
    let q := max qu (f.emin - f.mbits)
    let r := roundAt rm neg m e q
    let u := roundAt rm neg m e qu
    ⟨r.1, q, !r.2, !(magGt u.1 qu 1 f.emin) && !(decide (u.1 = 2 ^ (f.emin - qu).toNat) && decide (qu ≤ f.emin)),
      magGt u.1 qu f.maxM f.maxE⟩

/-- The encoding of sign and `k·2^q`, a multiple the format holds. -/
def Fmt.encode (f : Fmt) (neg : Bool) (k : Nat) (q : Int) : Nat :=
  let s := b2n neg <<< (f.ebits + f.mbits)
  if k < 2 ^ f.mbits then s + k
  else
    let (k, q) := if k = 2 ^ (f.mbits + 1) then (k / 2, q + 1) else (k, q)
    s + ((q + f.mbits + f.bias).toNat <<< f.mbits) + (k - 2 ^ f.mbits)

/-- The largest finite encoding with a sign. -/
def Fmt.maxFin (f : Fmt) (neg : Bool) : Nat :=
  (b2n neg <<< (f.ebits + f.mbits)) +
    (match f.sp with
     | .ieee => ((2 ^ f.ebits - 1) <<< f.mbits) - 1
     | .nanOnly => 2 ^ (f.ebits + f.mbits) - 2
     | .none => 2 ^ (f.ebits + f.mbits) - 1)
/-- The infinity encoding with a sign. -/
def Fmt.infE (f : Fmt) (neg : Bool) : Nat := (b2n neg <<< (f.ebits + f.mbits)) + ((2 ^ f.ebits - 1) <<< f.mbits)

/-- What an overflow writes (Table 04-6). -/
inductive Ovf where
  | ieee
  | sat
  | nan
  deriving DecidableEq, Repr

/-- The encoding an overflow writes under each policy (Table 04-6). -/
def ovfValue (f : Fmt) (p : Ovf) (rm : RM) (neg : Bool) : Nat :=
  match p with
  | .sat => f.maxFin neg
  | .nan => f.qnan
  | .ieee =>
    match rm with
    | .mode 1 => f.maxFin neg
    | .mode 2 => if neg then f.infE neg else f.maxFin neg
    | .mode 3 => if neg then f.maxFin neg else f.infE neg
    | _ => f.infE neg

/-- Round a finite value into a format: encoding and flags (R84, R125). -/
def roundFin (f : Fmt) (p : Ovf) (rm : RM) (neg : Bool) (m : Nat) (e : Int) : Nat × Nat :=
  let r := roundMag f rm neg m e
  if r.exceeds then (ovfValue f p rm neg, flOverflow ||| flInexact)
  else (f.encode neg r.k r.q, roundFlags r.tiny r.inexact)

/-- Binary32 result of an exact value, with flags. -/
def pack32 (rm : RM) (v : FV) : Nat × Nat :=
  match v with
  | .nan => (fp32.qnan, 0)
  | .inf s => (fp32.infE s, 0)
  | .fin s m e => roundFin fp32 .ieee rm s m e

/-- The sign of an exact zero sum (IEEE 754): minus only toward −∞. -/
def zeroSign (rm : RM) : Bool := rm = .mode 2

/-- Exact sum of two values; `true` marks an invalid operation. -/
def FV.add (rm : RM) (a b : FV) : FV × Bool :=
  match a, b with
  | .nan, _ => (.nan, false)
  | _, .nan => (.nan, false)
  | .inf s, .inf t => if s = t then (.inf s, false) else (.nan, true)
  | .inf s, _ => (.inf s, false)
  | _, .inf t => (.inf t, false)
  | .fin s m e, .fin t n g =>
    if m = 0 ∧ n = 0 then (.fin (if s = t then s else zeroSign rm) 0 0, false)
    else
      let q := min e g
      let x : Int := (if s then -1 else 1) * (m * 2 ^ (e - q).toNat : Nat)
      let y : Int := (if t then -1 else 1) * (n * 2 ^ (g - q).toNat : Nat)
      let z := x + y
      (if z = 0 then .fin (zeroSign rm) 0 0 else .fin (decide (z < 0)) z.natAbs q, false)

/-- Negation. -/
def FV.neg : FV → FV
  | .nan => .nan
  | .inf s => .inf !s
  | .fin s m e => .fin (!s) m e

/-- Exact product; `true` marks an invalid operation. -/
def FV.mul (a b : FV) : FV × Bool :=
  match a, b with
  | .nan, _ => (.nan, false)
  | _, .nan => (.nan, false)
  | .inf s, .inf t => (.inf (s != t), false)
  | .inf s, .fin t n _ => if n = 0 then (.nan, true) else (.inf (s != t), false)
  | .fin s m _, .inf t => if m = 0 then (.nan, true) else (.inf (s != t), false)
  | .fin s m e, .fin t n g => (.fin (s != t) (m * n) (e + g), false)

/-- Flag of an operation that created a NaN (R114). -/
def invFlag (b : Bool) : Nat := if b then flInvalid else 0

/-- Binary32 addition. -/
def fadd (rm : RM) (a b : Nat) : Nat × Nat :=
  let r := FV.add rm (fp32.decode a) (fp32.decode b)
  let p := pack32 rm r.1
  (p.1, p.2 ||| invFlag r.2)
/-- Binary32 subtraction. -/
def fsub (rm : RM) (a b : Nat) : Nat × Nat :=
  let r := FV.add rm (fp32.decode a) (fp32.decode b).neg
  let p := pack32 rm r.1
  (p.1, p.2 ||| invFlag r.2)
/-- Binary32 multiplication. -/
def fmul (rm : RM) (a b : Nat) : Nat × Nat :=
  let r := FV.mul (fp32.decode a) (fp32.decode b)
  let p := pack32 rm r.1
  (p.1, p.2 ||| invFlag r.2)
/-- `c + a·b` with one rounding; an invalid product counts only when `c` is no NaN (R114). -/
def ffma (rm : RM) (a b c : Nat) : Nat × Nat :=
  let p := FV.mul (fp32.decode a) (fp32.decode b)
  let cv := fp32.decode c
  let r := FV.add rm p.1 cv
  let q := pack32 rm r.1
  (q.1, q.2 ||| invFlag (r.2 || (p.2 && decide (cv ≠ .nan))))

/-- Quotient magnitude with a sticky last bit. -/
def divMag (m n : Nat) : Nat × Int :=
  let k := 66 + Nat.log2 n
  let a := m * 2 ^ k
  (2 * (a / n) + b2n (a % n ≠ 0), -(k : Int) - 1)
/-- Binary32 division. -/
def fdiv (rm : RM) (a b : Nat) : Nat × Nat :=
  match fp32.decode a, fp32.decode b with
  | .nan, _ => (fp32.qnan, 0)
  | _, .nan => (fp32.qnan, 0)
  | .inf _, .inf _ => (fp32.qnan, flInvalid)
  | .inf s, .fin t _ _ => (fp32.infE (s != t), 0)
  | .fin s _ _, .inf t => (fp32.encode (s != t) 0 0, 0)
  | .fin s m e, .fin t n g =>
    if n = 0 then (if m = 0 then (fp32.qnan, flInvalid) else (fp32.infE (s != t), flDivZero))
    else if m = 0 then (fp32.encode (s != t) 0 0, 0)
    else
      let d := divMag m n
      roundFin fp32 .ieee rm (s != t) d.1 (e - g + d.2)

/-- Integer square root, one result bit per step from bit `i - 1` down. -/
def isqrt (n : Nat) : (i acc : Nat) → Nat
  | 0, acc => acc
  | i + 1, acc => let c := acc + 2 ^ i; isqrt n i (if c * c ≤ n then c else acc)
/-- Binary32 square root of a nonnegative encoding (−0 included). -/
def fsqrt (rm : RM) (a : Nat) : Nat × Nat :=
  match fp32.decode a with
  | .nan => (fp32.qnan, 0)
  | .inf s => if s then (fp32.qnan, flInvalid) else (fp32.infE false, 0)
  | .fin s m e =>
    if m = 0 then (a, 0)
    else if s then (fp32.qnan, flInvalid)
    else
      let odd := decide (e % 2 ≠ 0)
      let m1 := (if odd then 2 * m else m) * 2 ^ 60
      let e1 := (if odd then e - 1 else e) - 60
      let r := isqrt m1 45 0
      roundFin fp32 .ieee rm false (2 * r + b2n (r * r ≠ m1)) (e1 / 2 - 1)

/-- Less-than on values that are not NaN. -/
def FV.lt (a b : FV) : Bool :=
  match a, b with
  | .nan, _ => false
  | _, .nan => false
  | .inf s, .inf t => s && !t
  | .inf s, _ => s
  | _, .inf t => !t
  | .fin s m e, .fin t n g =>
    let q := min e g
    let x : Int := (if s then -1 else 1) * (m * 2 ^ (e - q).toNat : Nat)
    let y : Int := (if t then -1 else 1) * (n * 2 ^ (g - q).toNat : Nat)
    decide (x < y)
/-- Equality of values; NaN equals nothing, and the zeros are equal. -/
def FV.eq (a b : FV) : Bool :=
  match a, b with
  | .nan, _ => false
  | _, .nan => false
  | a, b => !FV.lt a b && !FV.lt b a
/-- VFCEQ, VFCLT, VFCLE (Table 03-8): any NaN gives 0. -/
def fceq (a b : Nat) : Bool := FV.eq (fp32.decode a) (fp32.decode b)
def fclt (a b : Nat) : Bool := FV.lt (fp32.decode a) (fp32.decode b)
def fcle (a b : Nat) : Bool := fclt a b || fceq a b

/-- IEEE 754 minimumNumber and maximumNumber on encodings: a number wins over NaN, and −0 is below +0. -/
def fminmax (mx : Bool) (a b : Nat) : Nat :=
  match fp32.decode a, fp32.decode b with
  | .nan, .nan => fp32.qnan
  | .nan, _ => b
  | _, .nan => a
  | x, y =>
    if FV.lt x y then (if mx then b else a)
    else if FV.lt y x then (if mx then a else b)
    else if bitOf a 31 = mx then b else a

/-- Round a value to an integer under a mode: the integer and whether it is exact. -/
def toInt (rm : RM) (neg : Bool) (m : Nat) (e : Int) : Int × Bool :=
  let r := roundAt rm neg m e 0
  ((if neg then -(r.1 : Int) else r.1), r.2)
/-- FP32 to an integer target of width `w` (Table 04-6). -/
def fToInt (w : Nat) (rm : RM) (a : Nat) : Nat × Nat :=
  let hi : Int := 2 ^ (w - 1) - 1
  let lo : Int := -2 ^ (w - 1)
  match fp32.decode a with
  | .nan => (0, flInvalid)
  | .inf s => (ofS w (if s then lo else hi), flInvalid)
  | .fin s m e =>
    let r := toInt rm s m e
    if r.1 > hi then (ofS w hi, flInvalid)
    else if r.1 < lo then (ofS w lo, flInvalid)
    else (ofS w r.1, if r.2 then 0 else flInexact)
/-- A signed integer to FP32 (Table 04-6). -/
def intToF (rm : RM) (x : Int) : Nat × Nat := roundFin fp32 .ieee rm (decide (x < 0)) x.natAbs 0

/-- What a conversion writes for ±∞ (Table 04-6). -/
inductive InfOut where
  | inf
  | maxFin
  | nan
  deriving DecidableEq, Repr

/-- A conversion to a floating-point target: format, overflow, infinity, and whether NaN becomes +0 with invalid (MX). -/
structure Conv where
  fmt : Fmt
  ovf : Ovf
  inf : InfOut
  nanZero : Bool
  deriving DecidableEq, Repr

/-- Table 04-6, floating-point targets: the encoding and the flags of R125. -/
def convert (c : Conv) (rm : RM) (v : FV) : Nat × Nat :=
  match v with
  | .nan => if c.nanZero then (0, flInvalid) else (c.fmt.qnan, 0)
  | .inf s =>
    match c.inf with
    | .inf => (c.fmt.infE s, 0)
    | .maxFin => (c.fmt.maxFin s, flInexact)
    | .nan => (c.fmt.qnan, flInvalid)
  | .fin s m e => roundFin c.fmt c.ovf rm s m e

/-- Scale an exact value by a power of two. -/
def FV.scale (v : FV) (k : Int) : FV :=
  match v with
  | .fin s m e => .fin s m (e + k)
  | v => v

/-- floor(log2) of a nonzero magnitude. -/
def ilog2 (m : Nat) (e : Int) : Int := (Nat.log2 m : Int) + e

/-- The mixing function of R129. -/
def mix (z : Word) : Word :=
  let z := (z ^^^ (z >>> 33)) * 0x8F3A5C712E9B64D5#64
  let z := (z ^^^ (z >>> 29)) * 0x6C1E93B7A04F2D89#64
  z ^^^ (z >>> 32)
/-- The 32-bit draw of R129 for element `e`. -/
def srDraw (seed : Word) (group tid e n : Nat) : Nat :=
  let w0 := w64 (group + tid * 2 ^ 32 + e * 2 ^ 40)
  (mix (mix (seed ^^^ w0) ^^^ w64 n) >>> 32).toNat

/-! Transcendentals: every operation is binary32, nearest even (R130). -/

/-- Binary32 result of nearest-even operations, flags dropped. -/
def nadd (a b : Nat) : Nat := (fadd rne a b).1
def nmul (a b : Nat) : Nat := (fmul rne a b).1
def nfma (a b c : Nat) : Nat := (ffma rne a b c).1
def ndiv (a b : Nat) : Nat := (fdiv rne a b).1
/-- Sign flip of an encoding. -/
def fneg (a : Nat) : Nat := a ^^^ 0x80000000
/-- The encoding of an integer. -/
def nOfInt (x : Int) : Nat := (intToF rne x).1

/-- scale(p, n): p·2^n rounded once (R130), with its flags. -/
def fscale (p : Nat) (n : Int) : Nat × Nat := pack32 rne ((fp32.decode p).scale n)
/-- rint of an encoding, ties to even, as an integer. -/
def rintI (a : Nat) : Int :=
  match fp32.decode a with
  | .fin s m e => (toInt rne s m e).1
  | _ => 0
/-- x ≥ y on encodings that are not NaN. -/
def fge (a b : Nat) : Bool := fcle b a

/-- VEXP (R131) and its flags (R134).  Constants are those of Table 04-8. -/
def vexp (x : Nat) : Nat × Nat :=
  match fp32.decode x with
  | .nan => (fp32.qnan, 0)
  | .inf s => (if s then 0 else fp32.infE false, 0)
  | .fin _ m _ =>
    if fge x 0x43000000 then (fp32.infE false, flOverflow ||| flInexact)
    else if fge 0xC3000000 x then (0, flUnderflow ||| flInexact)
    else
      let n := rintI (nmul x 0x3FB8AA3B)
      let nn := nOfInt (-n)
      let r := nfma nn 0x3F317200 x
      let r := nfma nn 0x35BFBE8E r
      let p := nfma 0x3AB60B61 r 0x3C088889
      let p := nfma p r 0x3D2AAAAB
      let p := nfma p r 0x3E2AAAAB
      let p := nfma p r 0x3F000000
      let p := nfma p r 0x3F800000
      let p := nfma p r 0x3F800000
      let y := fscale p n
      (y.1, if y.1 = fp32.infE false then flOverflow else y.2 ||| (if m = 0 then 0 else flInexact))

/-- split(x): x = m·2^e with 1 ≤ m < 2 (R131), m as an encoding. -/
def fsplit (m : Nat) (e : Int) : Nat × Int :=
  let l := Nat.log2 m
  ((roundFin fp32 .ieee rne false m (-(l : Int))).1, e + l)

/-- VLOG (R131) and its flags (R134). -/
def vlog (x : Nat) : Nat × Nat :=
  match fp32.decode x with
  | .nan => (fp32.qnan, 0)
  | .inf s => if s then (fp32.qnan, flInvalid) else (fp32.infE false, 0)
  | .fin s m e =>
    if m = 0 then (fp32.infE true, flDivZero)
    else if s then (fp32.qnan, flInvalid)
    else
      let me := fsplit m e
      let big := fclt 0x3FB504F3 me.1
      let mm := if big then nmul me.1 0x3F000000 else me.1
      let ee := if big then me.2 + 1 else me.2
      let f := nadd mm 0xBF800000
      let sq := ndiv f (nadd 0x40000000 f)
      let z := nmul sq sq
      let q := nfma z 0x3E638E39 0x3E924925
      let q := nfma q z 0x3ECCCCCD
      let q := nfma q z 0x3F2AAAAB
      let t := nmul (nmul sq z) q
      let fe := nOfInt ee
      let y := nfma fe 0x35BFBE8E t
      let y := nadd y (nadd sq sq)
      let r := ffma rne fe 0x3F317200 y
      (r.1, (r.2 &&& (flOverflow ||| flUnderflow)) ||| (if x = 0x3F800000 then 0 else flInexact))

/-- VRCP: 1.0 / x (R132). -/
def vrcp (x : Nat) : Nat × Nat := fdiv rne 0x3F800000 x

/-- VRSQ (R132): square root, then division, both IEEE 754. -/
def vrsq (x : Nat) : Nat × Nat :=
  match fp32.decode x with
  | .nan => (fp32.qnan, 0)
  | .inf true => (fp32.qnan, flInvalid)
  | .fin true (_ + 1) _ => (fp32.qnan, flInvalid)
  | _ =>
    let r := fsqrt rne x
    let d := fdiv rne 0x3F800000 r.1
    (d.1, r.2 ||| d.2)

/-- VTANH (R133) and its flags (R134). -/
def vtanh (x : Nat) : Nat × Nat :=
  match fp32.decode x with
  | .nan => (fp32.qnan, 0)
  | .inf s => (if s then 0xBF800000 else 0x3F800000, 0)
  | .fin s _ _ =>
    let a := x % 2 ^ 31
    let r : Nat × Nat :=
      if fge a 0x41120000 then (0x3F800000, flInexact)
      else if fclt a 0x39800000 then (a, 0)
      else if fclt a 0x3E800000 then
        let z := nmul a a
        let q := nfma z 0xBC11371A 0x3CB327A4
        let q := nfma q z 0xBD5D0DD1
        let q := nfma q z 0x3E088889
        let q := nfma q z 0xBEAAAAAB
        (nfma (nmul a z) q a, flInexact)
      else
        let t := (vexp (nadd a a)).1
        ((fsub rne 0x3F800000 (ndiv 0x40000000 (nadd t 0x3F800000))).1, flInexact)
    (if s then fneg r.1 else r.1, r.2)

end Sys2Proof.Machine
end

