-- ==== Sys2Proof/Machine/Remote.lean ====
section
/-! DEFINITION. Guelyo at message level: planes, requests of this package and their answers, requests of
others and their checks (R292, R295 to R310), and how an outstanding operation of a thread ends. -/

namespace Sys2Proof.Machine

/-! ### Planes (R299 to R302) -/

/-- Exclusive or of a number's four nibbles (R300). -/
def foldNib (x : Nat) : Nat := (bits x 3 0) ^^^ (bits x 7 4) ^^^ (bits x 11 8) ^^^ (bits x 15 12)
/-- First plane tried for a pair (R300). -/
def firstPlane (s d : Nat) : Nat := (foldNib s + 3 * foldNib d) % 16
/-- A plane is attached and up at both ends (R300). -/
def State.planeUsable (s : State) (n dest : Nat) : Bool :=
  let k := s.link n
  k.st == 3 && (match k.partner with | some h => h.role == 2 | none => false) &&
    ((s.gly.ports.getD (n * 64 + dest % 64) (0, 0, 0)).1 == 1)
/-- The direct link to a port, when there is one (R302). -/
def State.directLink (s : State) (dest : Nat) : Option Nat :=
  leastBelow 16 (fun n => (s.link n).st == 3 && (match (s.link n).partner with
    | some h => (h.role == 0 || h.role == 1) && h.pod.toNat * 64 + h.port.toNat == dest
    | none => false))
/-- The plane of a pair; none when the destination is unreachable (R300, R302). -/
def State.planeTo (s : State) (dest : Nat) : Option Nat :=
  match s.directLink dest with
  | some n => some n
  | none =>
    let f := firstPlane s.self dest
    ((List.range 16).map (fun i => (f + i) % 16)).find? (fun n => s.planeUsable n dest)

/-! ### Failing and completing a thread's operation (R95, R105, R108) -/

/-- Record a failure for the thread: reported by DWAIT, FENCE or END; a Draining thread takes it at once (R105). -/
def State.noteFail (s : State) (u t : Nat) (tag : Option Nat) (m : Mark) : State :=
  let th := s.thr u t
  match th.st with
  | .empty => s
  | .stopped => s
  | .draining => s.takeExc u t m.code m.detail
  | _ => s.setThr u t { th with fails := th.fails ++ [(tag, m)] }
/-- Value of a load of size code `sz` from its bytes (R82); RMT values are zero-extended. -/
def loadValue (sz x : Nat) : Word :=
  match sz with
  | 0 => w64 (x % 2 ^ 8)
  | 1 => w64 (x % 2 ^ 16)
  | 2 => w64 (x % 2 ^ 32)
  | 3 => w64 x
  | 4 => (BitVec.ofNat 8 x).signExtend 64
  | 5 => (BitVec.ofNat 16 x).signExtend 64
  | _ => (BitVec.ofNat 32 x).signExtend 64
/-- Bytes that a size code moves. -/
def szBytes (sz : Nat) : Nat := if sz = 7 then 64 else 2 ^ (if sz < 4 then sz else sz - 4)
/-- Merge the active bytes of a vector load under the Z rule (R69). -/
def mergeBytes (mask : Nat) (zero : Bool) (old new : Nat) : Nat :=
  lanesFrom 8 (fun i => if bitOf mask i then lane 8 new i else if zero then 0 else lane 8 old i) 0 64
/-- A load ends with its value, or with a mark on its destination, which keeps its old value (R41, R108); a refusal or
timeout into s0 waits for FENCE or END, and one of a Draining thread is its exception (R105).  Data that fail their parity
mark the destination as poisoned (R415). -/
def State.endLoad (s : State) (u t id : Nat) (x : Nat) (m : Option Mark) : State :=
  let th := s.thr u t
  match th.loads.find? (fun l => l.id = id) with
  | none => s
  | some l =>
    let bad := m.isNone && s.flawed (.unitData u)
    let m := if bad then some ⟨0x10, w64 l.addr⟩ else m
    let s := if bad then s.meet (.unitData u) (if l.sz = 7 then 3 else 2) else s
    let th := { th with loads := th.loads.filter (fun k => k.id ≠ id) }
    let dead := th.st == .stopped || th.st == .empty
    let th' : Thread :=
      match m, l.reg with
      | none, .s i => th.setS i (loadValue l.sz x)
      | none, .v i => th.setV i (BitVec.ofNat 512 (mergeBytes l.mask l.zero (th.gv i).toNat x))
      | none, .p _ => th
      | some k, r => if dead then th else th.setMark r k
    let s := s.setThr u t th'
    let s := match m with
      | some k => if k.code ≠ 0x10 ∧ (l.reg = Reg.s 0 ∨ th.st = TState.draining) then s.noteFail u t none k else s
      | none => s
    s.settle u
/-- A write-buffer entry ends, failed or performed (R82, R108). -/
def State.endWb (s : State) (u id : Nat) (m : Option Mark) : State :=
  let x := s.unt u
  match x.wb.find? (fun e => e.id = id) with
  | none => s
  | some e =>
    let s := s.setUnt u { x with wb := x.wb.filter (fun k => k.id ≠ id) }
    let s := match m with | some k => s.noteFail u e.slot none k | none => s
    s.settle u
/-- A DMA tag completes, failed or whole (R95). -/
def State.endDma (s : State) (u t tag : Nat) (m : Option Mark) : State :=
  let th := s.thr u t
  let s := s.setThr u t { th with dma := th.dma.setIfInBounds tag none }
  let s := match m with | some k => s.noteFail u t (some tag) k | none => s
  s.settle u
/-- One request part of a DMA ends; the tag completes with its last part, failed when any part failed (R95).  A post-area DMA
is performed with its last part, and its descriptors are consumed in that order (R277). -/
def State.endDmaPart (s : State) (u t tag : Nat) (m : Option Mark) : State :=
  let th := s.thr u t
  match th.dma.toList.getD tag none with
  | none => s
  | some d =>
    let d := { d with parts := d.parts - 1, failed := if d.failed.isSome then d.failed else m }
    if d.parts = 0 ∧ d.failed.isSome then s.endDma u t tag d.failed
    else
      let post := if d.parts = 0 then d.post.map (fun p => (p.1, s.nonce, p.2.2)) else d.post
      let s := s.setThr u t { th with dma := th.dma.setIfInBounds tag (some { d with
        done := d.phase == 2 && d.parts == 0
        post := post }) }
      if post.isSome then s.tick else s

/-- A hub write of a context was refused, lost or had no way out: a migration is to be given up; a strict scatter ends with
COLLECTIVE, any other kernel with the exception REMOTE (R202, R261, R300). -/
def State.hubLost (s : State) (c code : Nat) : State :=
  if 4096 ≤ c then
    { s with emb := { s.emb with tabs := s.emb.tabs.upd (c - 4096) (fun e =>
      { e with mig := e.mig.map (fun m => { m with phase := 3 }) }) } }
  else
    match s.emb.runs.find? c with
    | some r =>
      if 5 ≤ r.op ∧ s.strict (s.compOf c) = true then s.abortKernel c 4 none
      else s.abortKernel c 0 (some ⟨0x11, 0, 0, 0, w64 code⟩)
    | none => if (s.ctx c).kernel.isSome then s.abortKernel c 0 (some ⟨0x11, 0, 0, 0, w64 code⟩) else s
/-- A part of a thread's fetch from another package has come, or failed (R76). -/
def State.fetchGot (s : State) (u t id : Nat) (bad : Bool) : State :=
  s.updThr u t (fun th => { th with fetch := th.fetch.map (fun f =>
    if f.id = id then { f with parts := f.parts - 1, bad := f.bad || bad } else f) })
/-- A waiting reader of the peer cache, or a remote operation, ends without its data. -/
def State.failUse (s : State) (use : ReqUse) (m : Mark) : State :=
  match use with
  | .load u t id => s.endLoad u t id 0 (some m)
  | .wb u id => s.endWb u id (some m)
  | .dma u t tag _ => s.endDmaPart u t tag (some m)
  | .peer k =>
    match s.gly.peer.find? k with
    | none => s
    | some p =>
      let s := { s with gly := { s.gly with peer := s.gly.peer.del k } }
      p.waiters.foldl (fun s w =>
        match w with
        | .load u t id => s.endLoad u t id 0 (some m)
        | .dma u t tag _ => s.endDmaPart u t tag (some m)
        | _ => s) s
  | .hub key => { s with gly := { s.gly with hub := s.gly.hub.upd key (fun r => { r with got := some ([], true) }) } }
  | .hubW c => s.hubLost c (m.detail.toNat)
  | .fetch u t id => s.fetchGot u t id true
  | .count c w => s.setFreed c w 0
  | .other => s

/-! ### Requests of this package (R297 to R310) -/

/-- Zero bytes after a body, up to a whole slot (R295). -/
def padSlots (b : List Byte) : List Byte := b ++ List.replicate ((16 - b.length % 16) % 16) 0
/-- The request header of an outgoing request, as its 32 bytes (Table 11-4). -/
def State.reqHeader (s : State) (r : OutReq) (epoch : Nat) : List Byte :=
  leBytes 32 (r.op + (if r.op = 0x50 then 3 * 2 ^ 8 else 0) + (b2n r.poison) * 2 ^ 11 + (b2n r.strict) * 2 ^ 12 + s.locator (r.unit) * 2 ^ 16 +
    (r.dest % 64) * 2 ^ 52 + (r.dest / 64) * 2 ^ 58 + r.comp * 2 ^ 68 + r.ctx * 2 ^ 88 + r.seg * 2 ^ 100 +
    r.off * 2 ^ 104 + r.len * 2 ^ 152 + r.tag * 2 ^ 165 + epoch * 2 ^ 181)
/-- How a pair stands. -/
def State.pair (s : State) (dest : Nat) : Pair := s.gly.pairs.getD dest ⟨16, false, 0, [], [], []⟩
/-- Change a pair. -/
def State.updPair (s : State) (dest : Nat) (f : Pair → Pair) : State :=
  { s with gly := { s.gly with pairs := s.gly.pairs.put dest (f (s.pair dest)) } }
/-- Requests outstanding to a destination. -/
def State.outstanding (s : State) (dest : Nat) : List OutReq := s.gly.reqs.vals.filter (fun r => r.dest = dest)
/-- Whether requests or snoops to a port are outstanding on a plane other than `pl` (R301). -/
def State.oldPlane (s : State) (dest pl : Nat) : Bool :=
  (s.outstanding dest).any (fun q => q.plane ≠ pl) ||
    s.home.txns.any (fun e => e.2.snoops.any (fun n => n.port == dest && n.again.isNone && n.plane ≠ pl))
/-- Whether no request or snoop of a die uses a tag, nor, on die 0, a grant whose GRANT_ACK may still come (R298, R317). -/
def State.tagFree (s : State) (die tag : Nat) : Bool :=
  !s.gly.reqs.has (die * 2 ^ 16 + tag) &&
    !s.home.txns.any (fun e => e.2.snoops.any (fun n => n.line / 2 ^ 32 == die && n.tag == tag)) &&
    (decide (die ≠ 0) || (!s.home.acks.any (fun a => a.2 == tag) &&
      !s.home.txns.any (fun e => match e.2.grant with | some (_, g, _) => g == tag | none => false)))
/-- Lowest free tag of a die, one whose response may still come late only when there is no other (R298). -/
def State.reqTag (s : State) (die : Nat) : Option Nat :=
  match leastBelow (2 ^ 16) (fun t => s.tagFree die t && !s.gly.timed.has (die * 2 ^ 16 + t)) with
  | some t => some t
  | none => leastBelow (2 ^ 16) (s.tagFree die)
/-- Send a request now on a plane, arming its timeout (R99). -/
def State.sendReq (s : State) (r : OutReq) (plane : Nat) : State :=
  match s.reqTag (r.unit / 2 ^ 17) with
  | none => s.updPair r.dest (fun p => { p with held := p.held ++ [r] })
  | some tag =>
    let r := { r with tag := tag, plane := plane, ord := s.nonce,
                      expiry := if r.tmo = 0 then none else some (s.count + r.tmo) }
    let bad := s.sendsBad plane r.data
    let r := { r with poison := r.poison || bad }
    let s := if bad then s.meet (.linkData plane) 0x0F else s
    let s := { s with gly := { s.gly with reqs := s.gly.reqs.put (r.unit / 2 ^ 17 * 2 ^ 16 + tag) r
                                          timed := s.gly.timed.del (r.unit / 2 ^ 17 * 2 ^ 16 + tag) } }.tick
    let epoch := if plane = 16 then s.gly.podEpoch.getD (r.dest / 64) 0 else s.map.epoch
    let bytes := s.reqHeader r epoch ++ padSlots r.data
    if plane = 16 then
      match s.gly.xpods.find? (fun x => x.dest = r.dest) with
      | some x => (s.qpSend x.qp 0 (.send none) .xpod bytes).getD s
      | none => s
    else s.linkPush plane (if r.op = 0x50 then 3 else 0) bytes
/-- MAX_QP, with the values that stand for 4,096 (GLY_XPOD_CFG). -/
def State.xpodMax (s : State) : Nat :=
  let m := s.fld rGLY_XPOD_CFG 15 3
  if m = 0 ∨ 4096 < m then 4096 else m
/-- A queue pair as the system creates it for inter-pod traffic: PMTU 4,096, PRIO of GLY_XPOD_CFG (R308, R310). -/
def State.xpodQp (s : State) : Qp :=
  { comp := 0, ctx := 0, d := BitVec.ofNat 512 (putField 22 1 5 + putField 21 1 (s.fld rGLY_XPOD_CFG 2 0 * 16)), err := false,
    sqPsn := 0, rqPsn := 0, unacked := [], retries := 0, rnrs := 0, timer := none, rate := 65536, lastCut := 0,
    lastCnp := none, reads := [] }
/-- Make an inter-pod queue pair usable for a destination, tearing down the one unused longest when all are taken; none
when every one has a request outstanding (R310). -/
def State.xpodFor (s : State) (dest : Nat) : Option State :=
  if s.gly.xpods.any (fun x => x.dest = dest) then
    some { s with gly := { s.gly with xpods := s.gly.xpods.map (fun x => if x.dest = dest then { x with used := s.count } else x) } }
  else
    let idle := s.gly.xpods.filter (fun x => (s.outstanding x.dest).isEmpty)
    let old := (sortBy (fun a b => decide (a.used ≤ b.used)) idle).head?
    let s' : Option State :=
      if s.gly.xpods.length < s.xpodMax then some s
      else old.map (fun o => { s with
        gly := { s.gly with xpods := s.gly.xpods.filter (fun x => x.dest ≠ o.dest) }, qps := s.qps.del o.qp })
    match s', leastBelow 16384 (fun q => !s.qps.has q) with
    | some s', some q =>
      some { s' with qps := s'.qps.put q s'.xpodQp, gly := { s'.gly with xpods := s'.gly.xpods ++ [⟨dest, q, s.count⟩] } }
    | _, _ => none
/-- Issue a request: sent, held for its pair, or ended at once as UNREACHABLE or BEYOND_POD (R300, R301, R305, R309). -/
def State.request (s : State) (r : OutReq) : State :=
  if r.dest / 64 ≠ s.pod then
    if 0x20 ≤ r.op ∧ r.op ≤ 0x31 then s.failUse r.use ⟨0x11, 0x0A⟩
    else if (s.pair r.dest).stopped then s.updPair r.dest (fun p => { p with held := p.held ++ [r] })
    else
      match s.xpodFor r.dest with
      | some s' => s'.sendReq r 16
      | none => s.updPair r.dest (fun p => { p with held := p.held ++ [r] })
  else
    match s.planeTo r.dest with
    | none => s.failUse r.use ⟨0x11, 0x0B⟩
    | some pl =>
      let p := s.pair r.dest
      if p.stopped || !p.held.isEmpty then s.updPair r.dest (fun p => { p with held := p.held ++ [r] })
      else if p.plane ≠ pl ∧ s.oldPlane r.dest pl = true then
        s.updPair r.dest (fun p => { p with stopped := true, held := p.held ++ [r] })
      else (s.updPair r.dest (fun p => { p with plane := pl })).sendReq r pl

/-- Hold a message that has no tag until its pair may go on. -/
def State.msgHold (s : State) (dest vc : Nat) (bytes : List Byte) : State :=
  s.updPair dest (fun p => { p with msgs := p.msgs ++ [⟨vc, bytes⟩] })
/-- Send bytes to a package of another pod on the queue pair of the two, set up on first use; they wait while every queue pair
has a request outstanding (R308, R310). -/
def State.xpodSend (s : State) (dest vc : Nat) (bytes : List Byte) : State :=
  match if (s.pair dest).msgs.isEmpty then s.xpodFor dest else none with
  | none => s.msgHold dest vc bytes
  | some s' =>
    match s'.gly.xpods.find? (fun x => x.dest = dest) with
    | some x => (s'.qpSend x.qp 0 (.send none) .xpod bytes).getD s'
    | none => s'
/-- Send a message that begins at this package, on its pair's plane or queue pair: it waits while the pair is stopped or has
requests or snoops outstanding on another plane, and is lost when no plane reaches its port (R300, R301, R308). -/
def State.pairSend (s : State) (dest vc : Nat) (bytes : List Byte) : State :=
  if dest / 64 ≠ s.pod then s.xpodSend dest vc bytes
  else
    match s.planeTo dest with
    | none => s
    | some pl =>
      let p := s.pair dest
      if p.stopped || !p.msgs.isEmpty then s.msgHold dest vc bytes
      else if p.plane ≠ pl ∧ s.oldPlane dest pl = true then
        (s.updPair dest (fun p => { p with stopped := true })).msgHold dest vc bytes
      else (s.updPair dest (fun p => { p with plane := pl })).linkPush pl vc bytes
/-- A request of a unit, before it has a tag. -/
def State.mkReq (s : State) (op dest u : Nat) (c addr len : Nat) (data : List Byte) (tmo : Nat) (use : ReqUse) : OutReq :=
  { op := op, dest := dest, unit := u, tag := 0, comp := s.compOf c, ctx := c, seg := addr / 2 ^ 60 % 16,
    off := addr % 2 ^ 60, len := len, data := data, poison := false, strict := s.strict (s.compOf c), tmo := tmo,
    expiry := none, plane := 0, ord := 0, use := use }

/-! ### Memory operations of Table 03-11 -/

/-- Memory after an RMT operation and the old value: `n` bytes wide (Table 03-11). -/
def rmtApply (aop n old b c : Nat) : Nat :=
  let w := 8 * n
  let old := old % 2 ^ w; let b := b % 2 ^ w; let c := c % 2 ^ w
  match aop with
  | 0x01 => b
  | 0x02 => (old + b) % 2 ^ w
  | 0x03 => (fadd rne old b).1
  | 0x04 => old &&& b
  | 0x05 => old ||| b
  | 0x06 => old ^^^ b
  | 0x07 => if toS w old ≤ toS w b then old else b
  | 0x08 => if toS w old ≤ toS w b then b else old
  | 0x09 => min old b
  | 0x0A => max old b
  | 0x0B => b
  | 0x0C => if old = c then b else old
  | _ => old

end Sys2Proof.Machine
end

