-- ==== Sys2Proof/Machine/Perform.lean ====
section
/-! DEFINITION. Performing reads, writes and atomics at the memory that holds the bytes: extents cut into pieces, the
exact sums and held operations of strict mode, and the last-source table of counted mode (R135, R150, R406 to R411). -/

namespace Sys2Proof.Machine

/-! ### Extents (R156, R197) -/

/-- The backing offset of a program address: what the placement of Table 06-2 is applied to. -/
def State.backing (s : State) (c addr : Nat) : Nat :=
  match s.rootOf c addr with
  | none => addr
  | some (oc, og, o) => match s.seg? oc og with | some g => g.base + o | none => addr
/-- An extent cut where its place can change (4 KiB of the backing): address, place and bytes of each piece. -/
def State.pieces (s : State) (c : Nat) : (fuel addr n : Nat) → List (Nat × Loc × Nat)
  | 0, _, _ => []
  | f + 1, addr, n =>
    if n = 0 then []
    else
      let k := min n (4096 - s.backing c addr % 4096)
      (addr, s.translate c addr, k) :: s.pieces c f (addr + k) (n - k)
/-- The pieces of an extent. -/
def State.extent (s : State) (c addr n : Nat) : List (Nat × Loc × Nat) := s.pieces c (n / 4096 + 2) addr n
/-- Whether any Larder line of an extent is poisoned. -/
def State.linesPoison (s : State) (key n : Nat) : Bool := (linesOf key n).any (fun l => s.linePoison (64 * l))
/-- Packages other than this one that hold a part of an extent. -/
def State.extentRemote (s : State) (c addr n : Nat) : List Nat :=
  (s.extent c addr n).filterMap (fun p => match p.2.1 with | .remote k => some k | _ => none)
/-- Cellar sectors of an extent. -/
def State.extentSectors (s : State) (c addr n : Nat) : List (Nat × Nat) :=
  (s.extent c addr n).flatMap (fun p => match p.2.1 with
    | .cellar e b => (sectorSpan b p.2.2).map (fun q => (e, q))
    | _ => [])
/-- Whether every Cellar sector of an extent has been fetched. -/
def State.sectorsHere (s : State) (c addr n : Nat) : Bool :=
  (s.extentSectors c addr n).all (fun q => s.celHere q.1 q.2)
/-- Fetch every Cellar sector of an extent (R174). -/
def State.sectorsWant (s : State) (c addr n : Nat) : State :=
  (s.extentSectors c addr n).foldl (fun s q => s.celWant q.1 q.2) s
/-- Let go of every Cellar sector of an extent. -/
def State.sectorsDrop (s : State) (c addr n : Nat) : State :=
  (s.extentSectors c addr n).foldl (fun s q => s.celDrop q.1 q.2) s
/-- Key of a hub read of another package's bytes: context, program address, length. -/
def hubKey (c addr n : Nat) : Nat := (c * 2 ^ 64 + addr) * 2 ^ 13 + n
/-- Pieces of an extent that other packages hold: package, program address, bytes. -/
def State.hubParts (s : State) (c addr n : Nat) : List (Nat × Nat × Nat) :=
  (s.extent c addr n).filterMap (fun p => match p.2.1 with | .remote k => some (k, p.1, p.2.2) | _ => none)
/-- The hub begins to read an extent: its Cellar sectors (R174), and RD requests for what other packages hold. -/
def State.hubWant (s : State) (c addr n : Nat) : State :=
  (s.hubParts c addr n).foldl (fun s p =>
    let k := hubKey c p.2.1 p.2.2
    match s.gly.hub.find? k with
    | some r => { s with gly := { s.gly with hub := s.gly.hub.put k { r with waiters := r.waiters + 1 } } }
    | none =>
      let s := { s with gly := { s.gly with hub := s.gly.hub.put k ⟨1, none⟩ } }
      s.request (s.mkReq 0x01 p.1 0 c p.2.1 p.2.2 [] 0 (.hub k))) (s.sectorsWant c addr n)
/-- Whether everything the hub reads of an extent has come. -/
def State.hubHere (s : State) (c addr n : Nat) : Bool :=
  s.sectorsHere c addr n &&
    (s.hubParts c addr n).all (fun p => match s.gly.hub.find? (hubKey c p.2.1 p.2.2) with
      | some r => r.got.isSome | none => false)
/-- The hub lets go of an extent it has read. -/
def State.hubDrop (s : State) (c addr n : Nat) : State :=
  (s.hubParts c addr n).foldl (fun s p =>
    let k := hubKey c p.2.1 p.2.2
    match s.gly.hub.find? k with
    | some r =>
      { s with gly := { s.gly with hub := if r.waiters ≤ 1 then s.gly.hub.del k
                                          else s.gly.hub.put k { r with waiters := r.waiters - 1 } } }
    | none => s) (s.sectorsDrop c addr n)
/-- Bytes of another package that the hub has fetched, as a part of a piece it read whole. -/
def State.hubGot (s : State) (c addr n : Nat) : Option (List Byte × Bool) :=
  s.gly.hub.findSome? (fun e =>
    let a := e.1 / 2 ^ 13 % 2 ^ 64
    match e.2.got with
    | some g => if e.1 / 2 ^ 77 = c ∧ a ≤ addr ∧ addr + n ≤ a + e.1 % 2 ^ 13 then some ((g.1.drop (addr - a)).take n, g.2) else none
    | none => none)
/-- Bytes of one piece, cut at lines, each with whether it is poisoned. -/
def State.pieceRead (s : State) (c : Nat) (p : Nat × Loc × Nat) : List (List Byte × Bool) :=
  match p.2.1 with
  | .larder key =>
    (chunks 64 (p.2.2 + 1) key (s.larderRead key p.2.2)).map (fun x => (x.2, s.linePoison x.1))
  | .cellar e b =>
    match s.celBytes e b p.2.2 with
    | some bs => [(bs, false)]
    | none => [(List.replicate p.2.2 0, true)]
  | .remote _ =>
    match s.hubGot c p.1 p.2.2 with
    | some (bs, bad) => [(bs ++ List.replicate (p.2.2 - bs.length) 0, bad)]
    | none => [(List.replicate p.2.2 0, false)]
  | .nowhere => [(List.replicate p.2.2 0, false)]
/-- The bytes of an extent at their homes, cut at lines, each with whether it is poisoned. -/
def State.memChunks (s : State) (c addr n : Nat) : List (List Byte × Bool) :=
  (s.extent c addr n).flatMap (s.pieceRead c)
/-- The bytes of an extent and whether any of them is poisoned. -/
def State.memRead (s : State) (c addr n : Nat) : List Byte × Bool :=
  let cs := s.memChunks c addr n
  ((cs.map Prod.fst).flatten, cs.any Prod.snd)
/-- Count the line accesses of a read (R165) and the poisoned lines it met, and find the errors of its lines (R160). -/
def State.noteRead (s : State) (c addr n : Nat) (oper : Nat := 0) : State :=
  (s.extent c addr n).foldl (fun s p => match p.2.1 with
    | .larder key => (linesOf key p.2.2).foldl (fun s l =>
        let bad := s.linePoison (64 * l)
        let s := (s.countLine (64 * l)).lineMeet l oper
        if bad then s.notePoisonRead (64 * l) else s) s
    | _ => s) s
/-- Write the bytes of an extent at their homes (R135); bytes with no Larder page here are not held. -/
def State.memWrite (s : State) (c addr : Nat) (bs : List Byte) (poison : Bool) : State :=
  ((s.extent c addr bs.length).foldl (fun (x : State × List Byte) p =>
    (match p.2.1 with
     | .larder key => x.1.larderWrite key (x.2.take p.2.2) poison
     | _ => x.1, x.2.drop p.2.2)) (s, bs)).1
/-- The hub writes an extent: at home here, and by WR requests what other packages hold. -/
def State.hubWrite (s : State) (c addr : Nat) (bs : List Byte) : State :=
  (s.hubParts c addr bs.length).foldl (fun s p =>
    s.request (s.mkReq 0x02 p.1 0 c p.2.1 p.2.2 ((bs.drop (p.2.1 - addr)).take p.2.2) 0 (.hubW c)))
    (s.memWrite c addr bs false)
/-- Whether hub writes for a context are still open. -/
def State.hubWrites (s : State) (c : Nat) : Bool :=
  s.gly.reqs.any (fun r => r.2.use == .hubW c) ||
  s.gly.pairs.any (fun p => p.2.held.any (fun r => r.use == .hubW c) || p.2.refused.any (fun r => r.1.use == .hubW c))
/-- Write chunks, each with its own poison, upward from an address (R95). -/
def State.memWriteChunks (s : State) (c addr : Nat) (cs : List (List Byte × Bool)) : State :=
  (cs.foldl (fun (x : State × Nat) k => (x.1.memWrite c x.2 k.1 k.2, x.2 + k.1.length)) (s, addr)).1
/-- The Larder key of a program address, when a Larder page of this package holds it. -/
def State.keyOf (s : State) (c addr : Nat) : Option Nat :=
  match s.translate c addr with | .larder k => some k | _ => none

/-! ### Timing-dependent operations (R406 to R411) -/

/-- Exact value of a binary32 encoding in units of 2^-149; none when it is not finite. -/
def exactOf (x : Nat) : Option Int :=
  match fp32.decode x with
  | .fin s m e => some ((if s then -1 else 1) * (m * 2 ^ (e + 149).toNat : Nat))
  | _ => none
/-- Add one operand to an exact sum (R407). -/
def Exact.addOp (e : Exact) (x : Nat) : Exact :=
  let e := { e with negz := e.negz && decide (x = 0x80000000) }
  match fp32.decode x with
  | .nan => { e with nan := true }
  | .inf s => if s then { e with ninf := true } else { e with pinf := true }
  | .fin _ _ _ => { e with sum := e.sum + (exactOf x).getD 0 }
/-- R(sum): the binary32 value that an exact sum writes (R407). -/
def Exact.value (e : Exact) : Nat :=
  if e.nan ∨ (e.pinf ∧ e.ninf) then fp32.qnan
  else if e.pinf then fp32.infE false
  else if e.ninf then fp32.infE true
  else if e.sum = 0 then (if e.negz then 0x80000000 else 0)
  else (roundFin fp32 .ieee rne (decide (e.sum < 0)) e.sum.natAbs (-149)).1
/-- An exact sum that starts from a word's value (R407). -/
def Exact.start (comp x : Nat) : Exact :=
  Exact.addOp ⟨comp, 0, false, false, false, true⟩ x
/-- Exact sums of a composition on a die. -/
def State.exactCount (s : State) (die comp : Nat) : Nat :=
  (s.repro.exact.filter (fun e => decide (e.1 / 2 ^ 38 = die) && e.2.comp == comp)).length
/-- Whether a strict AFADD at a word can proceed: it has an entry, or its composition can take one (R408). -/
def State.exactRoom (s : State) (key comp : Nat) : Bool :=
  s.repro.exact.has key || decide (s.exactCount (key / 2 ^ 38) comp < 1024)
/-- Perform a strict AFADD at a word (R407).  A poisoned line loses the write as any partial write does (R161). -/
def State.exactAdd (s : State) (key comp x : Nat) : State :=
  let e := (s.repro.exact.getD key (Exact.start comp (leNat (s.larderRead key 4)))).addOp x
  let bad := s.linePoison key
  let s := s.larderLine key (leBytes 4 e.value) false
  if bad then s else { s with repro := { s.repro with exact := s.repro.exact.put key e } }
/-- Set of the last-source table (R411). -/
def srcSet (w c : Nat) : Nat := (bits w 15 3) ^^^ (bits w 28 16) ^^^ (bits w 37 29) ^^^ c
/-- Count one choice in a context; the counter stops at its end (R410). -/
def State.choice (s : State) (c : Nat) : State :=
  s.wr rREPRO_CHOICES c 0 (min (s.rd rREPRO_CHOICES c + 1) (2 ^ 64 - 1))
/-- Enter a counted-mode operation in the last-source table, counting a choice where R411 has one. -/
def State.noteSource (s : State) (key c src : Nat) : State :=
  let w := key % 2 ^ 38
  let k := key / 2 ^ 38 * 8192 + srcSet w c
  let ways := s.repro.lastSrc.getD k []
  let hit := ways.find? (fun e => e.1 = c ∧ e.2.1 = w / 4)
  let s := match hit with
    | some e => if e.2.2 ≠ src then s.choice c else s
    | none => if s.repro.lossy.contains c then s.choice c else s
  let rest := ways.filter (fun e => ¬ (e.1 = c ∧ e.2.1 = w / 4))
  let (rest, gone) := if rest.length < 8 then (rest, []) else (rest.take 7, rest.drop 7)
  let s := gone.foldl (fun s e =>
    ({ s with repro := { s.repro with lossy := s.repro.lossy.add e.1 } }).inc rREPRO_LOSSY 31 0) s
  { s with repro := { s.repro with lastSrc := s.repro.lastSrc.put k ((c, w / 4, src) :: rest) } }
/-- Perform an operation of Table 03-11 at a word now: the old bytes' value, whether it was poisoned, and the state. -/
def State.atomicNow (s : State) (key n aop b cc : Nat) : Nat × Bool × State :=
  let old := leNat (s.larderRead key n)
  let bad := s.linePoison key
  if aop = 0 then
    let s := (s.countLine key).lineMeet (key / 64) 7
    (old, bad, if bad then s.notePoisonRead key else s)
  else (old, bad, s.larderLine key (leBytes n (rmtApply aop n old b cc)) false)
/-- How an atomic ended: done with the old value and its poison, or held for a round or an exact sum. -/
inductive Atomic where
  | done (old : Nat) (poison : Bool)
  | held
  deriving DecidableEq, Repr
/-- An operation of Table 03-11 reaches the home of its word (R150, R406). -/
def State.atomicAt (s : State) (key n aop b cc comp c srcId : Nat) (src : List Nat) (strict : Bool) (ans : Answer) :
    Atomic × State :=
  let h : HeldOp := { comp := comp, src := src, key := key, n := n, aop := aop, b := b, c := cc, ans := ans }
  if aop = 3 ∧ strict then
    if s.exactRoom key comp then (.done 0 false, s.exactAdd key comp b)
    else (.held, ({ s with repro := { s.repro with waits := s.repro.waits ++ [h] } }).inc rREPRO_EXACT_WAIT 31 0)
  else if (aop = 0x0B ∨ aop = 0x0C) ∧ strict then
    (.held, { s with repro := { s.repro with held := s.repro.held ++ [h] } })
  else
    let s := if aop = 3 ∨ aop = 0x0B ∨ aop = 0x0C then s.noteSource key c srcId else s
    let r := s.atomicNow key n aop b cc
    (.done r.1 r.2.1, r.2.2)

end Sys2Proof.Machine
end

