-- ==== Sys2Proof/Machine/Local.lean ====
section
/-! DEFINITION. How a write-buffer entry, a load and a DMA transfer of this package are performed, at home or by requests
to another package (R82, R95 to R98, R135, R136). -/

namespace Sys2Proof.Machine

/-! ### Sources and order (R98, R148, R409) -/

/-- Number of a source, a unit locator and thread slot (R406). -/
def State.srcNum (s : State) (u t : Nat) : Nat := s.locator u * 8 + t
/-- Source key of R409: stripe index of this package, context, group, thread, issue order. -/
def State.srcKey (s : State) (u t id : Nat) : List Nat :=
  let th := s.thr u t
  let l := s.stripe (s.compOf th.ctx)
  [l.findIdx (· == s.self), th.ctx, th.group, th.tid, id]
/-- Whether a load is an operation that also writes: AXCHG or ACAS. -/
def Load.writes (l : Load) : Bool := match l.rmt with | some (aop, _, _) => aop != 0 | none => false
/-- Whether an earlier write of the thread to one of the packages is still open (R98, R148). -/
def Unt.earlierWrite (x : Unt) (t id : Nat) (ds : List Nat) : Bool :=
  x.wb.any (fun e => e.slot == t && ds.contains e.dest && decide (e.id < id) && !e.done) ||
  (x.thr t).loads.any (fun l => l.writes && ds.contains l.dest && decide (l.id < id)) ||
  (x.thr t).dma.toList.any (fun d => match d with
    | some d => d.dest.any ds.contains && decide (d.id < id) && !d.done
    | none => false)
/-- Whether an earlier write of the thread to one of the other packages has not been sent there; later ones wait behind it
(R98, R148). -/
def Unt.unsent (x : Unt) (self t id : Nat) (ds : List Nat) : Bool :=
  let far (k : Nat) : Bool := k != self && ds.contains k
  x.wb.any (fun e => e.slot == t && far e.dest && decide (e.id < id) && !e.sent) ||
  (x.thr t).loads.any (fun l => l.writes && far l.dest && decide (l.id < id) && !l.sent) ||
  (x.thr t).dma.toList.any (fun d => match d with
    | some d => d.dest.any far && decide (d.id < id ∧ d.phase < 2)
    | none => false)

/-! ### Write-buffer entries (R82, R96, R136) -/

/-- Bits of a byte mask that cover `n` bytes. -/
def fullMask (n : Nat) : Nat := 2 ^ n - 1
/-- Write the masked bytes of a store at its home and in the region's copy (R136). -/
def State.storeAt (s : State) (u key : Nat) (e : WbEntry) : State :=
  let line := key / 64
  let sh := key % 64
  let mask := e.mask <<< sh
  let data := e.data <<< (8 * sh)
  let s := s.larderMask line mask data false
  match s.cached? (rgnOf u) line with
  | some v => s.cachePut (rgnOf u) line (mergeBytes mask false v data)
  | none => s
/-- Perform an entry of the write buffer at its home in this package; it then completes, unless the home holds it. -/
def State.wbPerform (s : State) (u id : Nat) : State :=
  match (s.unt u).wb.find? (fun e => e.id = id) with
  | none => s
  | some e =>
    let th := s.thr u e.slot
    match s.keyOf th.ctx e.addr with
    | none => s.endWb u id none
    | some key =>
      match e.rmt with
      | none => (s.storeAt u key e).endWb u id none
      | some (aop, b, cc) =>
        let comp := s.compOf th.ctx
        let r := s.atomicAt key (szBytes e.sz) aop b.toNat cc.toNat comp th.ctx (s.srcNum u e.slot)
          (s.srcKey u e.slot id) (s.strict comp) (.wb u id)
        match r.1 with
        | .done _ _ => r.2.endWb u id none
        | .held => r.2.updUnt u (fun x => { x with
            wb := x.wb.map (fun k => if k.id = id then { k with remote := true } else k) })

/-- Perform a value-returning RMT of this package at its home (R97); a held one returns later (R409). -/
def State.rmtPerform (s : State) (u t id : Nat) : State :=
  let th := s.thr u t
  match th.loads.find? (fun l => l.id = id) with
  | none => s
  | some l =>
    match l.rmt, s.keyOf th.ctx l.addr with
    | some (aop, b, cc), some key =>
      let comp := s.compOf th.ctx
      let r := s.atomicAt key (szBytes l.sz) aop b.toNat cc.toNat comp th.ctx (s.srcNum u t) (s.srcKey u t id)
        (s.strict comp) (.load u t id)
      match r.1 with
      | .done old bad => r.2.endLoad u t id old (if bad then some ⟨0x10, w64 l.addr⟩ else none)
      | .held => r.2.updThr u t (fun th => { th with
          loads := th.loads.map (fun k => if k.id = id then { k with remote := true } else k) })
    | some _, none =>
      match s.translate th.ctx l.addr with
      | .cellar e b =>
        let got := s.celBytes e b (szBytes l.sz)
        (s.sectorsDrop th.ctx l.addr (szBytes l.sz)).endLoad u t id (leNat (got.getD []))
          (if got.isNone then some ⟨0x10, w64 l.addr⟩ else none)
      | _ => s.endLoad u t id 0 none
    | none, _ => s.endLoad u t id 0 none

/-! ### DMA (R93 to R95) -/

/-- Bytes of a Shelf extent, cut at rows, each with whether its row is poisoned. -/
def State.shelfChunks (s : State) (u off n : Nat) : List (List Byte × Bool) :=
  (chunks 64 (n + 1) off (s.shelfRead u off n)).map (fun x => (x.2, s.rowsPoison u x.1 x.2.length))
/-- Write chunks, each with its own poison, into a Shelf (R95). -/
def State.shelfWriteChunks (s : State) (u off : Nat) (cs : List (List Byte × Bool)) : State :=
  (cs.foldl (fun (x : State × Nat) k => (x.1.shelfWrite u x.2 k.1 k.2, x.2 + k.1.length)) (s, off)).1
/-- Rows and lines of a destination that receive a poisoned byte (R95). -/
def poisonedUnits (a : Nat) (cs : List (List Byte × Bool)) : List Nat :=
  (cs.foldl (fun (x : List Nat × Nat) k =>
    (if k.2 then x.1 ++ (linesOf x.2 k.1.length) else x.1, x.2 + k.1.length)) ([], a)).1
/-- Chunks cut anew at the rows or lines of their destination, each written in one step (R138); one that receives a
poisoned byte is poisoned whole (R95). -/
def regroup (a : Nat) (cs : List (List Byte × Bool)) : List (List Byte × Bool) :=
  let bs := cs.flatMap Prod.fst
  let bad := poisonedUnits a cs
  (chunks 64 (bs.length + 1) a bs).map (fun x => (x.2, bad.contains (x.1 / 64)))
/-- Write a DMA's bytes into a Shelf (R95, R138). -/
def State.dmaToShelf (s : State) (u off : Nat) (cs : List (List Byte × Bool)) : State :=
  s.shelfWriteChunks u off (regroup off cs)
/-- Write a DMA's bytes at program addresses (R95); a segment's base is 2 MiB-aligned, so lines of addresses are lines. -/
def State.dmaToMem (s : State) (c addr : Nat) (cs : List (List Byte × Bool)) : State :=
  s.memWriteChunks c addr (regroup addr cs)
/-- Pieces of one end of a DMA (Table of R93): the other package that holds it or none, offset in the transfer, bytes. -/
def State.dmaPieces (s : State) (c sp a n : Nat) (sn : Word) : List (Option Nat × Nat × Nat) :=
  let pk := bits sn.toNat 35 20
  if sp = 0 ∨ n = 0 then [(none, 0, n)]
  else if sp = 2 ∨ (sp = 3 ∧ pk ≠ s.self) then [(if pk = s.self then none else some pk, 0, n)]
  else (s.extent c a n).map (fun p => (match p.2.1 with | .remote k => some k | _ => none, p.1 - a, p.2.2))
/-- Whether any piece lies in another package. -/
def anyRemote (ps : List (Option Nat × Nat × Nat)) : Bool := ps.any (fun p => p.1.isSome)
/-- Chunks of a local piece of one end of a DMA. -/
def State.dmaRead (s : State) (u c sp a n : Nat) (sn : Word) : List (List Byte × Bool) :=
  match sp with
  | 0 => s.shelfChunks u a n
  | 2 => s.shelfChunks (bits sn.toNat 19 0) a n
  | _ => s.memChunks c a n
/-- Write chunks at a local piece of a DMA's destination. -/
def State.dmaWrite (s : State) (u c sp a : Nat) (sn : Word) (cs : List (List Byte × Bool)) : State :=
  match sp with
  | 0 => s.dmaToShelf u a cs
  | 2 => s.dmaToShelf (bits sn.toNat 19 0) a cs
  | _ => s.dmaToMem c a cs
/-- The chunks of bytes `[o, o + n)` of a transfer. -/
def sliceChunks (cs : List (List Byte × Bool)) (o n : Nat) : List (List Byte × Bool) :=
  (cs.foldl (fun (x : List (List Byte × Bool) × Nat) k =>
    let lo := max o x.2
    let hi := min (o + n) (x.2 + k.1.length)
    (if lo < hi then x.1 ++ [((k.1.drop (lo - x.2)).take (hi - lo), k.2)] else x.1, x.2 + k.1.length)) ([], 0)).1
/-- Split an extent at 4,096-byte boundaries of the destination offset (R298): offset within the transfer and length. -/
def splits4K : (fuel a done n : Nat) → List (Nat × Nat)
  | 0, _, _, _ => []
  | f + 1, a, done, n =>
    if n = 0 then [] else let k := min n (4096 - a % 4096); (done, k) :: splits4K f (a + k) (done + k) (n - k)
/-- Join runs of chunks with equal poison: offset, bytes, poison. -/
def joinRuns : (off : Nat) → List (List Byte × Bool) → List (Nat × List Byte × Bool)
  | _, [] => []
  | off, (b, p) :: cs =>
    match joinRuns (off + b.length) cs with
    | (o, b', p') :: rest => if p = p' then (off, b ++ b', p) :: rest else (off, b, p) :: (o, b', p') :: rest
    | [] => [(off, b, p)]
/-- Requests that a write run becomes: offset within the transfer, bytes and poison (R95, R298). -/
def writeParts (dst : Nat) (cs : List (List Byte × Bool)) : List (Nat × List Byte × Bool) :=
  (joinRuns 0 cs).flatMap (fun r =>
    (splits4K (r.2.1.length / 4096 + 2) (dst + r.1) 0 r.2.1.length).map (fun k =>
      (r.1 + k.1, (r.2.1.drop k.1).take k.2, r.2.2)))
/-- Offset field of a Shelf request: unit locator [19:0] and Shelf offset (R298). -/
def shelfOff (sn : Word) (off : Nat) : Nat := bits sn.toNat 19 0 * 2 ^ 14 + off
/-- Peer-cache lines of another home's segment that a write invalidates (R316). -/
def State.peerInvalidate (s : State) (dest c addr n : Nat) : State :=
  { s with gly := { s.gly with peer := s.gly.peer.filter (fun e =>
      !(e.2.st == 1 && e.2.dest == dest && e.2.ctx == c && e.2.seg == addr / 2 ^ 60 % 16 &&
        (linesOf (addr % 2 ^ 60) n).contains (e.2.off / 64))) } }
/-- Whether this package's peer cache serves reads of a segment of another package (R316). -/
def State.peerServes (s : State) (dest c addr : Nat) : Bool := s.gly.peerAt.contains (dest, c, addr / 2 ^ 60 % 16)
/-- Key under which the peer cache keeps a line: home, context, segment and line. -/
def peerKey (dest c addr : Nat) : Nat := ((dest * 2 ^ 12 + c) * 16 + addr / 2 ^ 60 % 16) * 2 ^ 54 + addr % 2 ^ 60 / 64
/-- Whether this package still holds its lease at a home (R330). -/
def State.leaseHeld (s : State) (dest : Nat) : Bool :=
  match s.gly.lease.find? dest with | some (d, _, a) => decide (s.count < a + d) | none => false
/-- Fetch a missing line by TAKE_SHARED (R316). -/
def State.peerFill (s : State) (dest c addr tmo : Nat) (use : ReqUse) : State × Option (Nat × Bool) :=
  let k := peerKey dest c addr
  let line := addr % 2 ^ 60 / 64 * 64
  let p : PeerLine := { st := 2, data := 0, poison := false, waiters := [use], ctx := c, seg := addr / 2 ^ 60 % 16,
                        comp := s.compOf c, dest := dest, off := line, retryAt := none, age := s.nonce }
  let s := { s with gly := { s.gly with peer := s.gly.peer.put k p } }.inc rGLY_PEER 63 32
  (s.request { s.mkReq 0x20 dest 0 c (addr / 2 ^ 60 * 2 ^ 60 + line) 64 [] tmo (.peer k) with
    strict := false }, none)
/-- A read of one peer-cache line: a hit, a wait for the fill under way, or a new TAKE_SHARED (R316, Table 12-4).
Answers the line when it hits. -/
def State.peerRead (s : State) (dest c addr tmo : Nat) (use : ReqUse) : State × Option (Nat × Bool) :=
  let k := peerKey dest c addr
  match s.gly.peer.find? k with
  | some p =>
    if p.st = 1 ∧ s.leaseHeld dest = true then (s.inc rGLY_PEER 31 0, some (p.data, p.poison))
    else if p.st = 1 then s.peerFill dest c addr tmo use
    else ({ s with gly := { s.gly with peer := s.gly.peer.put k { p with waiters := p.waiters ++ [use] } } }, none)
  | none => s.peerFill dest c addr tmo use
/-- Guelyo opcode of an RMT operation (R96). -/
def rmtOp (aop : Nat) : Nat := if aop = 0 then 0x01 else if aop = 1 then 0x02 else 0x10 + aop
/-- Operand bytes that follow the request header (Table 11-6). -/
def rmtBody (aop n : Nat) (b cc : Word) : List Byte :=
  if aop = 0 then [] else if aop = 0x0C then leBytes n cc.toNat ++ leBytes n b.toNat else leBytes n b.toNat
/-- Send a write-buffer entry to the package of its bytes: ST as WR, VST as PWR, an RMT under its own opcode (R82, R96). -/
def State.wbSend (s : State) (u id : Nat) : State :=
  match (s.unt u).wb.find? (fun e => e.id = id) with
  | none => s
  | some e =>
    let c := (s.thr u e.slot).ctx
    let s := s.updUnt u (fun x => { x with wb := x.wb.map (fun k => if k.id = id then { k with sent := true } else k) })
    let m : Nat × List Byte := match e.rmt with
      | some (aop, b, cc) => (rmtOp aop, rmtBody aop e.len b cc)
      | none => if e.sz = 7 then (0x03, leBytes 8 e.mask ++ leBytes 64 e.data) else (0x02, leBytes e.len e.data)
    if e.dest = s.self then s
    else (s.peerInvalidate e.dest c e.addr e.len).request (s.mkReq m.1 e.dest u c e.addr e.len m.2 e.tmo (.wb u id))
/-- Take a value-returning RMT: its sectors are fetched, the peer cache serves it, or it is sent (R96, R97, R316). -/
def State.rmtSend (s : State) (u t id : Nat) : State :=
  match (s.thr u t).loads.find? (fun l => l.id = id) with
  | none => s
  | some l =>
    let c := (s.thr u t).ctx
    let n := szBytes l.sz
    let s := s.updThr u t (fun th => { th with loads := th.loads.map (fun k => if k.id = id then { k with sent := true } else k) })
    match l.rmt with
    | none => s
    | some (aop, b, cc) =>
      if l.dest = s.self then s.sectorsWant c l.addr n
      else if aop = 0 ∧ s.peerServes l.dest c l.addr = true then
        let r := s.peerRead l.dest c l.addr l.tmo (.load u t id)
        match r.2 with
        | some (v, bad) =>
          r.1.endLoad u t id (bits v (8 * (l.addr % 64) + 8 * n - 1) (8 * (l.addr % 64)))
            (if bad then some ⟨0x10, w64 l.addr⟩ else none)
        | none => r.1
      else
        let s := if aop = 0 then s else s.peerInvalidate l.dest c l.addr n
        s.request (s.mkReq (rmtOp aop) l.dest u c l.addr n (rmtBody aop n b cc) l.tmo (.load u t id))
/-- Change a DMA transfer. -/
def State.updDma (s : State) (u t tag : Nat) (f : Dma → Dma) : State :=
  s.updThr u t (fun th => { th with dma := th.dma.setIfInBounds tag ((th.dma.toList.getD tag none).map f) })
/-- Keep the answer of a DMA's read part. -/
def State.dmaGot (s : State) (u t tag off : Nat) (bs : List Byte) (poison : Bool) : State :=
  (s.updDma u t tag (fun d => { d with got := d.got ++ [(off, bs, poison)] })).endDmaPart u t tag none
/-- Send the read requests of a DMA's remote source pieces (R93, R298), or serve them from the peer cache (R316). -/
def State.dmaReads (s : State) (u t tag : Nat) : State :=
  match (s.thr u t).dma.toList.getD tag none with
  | none => s
  | some d =>
    let c := (s.thr u t).ctx
    let ps := (s.dmaPieces c d.srcSp d.src d.len d.sn).flatMap (fun p => match p.1 with
      | none => []
      | some dest =>
        let a := d.src + p.2.1
        let cut := if d.srcSp ≠ 2 ∧ s.peerServes dest c a = true then
            (chunks 64 (p.2.2 + 1) a (List.replicate p.2.2 0)).map (fun x => (x.1 - a, x.2.length))
          else splits4K (p.2.2 / 4096 + 2) a 0 p.2.2
        cut.map (fun k => (dest, p.2.1 + k.1, k.2)))
    let s := s.updDma u t tag (fun d => { d with phase := 1, parts := ps.length })
    ps.foldl (fun s p =>
      let a := d.src + p.2.1
      let use := ReqUse.dma u t tag p.2.1
      if d.srcSp ≠ 2 ∧ s.peerServes p.1 c a = true then
        let r := s.peerRead p.1 c a d.tmo use
        match r.2 with
        | some (v, bad) => r.1.dmaGot u t tag p.2.1 (((leBytes 64 v).drop (a % 64)).take p.2.2) bad
        | none => r.1
      else if d.srcSp = 2 then
        s.request { s.mkReq 0x04 p.1 u c 0 p.2.2 [] d.tmo use with seg := 0, off := shelfOff d.sn a }
      else s.request (s.mkReq 0x01 p.1 u c a p.2.2 [] d.tmo use)) s
/-- The whole source of a DMA whose remote reads are answered, as chunks in order. -/
def State.dmaAll (s : State) (u t : Nat) (d : Dma) : List (List Byte × Bool) :=
  let c := (s.thr u t).ctx
  let loc := (s.dmaPieces c d.srcSp d.src d.len d.sn).filterMap (fun p => match p.1 with
    | none => some (p.2.1, s.dmaRead u c d.srcSp (d.src + p.2.1) p.2.2 d.sn)
    | some _ => none)
  let far := d.got.map (fun g => (g.1, [(g.2.1, g.2.2)]))
  (sortBy (fun a b => decide (a.1 ≤ b.1)) (loc ++ far)).flatMap Prod.snd
/-- Chunks of which the first fails its parity: what receives it treats it as poisoned (R415). -/
def firstBad : List (List Byte × Bool) → List (List Byte × Bool)
  | [] => []
  | k :: ks => (k.1, true) :: ks
/-- The descriptors in bytes: one to each 64. -/
def descsOf : (fuel : Nat) → List Byte → List Vec
  | 0, _ => []
  | f + 1, bs => if bs.length < 64 then [] else BitVec.ofNat 512 (leNat (bs.take 64)) :: descsOf f (bs.drop 64)
/-- The post area that a DMA posts into (R277). -/
def State.dmaPost (s : State) (u t : Nat) (d : Dma) : Option Nat :=
  if d.srcSp = 0 ∧ d.dstSp = 1 then s.postOf (s.thr u t).ctx d.dst d.len else none
/-- Perform a DMA's local writes and send its remote ones (R95, R298). -/
def State.dmaWrites (s : State) (u t tag : Nat) : State :=
  match (s.thr u t).dma.toList.getD tag none with
  | none => s
  | some d =>
    let c := (s.thr u t).ctx
    let bad := s.flawed (.unitData u)
    let cs := if bad then firstBad (s.dmaAll u t d) else s.dmaAll u t d
    let s := if bad then s.meet (.unitData u) 6 else s
    let s := if d.srcSp = 1 ∨ d.srcSp = 3 then (s.noteRead c d.src d.len 6).sectorsDrop c d.src d.len
      else if d.srcSp = 0 then s.shelfMeet u d.src d.len 6
      else if bits d.sn.toNat 35 20 = s.self then s.shelfMeet (bits d.sn.toNat 19 0) d.src d.len 6 else s
    let ps := s.dmaPieces c d.dstSp d.dst d.len d.sn
    let far := ps.flatMap (fun p => match p.1 with
      | none => []
      | some dest => (writeParts (d.dst + p.2.1) (sliceChunks cs p.2.1 p.2.2)).map (fun w => (dest, p.2.1 + w.1, w.2)))
    let post := (s.dmaPost u t d).map (fun a => (a, s.nonce, descsOf (d.len / 64) (cs.map Prod.fst).flatten))
    let s := s.updDma u t tag (fun d => { d with phase := 2, parts := far.length, post := post })
    let s := if post.isSome then s.tick else s
    let s := ps.foldl (fun s p => match p.1 with
      | none => s.dmaWrite u c d.dstSp (d.dst + p.2.1) d.sn (sliceChunks cs p.2.1 p.2.2)
      | some _ => s) s
    far.foldl (fun s w =>
      let a := d.dst + w.2.1
      let n := w.2.2.1.length
      let use := ReqUse.dma u t tag w.2.1
      let r := if d.dstSp = 2 then
          { s.mkReq 0x05 w.1 u c 0 n w.2.2.1 d.tmo use with seg := 0, off := shelfOff d.sn a }
        else s.mkReq 0x02 w.1 u c a n w.2.2.1 d.tmo use
      let s := if d.dstSp = 2 then s else s.peerInvalidate w.1 c a n
      s.request { r with poison := w.2.2.2 }) s
/-- Perform the writes of a DMA; it completes when none of them went to another package (R95), and a post-area DMA when
its descriptors have been consumed (R277). -/
def State.dmaPerform (s : State) (u t tag : Nat) : State :=
  let s := s.dmaWrites u t tag
  match (s.thr u t).dma.toList.getD tag none with
  | none => s
  | some d => if d.parts = 0 ∧ d.post.isNone then s.endDma u t tag d.failed else s

end Sys2Proof.Machine
end

