-- ==== Sys2Proof/Machine/Tables.lean ====
section
/-! DEFINITION. Table slots as a package holds them, where a row lies, and how rows are served to other packages
(Table 09-1, R248, R258, R264, R265). -/

namespace Sys2Proof.Machine

/-! ### Tables (Table 09-1, R248) -/

def tSeg (d : Vec) : Nat := fieldOf d 19 1 % 16
def tShard (d : Vec) : Nat := bits (fieldOf d 19 1) 5 4
def tMigEn (d : Vec) : Bool := bitOf (fieldOf d 19 1) 6
def tFormat (d : Vec) : Nat := fieldOf d 20 1 % 16
/-- ROW_BYTES. -/
def tRowBytes (d : Vec) : Nat := 16 * (fieldOf d 22 2 % 2048)
def tRows (d : Vec) : Nat := fieldOf d 24 5
def tRange (d : Vec) : Nat := fieldOf d 32 5
def tBase (d : Vec) : Nat := fieldOf d 40 8
def tSpare (d : Vec) : Nat := fieldOf d 48 4
def tImb (d : Vec) : Nat := fieldOf d 52 1
def tMigMax (d : Vec) : Nat := fieldOf d 54 2
/-- P of a table of a context (R248). -/
def State.tP (s : State) (c : Nat) (d : Vec) : Nat := if tShard d = 0 then 1 else max 1 (s.stripe (s.compOf c)).length
/-- CAP (R248). -/
def State.tCap (s : State) (c : Nat) (d : Vec) : Nat :=
  match tShard d with
  | 0 => tRows d
  | 1 => tRange d
  | _ => (tRows d + s.tP c d - 1) / s.tP c d
/-- Stripe entry and local row of a row (R248). -/
def State.tHome (s : State) (c : Nat) (d : Vec) (x : Nat) : Nat × Nat :=
  match tShard d with
  | 0 => (0, x)
  | 1 => (x / max 1 (tRange d), x % max 1 (tRange d))
  | _ => (x % s.tP c d, x / s.tP c d)
/-- The package of a stripe entry, for a table. -/
def State.tPkg (s : State) (c : Nat) (d : Vec) (p : Nat) : Nat :=
  if tShard d = 0 then s.self else (s.stripe (s.compOf c)).getD p s.self
/-- This package's stripe entry. -/
def State.myEntry (s : State) (c : Nat) : Nat := (s.stripe (s.compOf c)).findIdx (· == s.self)
/-- Program address of local row `j`; spare slot `k` is local row `CAP + k`. -/
def tAddr (d : Vec) (j : Nat) : Nat := tSeg d * 2 ^ 60 + tBase d + j * tRowBytes d
/-- A table slot of a context. -/
def State.table? (s : State) (c t : Nat) : Option Vec := ((s.ctx c).tables.find? t).map (·.d)
/-- Nothing kept. -/
def ETab.zero : ETab :=
  { gen := 0, batch := 0, next := 0, batches := [], lastSrc := [], served := 0, sampler := [], redirects := [], held := [],
    gone := [], vers := [], mig := none, fwdHeld := [], dead := [], sent := [], reports := [], given := [], order := none }
/-- What this package keeps for a slot. -/
def State.etab (s : State) (c t : Nat) : ETab := s.emb.tabs.getD (c * 64 + t) .zero
/-- Change it. -/
def State.updEtab (s : State) (c t : Nat) (f : ETab → ETab) : State :=
  { s with emb := { s.emb with tabs := s.emb.tabs.put (c * 64 + t) (f (s.etab c t)) } }
/-- Bytes of an element; 0 for RAW. -/
def fmtBytes (f : Nat) : Nat :=
  match f with | 1 => 4 | 2 => 2 | 3 => 2 | 4 => 1 | 5 => 1 | 6 => 1 | 7 => 4 | _ => 0
/-- Integer format. -/
def fmtInt (f : Nat) : Bool := decide (f = 6 ∨ f = 7)
/-- U: bytes of a full-width row (R252). -/
def tU (d : Vec) : Nat := if fmtBytes (tFormat d) = 0 then 0 else 4 * (tRowBytes d / fmtBytes (tFormat d))

/-! ### Rows that this package serves (R258, R264, R265) -/

/-- Count a row served as owner, and sample it (R264). -/
def State.noteServe (s : State) (c t x : Nat) : State :=
  s.updEtab c t (fun e => { e with
    served := e.served + 1
    sampler := if e.sampler.has x ∨ e.sampler.length < 1024 then e.sampler.put x (e.sampler.getD x 0 + 1) else e.sampler })

/-- Where a row that this package owns lies: its home row, or its spare slot. -/
def State.ownAddr (s : State) (c t : Nat) (d : Vec) (x : Nat) : Nat :=
  match (s.etab c t).held.find? x with
  | some (slot, true) => tAddr d (s.tCap c d + slot)
  | _ => tAddr d (s.tHome c d x).2
/-- A row of one of this package's tables: slot, TABLE_SET, row number, byte within the row, and whether it has left the
spare slot named. -/
structure ShardRow where
  tab : Nat
  d : Vec
  row : Nat
  off : Nat
  left : Bool
/-- The row of which a program address names a byte: a row of the shard, or the row of a spare slot (R248, R265). -/
def State.shardRow (s : State) (c addr : Nat) : Option ShardRow :=
  ((s.ctx c).tables.filterMap (fun e =>
    let d := e.2.d
    let o := addr % 2 ^ 60
    let cap := s.tCap c d
    let j := (o - tBase d) / max 1 (tRowBytes d)
    let off := (o - tBase d) % max 1 (tRowBytes d)
    if tSeg d ≠ addr / 2 ^ 60 % 16 ∨ o < tBase d then none
    else if j < cap then
      let x := match tShard d with
        | 0 => j
        | 1 => s.myEntry c * tRange d + j
        | _ => j * s.tP c d + s.myEntry c
      some ⟨e.1, d, x, off, false⟩
    else if j < cap + tSpare d then
      let t := s.etab c e.1
      match List.find? (fun (h : Nat × Nat × Bool) => h.2.1 == j - cap) t.held, t.gone.find? (j - cap) with
      | some h, _ => some ⟨e.1, d, h.1, off, false⟩
      | none, some x => some ⟨e.1, d, x, off, true⟩
      | none, none => none
    else none)).head?
/-- Count a row that another package reads, at its first byte (R264; DESIGN CHOICE, log entry 99). -/
def State.readServe (s : State) (c addr : Nat) : State :=
  match s.shardRow c addr with
  | some p => if p.off = 0 then s.noteServe c p.tab p.row else s
  | none => s
/-- Forget what is kept of a row for a reader. -/
def State.snapDrop (s : State) (k : Nat) : State :=
  if s.emb.snaps.has k then { s with emb := { s.emb with snaps := s.emb.snaps.del k } } else s
/-- Serve `n` bytes of a Larder row of `rb` bytes from byte `off` on: the first of several parts keeps the rest of the row
as it is now, and the parts that follow it are served from that, so that the row is read wholly before or wholly after each
update (R258). -/
def State.rowPart (s : State) (k c addr off n rb : Nat) : (List Byte × Bool) × State :=
  let out (cs : List (List Byte × Bool)) : List Byte × Bool := ((cs.map Prod.fst).flatten, cs.any Prod.snd)
  if off = 0 ∧ n < rb ∧ (s.keyOf c addr).isSome then
    let cs := s.memChunks c addr rb
    (out (sliceChunks cs 0 n),
      { s with emb := { s.emb with snaps := s.emb.snaps.put k ⟨c, addr + n, sliceChunks cs n (rb - n)⟩ } })
  else
    match s.emb.snaps.find? k with
    | some p =>
      if p.ctx = c ∧ p.addr = addr then
        let left := (p.rest.map (fun x => x.1.length)).sum
        (out (sliceChunks p.rest 0 n),
          if left ≤ n then s.snapDrop k
          else { s with emb := { s.emb with snaps := s.emb.snaps.put k ⟨c, addr + n, sliceChunks p.rest n (left - n)⟩ } })
      else (s.memRead c addr n, s.snapDrop k)
    | none => (s.memRead c addr n, s)
/-- Serve a read of another package: a row of a table as R258 has it, anything else as it stands. -/
def State.partServe (s : State) (k c addr n : Nat) : (List Byte × Bool) × State :=
  match s.shardRow c addr with
  | some p => s.rowPart k c addr p.off n (tRowBytes p.d)
  | none => (s.memRead c addr n, s.snapDrop k)

end Sys2Proof.Machine
end

