-- ==== Sys2Proof/Machine/Inbound.lean ====
section
/-! DEFINITION. Requests that other packages and agents send here: the checks of Table 11-7, answers, and performing
them at their destination (R295 to R309). -/

namespace Sys2Proof.Machine

/-! ### Answers (R296, R304) -/

/-- The port a request comes from: pod × 64 + package or port. -/
def hPort (h : ReqHdr) : Nat := bits h.source.toNat 35 20
/-- The agent behind the port; a package's requests name agent 0. -/
def hAgent (h : ReqHdr) : Nat := if h.agent then h.source.toNat % 16 else 0
/-- The program address a request names. -/
def hAddr (h : ReqHdr) : Nat := h.seg.toNat * 2 ^ 60 + h.off.toNat
/-- Bytes of a response message (Table 11-5). -/
def State.rspBytes (s : State) (h : ReqHdr) (op code : Nat) (poison : Bool) (data : List Byte) : List Byte :=
  leBytes 16 (op + 2 ^ 8 + b2n h.agent * 2 ^ 10 + b2n poison * 2 ^ 11 + h.source.toNat * 2 ^ 16 + s.self * 2 ^ 52 + code * 2 ^ 68 +
    data.length % 2 ^ 13 * 2 ^ 76 + h.tag.toNat * 2 ^ 89) ++ data
/-- Send bytes back the way a request came: its link, or its inter-pod queue pair (R300, R308). -/
def State.sendBack (s : State) (l : Fin 17) (h : ReqHdr) (vc : Nat) (bytes : List Byte) : State :=
  if l.val < 16 then s.linkPush l.val vc bytes else s.xpodSend (hPort h) vc bytes
/-- Send a read on to its holder: the same header with FWD set and the holder in DEST (R265, R295). -/
def State.fwdRead (s : State) (dest : Nat) (h : ReqHdr) : State :=
  s.pairSend dest 0 (leBytes 32 (0x01 + b2n h.agent * 2 ^ 10 + b2n h.poison * 2 ^ 11 + b2n h.strict * 2 ^ 12 + 2 ^ 13 +
    h.source.toNat * 2 ^ 16 + dest % 64 * 2 ^ 52 + dest / 64 * 2 ^ 58 + h.comp.toNat * 2 ^ 68 + h.ctx.toNat * 2 ^ 88 +
    h.seg.toNat * 2 ^ 100 + h.off.toNat * 2 ^ 104 + h.len.toNat * 2 ^ 152 + h.tag.toNat * 2 ^ 165 + s.map.epoch * 2 ^ 181))
/-- Answer a request. -/
def State.respond (s : State) (l : Fin 17) (h : ReqHdr) (op code : Nat) (poison : Bool) (data : List Byte) : State :=
  let bad := s.sendsBad l data
  (if bad then s.meet (.linkData l) 0x0F else s).sendBack l h 1 (s.rspBytes h op code (poison || bad) data)
/-- Refuse a request: the body carries the epoch held and a detail word (R296); NACKs sent are counted. -/
def State.nackReq (s : State) (l : Fin 17) (h : ReqHdr) (code : Nat) : State :=
  let s := s.respond l h 0x42 code false (leBytes 4 s.map.epoch ++ List.replicate 12 0)
  if l.val < 16 then s.inc rGLY_LINK_EVT 31 16 l.val else s

/-- A package without a map, and one that is fenced, answer nothing (R22, R437). -/
def State.mute (s : State) : Bool := s.map.podPkg.isNone || s.map.fenced

/-! ### The checks of Table 11-7 -/

/-- Bytes of data that must follow the header of an opcode (Table 11-6). -/
def reqBody (op len : Nat) : Nat :=
  if op = 0x02 ∨ op = 0x05 then len
  else if op = 0x03 then 72
  else if op = 0x1C then 2 * len
  else if 0x12 ≤ op ∧ op < 0x1C then len
  else if op = 0x23 then 64
  else 0
/-- Step 1: opcode, virtual channel, LENGTH, alignment, reserved OFFSET bits and body (R297, R298). -/
def reqMalformed (op : Nat) (h : ReqHdr) (data : List Byte) : Bool :=
  let len := h.len.toNat
  let off := h.off.toNat
  let shelf := op = 0x04 ∨ op = 0x05
  decide (h.vc.toNat ≠ 0 ∨ len = 0 ∨ 4096 < len) ||
  !(decide (op ∈ [0x01, 0x02, 0x03, 0x04, 0x05]) || decide (0x12 ≤ op ∧ op ≤ 0x1C) || decide (0x20 ≤ op ∧ op ≤ 0x24)) ||
  (decide (op = 0x03 ∨ (0x20 ≤ op ∧ op ≤ 0x24)) && (decide (len ≠ 64) || decide (off % 64 ≠ 0))) ||
  (decide (0x12 ≤ op ∧ op ≤ 0x1C) && (!(len == 4 || len == 8) || decide (off % len ≠ 0) || (op == 0x13 && len != 4))) ||
  (decide shelf && (decide (2 ^ 34 ≤ off) || decide (h.seg.toNat ≠ 0))) ||
  decide (data.length ≠ reqBody op len)
/-- Step 3: the composition lists the source's port, an agent is registered, and the context is the composition's. -/
def State.reqMember (s : State) (h : ReqHdr) : Bool :=
  match s.map.comps.find? h.comp.toNat with
  | none => false
  | some c =>
    let p := hPort h
    let listed :=
      if h.agent then c.agents.any (fun a => a % 2 ^ 10 == p / 64 && bits a 15 10 == p % 64 && bits a 19 16 == hAgent h)
      else (p / 64 == s.pod && c.parts.has (p % 64)) || c.stripe.contains p
    listed && s.compOf? h.ctx.toNat == some h.comp.toNat
/-- Permission an opcode needs (Table 11-6). -/
def reqPerm (op : Nat) : Nat := if op = 0x01 then permR else if op = 0x02 ∨ op = 0x03 then permW else permA
/-- Whether a unit's region belongs to a context's region set (Table 07-2). -/
def State.inRegionSet (s : State) (c u : Nat) : Bool :=
  let x := s.ctx c
  bitOf x.dieMask (u / 2 ^ 17) && decide (x.first ≤ rgnOf u % 128 ∧ rgnOf u % 128 < x.first + x.cnt)
/-- Steps 3 to 8 of Table 11-7: the NACK code of the first check that fails. -/
def State.reqCheck (s : State) (op : Nat) (h : ReqHdr) : Option Nat :=
  let c := h.ctx.toNat
  let len := h.len.toNat
  if !s.reqMember h then some 0x04
  else if 0x20 ≤ op ∧ !s.home.attach.any (fun a =>
      a.ctx == c && a.seg == h.seg.toNat && a.port == hPort h && a.agent == hAgent h && (a.isPkg == !h.agent)) then some 0x04
  else if op = 0x04 ∨ op = 0x05 then
    if 16384 < h.off.toNat % 2 ^ 14 + len then some 0x06
    else if !s.inRegionSet c (h.off.toNat / 2 ^ 14) then some 0x07
    else none
  else
    match s.seg? c h.seg.toNat with
    | none => some 0x05
    | some g =>
      if g.c ∧ hPort h / 64 ≠ s.pod then some 0x0A
      else if g.limit < h.off.toNat + len then some 0x06
      else if 0x20 ≤ op ∧ g.c = false then some 0x07
      else if op < 0x20 ∧ (!g.grants (reqPerm op) ∨ (g.tier = 1 ∧ op ≠ 0x01) ∨
          (op ≠ 0x01 ∧ s.postHit c (hAddr h) len = true)) then some 0x07
      else if s.revokedAt c h.seg.toNat h.off.toNat len then some 0x08
      else if !g.present then some 0x09
      else none

/-! ### Performing (R306, R307) -/

/-- Perform a request at its destination and answer it; a held atomic is answered when it is performed. -/
def State.reqPerform (s : State) (op : Nat) (l : Fin 17) (h : ReqHdr) (data : List Byte) : State :=
  let c := h.ctx.toNat
  let len := h.len.toNat
  let s := if op = 0x01 then s.readServe c (hAddr h) else s.snapDrop (hPort h)
  if op = 0x01 then
    let r := s.partServe (hPort h) c (hAddr h) len
    ((r.2.noteRead c (hAddr h) len 0x0F).sectorsDrop c (hAddr h) len).respond l h 0x40 0 r.1.2 r.1.1
  else if op = 0x02 then (s.memWrite c (hAddr h) data h.poison).respond l h 0x41 0 false []
  else if op = 0x03 then
    let s := match s.keyOf c (hAddr h) with
      | some key => s.larderMask (key / 64) (leNat (data.take 8)) (leNat (data.drop 8)) h.poison
      | none => s
    s.respond l h 0x41 0 false []
  else if op = 0x04 then
    let u := h.off.toNat / 2 ^ 14
    let o := h.off.toNat % 2 ^ 14
    (s.shelfMeet u o len 0x0F).respond l h 0x40 0 (s.rowsPoison u o len) (s.shelfRead u o len)
  else if op = 0x05 then
    let u := h.off.toNat / 2 ^ 14
    let s := s.shelfWrite u (h.off.toNat % 2 ^ 14) data h.poison
    s.respond l h 0x41 0 false []
  else
    let aop := op - 0x10
    let x := leNat (data.take len)
    let b := if aop = 0x0C then leNat (data.drop len) else x
    match s.keyOf c (hAddr h) with
    | none => s.respond l h 0x41 0 false []
    | some key =>
      let comp := h.comp.toNat
      let idx := (s.stripe comp).findIdx (· == hPort h)
      let r := s.atomicAt key len aop b x comp c (h.source.toNat * 8)
        [idx, c, h.source.toNat, s.nonce] h.strict (.req l h)
      match r.1 with
      | .done old bad =>
        let s := r.2.tick
        if aop = 0x0B ∨ aop = 0x0C then s.respond l h 0x40 0 bad (leBytes len old) else s.respond l h 0x41 0 false []
      | .held => r.2.tick

end Sys2Proof.Machine
end

