-- ==== Sys2Proof/Machine/Home.lean ====
section
/-! DEFINITION. The home agents: attachments, transactions and their table, snoops, grants, the exclusive tracker, leases
and lost agents (R312 to R330). -/

namespace Sys2Proof.Machine

/-! ### Hub messages (R297) and shares of a resource (R33) -/

/-- Bytes of a HUB_MSG to a destination: header, type, body. -/
def State.hubMsgBytes (s : State) (dest type comp c : Nat) (body : List Byte) : List Byte :=
  leBytes 32 (0x50 + 3 * 2 ^ 8 + s.locator 0 * 2 ^ 16 + dest % 64 * 2 ^ 52 + dest / 64 * 2 ^ 58 + comp * 2 ^ 68 +
    c * 2 ^ 88 + (body.length + 2) % 2 ^ 13 * 2 ^ 152 + s.map.epoch * 2 ^ 181) ++ leBytes 2 type ++ body
/-- Send a HUB_MSG on the plane of its pair, or on the inter-pod queue pair (R300, R301, R308). -/
def State.hubMsg (s : State) (dest type comp c : Nat) (body : List Byte) : State :=
  s.pairSend dest 3 (s.hubMsgBytes dest type comp c body)
/-- Free entries of a shared pool: capacity less every reserve, less what compositions hold above theirs (R33). -/
def poolFree (cap : Nat) (comps : List Nat) (res used : Nat → Nat) : Nat :=
  cap - (comps.map res).sum - (comps.map (fun k => used k - res k)).sum
/-- Compositions of the map, the system included. -/
def State.comps (s : State) : List Nat := 0 :: s.map.comps.keys

/-! ### The transaction table (R321, R325) -/

/-- Home transaction reserve of a composition (Table 01-6, Table 15-3). -/
def State.httRes (s : State) (comp : Nat) : Nat := if comp = 0 then 64 else ((s.partOf comp).map (·.httRes)).getD 0
/-- Entries of a die that a composition holds. -/
def State.httUsed (s : State) (die comp : Nat) : Nat :=
  (s.home.txns.filter (fun e => e.2.entry && e.2.die == die && e.2.comp == comp)).length
/-- Free entries of a die's shared pool. -/
def State.httPool (s : State) (die : Nat) : Nat := poolFree 2048 s.comps s.httRes (s.httUsed die)
/-- Whether a composition may take an entry of a die. -/
def State.httRoom (s : State) (die comp : Nat) : Bool :=
  decide (s.httUsed die comp < s.httRes comp) || decide (0 < s.httPool die)
/-- Entries that a composition holds above its reserved share. -/
def State.httAbove (s : State) (die comp : Nat) : Nat := s.httUsed die comp - s.httRes comp
/-- Ports in a segment's snoop mask (R315). -/
def State.mask (s : State) (c g : Nat) : List Nat :=
  ((s.home.attach.filter (fun a => a.ctx = c ∧ a.seg = g)).map (·.port)).eraseDups
/-- A transaction by number. -/
def State.txn? (s : State) (id : Nat) : Option HTxn := s.home.txns.find? id
/-- Change a transaction. -/
def State.updTxn (s : State) (id : Nat) (f : HTxn → HTxn) : State :=
  { s with home := { s.home with txns := s.home.txns.upd id f } }
/-- Accept a transaction for a line; without room it waits for an entry, and the wait is counted (R325). -/
def State.txnNew (s : State) (line comp c g off : Nat) (wr : Bool) (act : HAct) (group : Nat) : State :=
  let die := line / 2 ^ 32
  let room := s.httRoom die comp
  let t : HTxn := { die := die, line := line, comp := comp, ctx := c, seg := g, off := off, wr := wr, entry := room,
                    begun := false, clear := false, snoops := [], act := act, group := group, grant := none }
  let s := { s with home := { s.home with txns := s.home.txns.put s.home.nextTxn t, nextTxn := s.home.nextTxn + 1 } }
  if room then s else s.inc rHOME_WAIT 31 0 die
/-- Lines of an extent of a coherent segment that are at this package: line number, segment offset. -/
def State.cohLines (s : State) (c addr n : Nat) : List (Nat × Nat) :=
  if s.inCoherent c addr then
    (s.extent c addr n).flatMap (fun p => match p.2.1 with
      | .larder key => (linesOf key p.2.2).map (fun l => (l, (p.1 % 2 ^ 60 / 64 + (l - key / 64)) * 64))
      | _ => [])
  else []
/-- Lines of an access that need a snoop by Table 12-5: owned ones for a read, every one for a write under a mask. -/
def State.snoopLines (s : State) (c addr n : Nat) (wr : Bool) : List (Nat × Nat) :=
  if s.mask c (addr / 2 ^ 60 % 16) = [] then []
  else if wr then s.cohLines c addr n
  else (s.cohLines c addr n).filter (fun l => s.home.trk.has l.1)
/-- Open transactions for an access, one for each line that needs a snoop; none when no line does (R321, R322). -/
def State.homeOpen (s : State) (c comp : Nat) (parts : List (Nat × Nat × Bool)) (act : HAct) : Option State :=
  let ls := parts.flatMap (fun p => (s.snoopLines c p.1 p.2.1 p.2.2).map (fun l => (p.1 / 2 ^ 60 % 16, l, p.2.2)))
  if ls = [] then none
  else
    let g := s.home.nextTxn
    some (ls.foldl (fun s l => s.txnNew l.2.1.1 comp c l.1 l.2.1.2 l.2.2 act g) s)

/-! ### Requests in the order of their pair (R306) -/

/-- Whether an earlier request of a source port still waits here. -/
def State.portBusy (s : State) (port : Nat) : Bool :=
  s.gly.celWait.any (fun w => hPort w.h == port) ||
  s.home.txns.any (fun e => match e.2.act with | .req _ _ h _ => hPort h == port | _ => false) ||
  s.repro.waits.any (fun w => match w.ans with | .req _ h => hPort h == port | _ => false)
/-- Back-off hint of a RETRY (R325). -/
def State.backoff (s : State) (die comp : Nat) : Nat :=
  max 1 (s.fld rHOME_CFG 31 16 die) * min 16 (1 + s.httAbove die comp / 32)
/-- Accept a coherence request: it opens a transaction, or finds no entry and gets RETRY (R321, R325). -/
def State.cohAccept (s : State) (op : Nat) (l : Fin 17) (h : ReqHdr) (data : List Byte) : State :=
  let c := h.ctx.toNat
  match s.keyOf c (hAddr h) with
  | none => s.nackReq l h 0x05
  | some key =>
    let die := key / 2 ^ 38
    if s.httRoom die h.comp.toNat then
      s.txnNew (key / 64) h.comp.toNat c h.seg.toNat (h.off.toNat / 64 * 64) (op ≠ 0x20) (.coh op l h data) s.home.nextTxn
    else
      (s.inc rHOME_RETRY 31 0 die).respond l h 0x43 0 false
        (leBytes 4 (s.backoff die h.comp.toNat) ++ List.replicate 12 0)
/-- Start an accepted request: a coherence request opens its transaction; any other fetches its Cellar sectors, clears its
coherent lines, or is performed. -/
def State.reqStart (s : State) (op : Nat) (l : Fin 17) (h : ReqHdr) (data : List Byte) : State :=
  let c := h.ctx.toNat
  let len := h.len.toNat
  if 0x20 ≤ op then s.cohAccept op l h data
  else if op = 0x01 ∧ s.extentSectors c (hAddr h) len ≠ [] then
    let s := s.sectorsWant c (hAddr h) len
    if s.sectorsHere c (hAddr h) len then s.reqPerform op l h data
    else { s with gly := { s.gly with celWait := s.gly.celWait ++ [⟨l, 0x01, h, [], s.snapSegs c⟩] } }
  else if op = 0x04 ∨ op = 0x05 then s.reqPerform op l h data
  else
    match s.homeOpen c h.comp.toNat [(hAddr h, len, op ≠ 0x01)] (.req op l h data) with
    | some s' => s'
    | none => s.reqPerform op l h data
/-- An agent's request to a frozen composition waits (R430). -/
def State.heldFrozen (s : State) (h : ReqHdr) : Bool := h.agent && s.frozen h.comp.toNat
/-- Whether an arrived request waits: for the end of a freeze, or, when it is no coherence request, behind an earlier one of
its source port (R306, R318, R430). -/
def State.reqWaits (s : State) (op : Nat) (h : ReqHdr) : Bool :=
  s.heldFrozen h || (decide (op < 0x20) && (s.portBusy (hPort h) || s.gly.behind.any (fun b => hPort b.h == hPort h)))
/-- Accept a request: it starts or waits. -/
def State.reqAccept (s : State) (op : Nat) (l : Fin 17) (h : ReqHdr) (data : List Byte) : State :=
  if s.reqWaits op h then
    { s with gly := { s.gly with behind := s.gly.behind ++ [⟨l, op, h, data, s.snapSegs h.ctx.toNat⟩] } }
  else s.reqStart op l h data
/-- Start the requests whose earlier ones have ended, in order. -/
def State.behindPump (s : State) : State :=
  let bs := s.gly.behind
  bs.foldl (fun (s : State) b =>
    if s.reqWaits b.op b.h then
      { s with gly := { s.gly with behind := s.gly.behind ++ [b] } }
    else s.asOf b.h.ctx.toNat (some b.segs) (fun s => s.reqStart b.op b.link b.h b.data)) { s with gly := { s.gly with behind := [] } }
/-- Serve the Cellar reads of other packages whose sectors have come. -/
def State.celPump (s : State) : State :=
  let ws := s.gly.celWait
  (ws.foldl (fun (s : State) w =>
    let c := w.h.ctx.toNat
    if (s.seen c (some w.segs)).sectorsHere c (hAddr w.h) w.h.len.toNat then
      s.asOf c (some w.segs) (fun s => s.reqPerform 0x01 w.link w.h [])
    else { s with gly := { s.gly with celWait := s.gly.celWait ++ [w] } })
    { s with gly := { s.gly with celWait := [] } }).behindPump

/-! ### Host reads and writes (R198, R358) -/

/-- Perform a host WRITE and acknowledge it, or begin to fetch what a host READ needs (R198); what other packages hold of a
striped segment goes there as requests (Table 06-2). -/
def State.hostPerform (s : State) (qp : Nat) (wr : Bool) (key c addr len : Nat) (data : List Byte) (psn : Nat) : State :=
  if wr then
    ((s.hubParts c addr data.length).foldl (fun (s : State) p =>
      s.request (s.mkReq 0x02 p.1 0 c p.2.1 p.2.2 ((data.drop (p.2.1 - addr)).take p.2.2) 0 .other))
      (s.memWrite c addr data false)).send (.ack qp psn)
  else
    let segs := s.snapSegs c
    { s.asHost c segs (fun s => s.hubWant c addr len) with
      eth := { s.eth with hostReads := s.eth.hostReads ++ [⟨qp, key, c, addr, len, psn, segs⟩] } }

/-! ### Snoops and grants (R317, R322 to R324) -/

/-- Tag of the next snoop of a die: from `nextTag` on, the first that is free there and no longer awaited late (R317). -/
def State.snoopTag (s : State) (die : Nat) : Nat :=
  let at_ (i : Nat) : Nat := (s.home.nextTag + i) % 2 ^ 16
  match leastBelow (2 ^ 16) (fun i => s.tagFree die (at_ i) && !s.home.late.has (die * 2 ^ 16 + at_ i)) with
  | some i => at_ i
  | none => at_ 0
/-- Snoop a port for a line under a transaction. -/
def State.snoopPort (s : State) (id port line comp c g off : Nat) (drop : Bool) : State :=
  let die := line / 2 ^ 32
  let tag := s.snoopTag die
  let d := s.rd rHOME_SNP_TMO die
  let sn : Snoop := { port := port, tag := tag, line := line, drop := drop, plane := (s.planeTo port).getD 16,
                      expiry := if d = 0 then none else some (s.count + d), again := none }
  let s := s.updTxn id (fun t => { t with snoops := t.snoops ++ [sn] })
  let s := { s with home := { s.home with nextTag := tag + 1, late := s.home.late.del (die * 2 ^ 16 + tag) } }
  let s := s.inc rHOME_SNOOPS 63 0 die
  let bytes := leBytes 32 ((if drop then 0x31 else 0x30) + 2 * 2 ^ 8 + (s.pod * 2 ^ 26 + s.pkg * 2 ^ 20 + die * 2 ^ 17) * 2 ^ 16 +
    port % 64 * 2 ^ 52 + port / 64 * 2 ^ 58 + comp * 2 ^ 68 + c * 2 ^ 88 + g * 2 ^ 100 + off * 2 ^ 104 + 64 * 2 ^ 152 +
    tag * 2 ^ 165 + s.map.epoch * 2 ^ 181)
  s.pairSend port 2 bytes
/-- The exclusive grant of a line. -/
def State.owner? (s : State) (line : Nat) : Option Trk := s.home.trk.find? line
/-- Free the tracker entry of a line. -/
def State.trkFree (s : State) (line : Nat) : State := { s with home := { s.home with trk := s.home.trk.del line } }
/-- Whether the requester owns the line. -/
def State.owns (s : State) (line : Nat) (h : ReqHdr) : Bool :=
  match s.owner? line with | some o => o.port == hPort h && o.agent == hAgent h | none => false
/-- Begin a transaction: send the snoops that Table 12-5 asks for. -/
def State.txnBegin (s : State) (id : Nat) : State :=
  match s.txn? id with
  | none => s
  | some t =>
    let s := s.updTxn id (fun t => { t with begun := true })
    let one (s : State) (o : Trk) (drop : Bool) := s.snoopPort id o.port t.line t.comp t.ctx t.seg t.off drop
    let all (s : State) := (s.mask t.ctx t.seg).foldl (fun s p =>
      s.snoopPort id p t.line t.comp t.ctx t.seg t.off true) s
    match t.act with
    | .coh op _ h _ =>
      if op = 0x20 then
        match s.owner? t.line with
        | some o => if s.owns t.line h then s else one s o false
        | none => s
      else if op = 0x21 ∨ op = 0x22 then (if s.owns t.line h then s else all s)
      else s
    | .recall => match s.owner? t.line with | some o => one s o true | none => s
    | _ =>
      if t.wr then all s
      else match s.owner? t.line with | some o => one s o false | none => s
/-- Set of the exclusive tracker that a line uses (R326). -/
def trkSet (line : Nat) : Nat := (bits line 14 0) ^^^ (bits line 29 15)
/-- Entries of a line's set on its die. -/
def State.trkWays (s : State) (line : Nat) : List (Nat × Trk) :=
  s.home.trk.filter (fun e => decide (e.1 / 2 ^ 32 = line / 2 ^ 32 ∧ trkSet e.1 = trkSet line))
/-- Tracker entries of a composition on a die. -/
def State.trkUsed (s : State) (die comp : Nat) : Nat :=
  (s.home.trk.filter (fun e => decide (e.1 / 2 ^ 32 = die) && e.2.comp == comp)).length
/-- Tracker reserve of a composition, in entries. -/
def State.trkRes (s : State) (comp : Nat) : Nat := if comp = 0 then 4096 else ((s.partOf comp).map (·.trkRes * 16)).getD 0
/-- Whether a composition may take an entry of a die's tracker: from its reserved share, or from the pool (R33, R36). -/
def State.trkRoom (s : State) (die comp : Nat) : Bool :=
  decide (s.trkUsed die comp < s.trkRes comp) || decide (0 < poolFree 262144 s.comps s.trkRes (s.trkUsed die))
/-- Whether a grant to a composition finds a way in its line's set and an entry it may take. -/
def State.trkFits (s : State) (line comp : Nat) : Bool :=
  decide ((s.trkWays line).length < 8) && s.trkRoom (line / 2 ^ 32) comp
/-- The victim for a grant that finds no entry: of the line's set when that is full, else of the die; no open transaction;
compositions above their share first, and else any way of a full set, or where the share and the pool are used up an entry of
the composition's own; then the oldest grant (R33, R326). -/
def State.trkVictim (s : State) (line comp : Nat) : Option (Nat × Trk) :=
  let die := line / 2 ^ 32
  let full := decide (8 ≤ (s.trkWays line).length)
  let among := if full then s.trkWays line else s.home.trk.filter (fun e => decide (e.1 / 2 ^ 32 = die))
  let free := among.filter (fun e => !s.home.txns.any (fun t => t.2.line == e.1 || t.2.snoops.any (fun n => n.line == e.1)))
  let above := free.filter (fun e => decide (s.trkRes e.2.comp < s.trkUsed die e.2.comp))
  let rest := if s.trkRoom die comp then free else free.filter (fun e => e.2.comp == comp)
  (sortBy (fun a b => decide (a.2.age ≤ b.2.age)) (if above = [] then rest else above)).head?
/-- End a transaction, and give its entry to the first that waits for one (R324, R325). -/
def State.txnEnd (s : State) (id : Nat) : State :=
  let s := { s with home := { s.home with txns := s.home.txns.del id } }
  match s.home.txns.findKey? (fun _ t => !t.entry && s.httRoom t.die t.comp) with
  | some k => s.updTxn k (fun t => { t with entry := true })
  | none => s
/-- Grant a line to the requester: DATA, and in blocking mode a wait for GRANT_ACK (R317, R324). -/
def State.grant (s : State) (id : Nat) (t : HTxn) (l : Fin 17) (h : ReqHdr) : State :=
  let bs := s.larderRead (t.line * 64) 64
  let s := ((s.countLine (t.line * 64)).lineMeet t.line 0x0D).respond l h 0x40 0 (s.linePoison (t.line * 64)) bs
  let mode : Nat := match s.seg? t.ctx t.seg with | some g => g.cohMode | none => 0
  let d := s.rd rHOME_SNP_TMO t.die
  if mode = 1 then
    s.updTxn id (fun t => { t with clear := true, grant := some (hPort h, h.tag.toNat, if d = 0 then none else some (s.count + d)) })
  else { s with home := { s.home with acks := s.home.acks ++ [(hPort h, h.tag.toNat)] } }.txnEnd id
/-- Perform the access that a cleared group of transactions serves. -/
def State.homeAct (s : State) (act : HAct) : State :=
  match act with
  | .coh _ _ _ _ => s
  | .req op l h data => (s.reqPerform op l h data).behindPump
  | .wb u id => s.wbPerform u id
  | .dma u t tag => s.dmaPerform u t tag
  | .rmt u t id => s.rmtPerform u t id
  | .host qp wr key c addr len data psn => s.hostPerform qp wr key c addr len data psn
  | .read => s
  | .recall => s
/-- Serve a transaction whose snoops are all answered (Table 12-5). -/
def State.txnFinish (s : State) (id : Nat) (t : HTxn) : State :=
  match t.act with
  | .coh op l h data =>
    if op = 0x20 then (s.trkFree t.line).grant id t l h
    else if op = 0x23 then
      let s := if s.owns t.line h then
          (s.larderLine (t.line * 64) data h.poison).trkFree t.line
        else s
      (s.respond l h 0x41 0 false []).txnEnd id
    else if op = 0x24 then
      let s := if s.owns t.line h then s.trkFree t.line else s
      (s.respond l h 0x41 0 false []).txnEnd id
    else if s.owns t.line h then s.grant id t l h
    else if (s.owner? t.line).isSome ∨ s.trkFits t.line t.comp = true then
      let e : Trk := { port := hPort h, agent := hAgent h, comp := t.comp, ctx := t.ctx, seg := t.seg, off := t.off,
                       age := s.nonce }
      ({ s with home := { s.home with trk := s.home.trk.put t.line e } }.tick).grant id t l h
    else
      match s.trkVictim t.line t.comp with
      | some v =>
        (s.inc rHOME_RECALL 31 0 t.die).snoopPort id v.2.port v.1 v.2.comp v.2.ctx v.2.seg v.2.off true
      | none => if t.clear then s else (s.inc rHOME_WAIT 63 32 t.die).updTxn id (fun t => { t with clear := true })
  | .recall => (s.trkFree t.line).txnEnd id
  | act =>
    let s := s.trkFree t.line
    let s := s.updTxn id (fun t => { t with clear := true })
    let grp := s.home.txns.filter (fun e => decide (e.2.group = t.group) && e.2.act == act)
    if grp.all (fun e => e.2.clear) then
      (grp.foldl (fun s e => s.txnEnd e.1) s).homeAct act
    else s
/-- Whether a transaction is ready to be served. -/
def State.txnReady (s : State) (t : HTxn) : Bool :=
  t.begun && t.snoops.isEmpty && t.grant.isNone &&
  (match t.act with
   | .coh op _ h _ =>
     if op = 0x21 ∨ op = 0x22 then
       s.owns t.line h || (s.owner? t.line).isSome || s.trkFits t.line t.comp || (s.trkVictim t.line t.comp).isSome || !t.clear
     else true
   | .recall => true
   | _ => !t.clear)
/-- Serve every transaction that is ready, lowest first. -/
def State.homeSettle : (fuel : Nat) → State → State
  | 0, s => s
  | f + 1, s =>
    match List.find? (fun e : Nat × HTxn => s.txnReady e.2) s.home.txns with
    | some e => State.homeSettle f (s.txnFinish e.1 e.2)
    | none => s
/-- Serve whatever a change has made ready. -/
def State.homePump (s : State) : State := State.homeSettle (2 * s.home.txns.length + 2) s
/-- The port whose coherence request a transaction serves. -/
def HAct.cohPort (a : HAct) : Option Nat := match a with | .coh _ _ h _ => some (hPort h) | _ => none
/-- Whether a transaction may begin: it holds an entry, no earlier one of its line is open, and every earlier coherence
request of its pair has begun (R318, R321). -/
def State.txnMayBegin (s : State) (id : Nat) : Bool :=
  match s.txn? id with
  | some t => t.entry && !t.begun && !s.home.txns.any (fun e => decide (e.1 < id) &&
      (e.2.line == t.line || (!e.2.begun && t.act.cohPort.isSome && e.2.act.cohPort == t.act.cohPort)))
  | none => false
/-- Write a line that a snoop or an owner returned (R322). -/
def State.writeBack (s : State) (line : Nat) (data : List Byte) (poison : Bool) : State :=
  s.larderLine (line * 64) (leBytes 64 (leNat data)) poison
/-- The die of this package whose home a response names: region, cluster and unit of REQUESTER are zero (R317). -/
def State.rspDie (s : State) (h : RspHdr) : Option Nat :=
  let die := h.requester.toNat / 2 ^ 17 % 8
  if h.requester.toNat = s.locator (die * 2 ^ 17) ∧ h.agent = false then some die else none
/-- The outstanding snoop a reply answers, by REQUESTER and TAG: transaction and snoop (R317). -/
def State.snoopOf (s : State) (h : RspHdr) : Option (Nat × Snoop) :=
  match s.rspDie h with
  | none => none
  | some die =>
    (s.home.txns.filterMap (fun e =>
      (e.2.snoops.find? (fun n => n.tag == h.tag.toNat && n.port == h.responder.toNat && n.line / 2 ^ 32 == die &&
        n.again.isNone)).map (fun n => (e.1, n)))).head?
/-- Take a snoop as answered: Ack, or dirty data (R322, R323). -/
def State.snoopDone (s : State) (id : Nat) (n : Snoop) (data : Option (List Byte × Bool)) : State :=
  let s := match data with | some d => s.writeBack n.line d.1 d.2 | none => s
  let s := s.updTxn id (fun t => { t with snoops := t.snoops.filter (fun k => k.tag ≠ n.tag) })
  match s.txn? id with
  | some t => (if n.line ≠ t.line then s.trkFree n.line else s).homePump
  | none => s
/-- A RETRY to a snoop: a re-snoop is due when the tracker shows an agent of the port as owner; else it is Ack (R323). -/
def State.snoopRetry (s : State) (id : Nat) (n : Snoop) : State :=
  match s.owner? n.line with
  | some o =>
    if o.port = n.port then
      let d := max 1 (s.fld rHOME_CFG 15 0 (n.line / 2 ^ 32))
      s.updTxn id (fun t => { t with snoops := t.snoops.map (fun k =>
        if k.tag = n.tag then { k with again := some (s.count + d) } else k) })
    else s.snoopDone id n none
  | none => s.snoopDone id n none
/-- The transaction whose open grant a COMP answers as its GRANT_ACK: REQUESTER names the package alone (R317). -/
def State.grantOf (s : State) (h : RspHdr) : Option Nat :=
  if s.rspDie h = some 0 then
    s.home.txns.findKey? (fun _ t => match t.grant with
      | some (p, g, _) => p == h.responder.toNat && g == h.tag.toNat
      | none => false)
  else none

/-! ### Leases and lost agents (R327 to R329) -/

/-- The lease duration in force (HOME_LEASE). -/
def State.leaseLen (s : State) : Nat := max (2 ^ 23) (s.rd rHOME_LEASE)
/-- Whether an agent is attached on this package. -/
def State.isAttached (s : State) (port agent : Nat) : Bool :=
  s.home.attach.any (fun a => a.port == port && a.agent == agent)
/-- A coherence request of an agent. -/
def HAct.ofAgent (a : HAct) (port : Nat) (agents : List Nat) : Bool :=
  match a with
  | .coh _ _ h _ => hPort h == port && agents.contains (hAgent h)
  | _ => false
/-- GIVE_DIRTYs of lost agents that were accepted before and still wait are performed first (R329). -/
def State.giveLast (s : State) (port : Nat) (agents : List Nat) : State :=
  s.home.txns.foldl (fun s e => match e.2.act with
    | .coh 0x23 _ h data =>
      if hPort h == port && agents.contains (hAgent h) && s.owns e.2.line h then
        (s.writeBack e.2.line data h.poison).trkFree e.2.line
      else s
    | _ => s) s
/-- Poison every line that the tracker shows the agents holding, and free its entry. -/
def State.poisonOwned (s : State) (port : Nat) (agents : List Nat) : State :=
  (s.home.trk.filter (fun e => e.2.port == port && agents.contains e.2.agent)).foldl (fun s e =>
    ((s.larderLine (e.1 * 64) [] true).trkFree e.1).inc rHOME_POISON 31 0 (e.1 / 2 ^ 32)) s
/-- Discard the agents' transactions: those not begun and open grants end; begun ones only gather their replies. -/
def State.dropAgents (s : State) (port : Nat) (agents : List Nat) : State :=
  s.home.txns.foldl (fun s e =>
    if e.2.act.ofAgent port agents then
      if !e.2.begun || e.2.grant.isSome then s.txnEnd e.1
      else s.updTxn e.1 (fun t => { t with act := .recall })
    else s) s
/-- Take every outstanding snoop to a port as answered by Ack; the tags are remembered as late (R28, R329). -/
def State.ackPort (s : State) (port : Nat) : State :=
  let gone := s.home.txns.flatMap (fun e => e.2.snoops.filter (fun n => n.port = port))
  let s := { s with home := { s.home with
    late := gone.foldl (fun (m : Assoc Nat) (n : Snoop) => m.put (n.line / 2 ^ 32 * 2 ^ 16 + n.tag) (n.line / 2 ^ 32)) s.home.late } }
  s.home.txns.foldl (fun s e =>
    (e.2.snoops.filter (fun n => n.port = port)).foldl (fun s n => s.snoopDone e.1 n none) s) s
/-- Bit mask of agent numbers. -/
def agentMask (l : List Nat) : Nat := l.eraseDups.foldl (fun m a => m + 2 ^ a) 0
/-- Agents attached behind a port. -/
def State.portAgents (s : State) (port : Nat) : List Nat :=
  ((s.home.attach.filter (fun a => a.port = port)).map (·.agent)).eraseDups
/-- Agents of a port are lost: cause 0 lease, 1 port, 2 response timeout (R328, R329). -/
def State.loseAgents (s : State) (port : Nat) (agents : List Nat) (cause : Nat) : State :=
  let gone := agents.filter (fun a => s.isAttached port a)
  if gone = [] then s
  else
    let s := ((s.giveLast port gone).poisonOwned port gone).dropAgents port gone
    let s := if cause = 0 then s else s.ackPort port
    let s := { s with home := { s.home with
      attach := s.home.attach.filter (fun a => !(a.port == port && gone.contains a.agent))
      leases := s.home.leases.filter (fun e => !(gone.any (fun a => e.1 == port * 16 + a)))
      acks := if (s.portAgents port).all (fun a => gone.contains a) then s.home.acks.filter (fun a => a.1 ≠ port) else s.home.acks } }
    let s := match cause with
      | 0 => s.inc rHOME_AGENT_LOSS 9 0 0 0 gone.length
      | 1 => s.inc rHOME_AGENT_LOSS 19 10 0 0 gone.length
      | _ => s.inc rHOME_AGENT_LOSS 29 20 0 0 gone.length
    let s := s.hubMsg port 0x0C04 0 0 (leBytes 2 (agentMask gone) ++ leBytes 1 cause)
    (s.raise { code := 0x0A00, sev := 3, d0 := port / 64, d1 := port % 64, d2 := agentMask gone + cause * 2 ^ 32 }).homePump
/-- Attached ports that no plane and no direct link reaches are lost with their agents (R328). -/
def State.losePorts (s : State) : State :=
  ((s.home.attach.map (·.port)).eraseDups).foldl (fun s p =>
    if (s.planeTo p).isNone then s.loseAgents p (s.portAgents p) 1 else s) s

end Sys2Proof.Machine
end

