-- ==== Sys2Proof/Machine/Operands.lean ====
section
/-! DEFINITION. The instruction formats of Tables 03-3 and 03-4 as first words, the operand forms, and issue: the fetch
check, the hazards, the checks of R107, the stall on an absent segment and the effect (R38 to R42, R70 to R76, R106). -/

namespace Sys2Proof.Machine

/-! ### First words (R72, R74) -/

/-- Format A. -/
def encA (op fn b a d : Nat) : Nat := fn * 2 ^ 22 + b * 2 ^ 17 + a * 2 ^ 12 + d * 2 ^ 7 + op * 2
/-- Format I. -/
def encI (op imm f3 a d : Nat) : Nat := imm * 2 ^ 20 + f3 * 2 ^ 17 + a * 2 ^ 12 + d * 2 ^ 7 + op * 2
/-- Format S. -/
def encS (op imm sz a b : Nat) : Nat := imm * 2 ^ 20 + sz * 2 ^ 17 + a * 2 ^ 12 + b * 2 ^ 7 + op * 2
/-- Format B. -/
def encB (op off b a c : Nat) : Nat := off * 2 ^ 22 + b * 2 ^ 17 + a * 2 ^ 12 + c * 2 ^ 7 + op * 2
/-- Format U. -/
def encU (op imm d : Nat) : Nat := imm * 2 ^ 12 + d * 2 ^ 7 + op * 2
/-- Format V. -/
def encV (op fn et z pg vb va vd : Nat) : Nat :=
  fn * 2 ^ 22 + et * 2 ^ 20 + z * 2 ^ 19 + pg * 2 ^ 16 + vb * 2 ^ 13 + va * 2 ^ 10 + vd * 2 ^ 7 + op * 2
/-- Format VM. -/
def encVM (op imm z pg sa vd : Nat) : Nat := imm * 2 ^ 19 + z * 2 ^ 18 + pg * 2 ^ 15 + sa * 2 ^ 10 + vd * 2 ^ 7 + op * 2
/-- Format VS. -/
def encVS (op fn lane et s v : Nat) : Nat := fn * 2 ^ 23 + lane * 2 ^ 17 + et * 2 ^ 15 + s * 2 ^ 10 + v * 2 ^ 7 + op * 2
/-- Format P. -/
def encP (op fn pb pa pd : Nat) : Nat := fn * 2 ^ 16 + pb * 2 ^ 13 + pa * 2 ^ 10 + pd * 2 ^ 7 + op * 2
/-- Format MC; `rsv` holds the reserved bits [31:20] above the reserved bits [16:9]. -/
def encMC (op rsv f3 acc : Nat) : Nat := rsv / 256 * 2 ^ 20 + f3 * 2 ^ 17 + rsv % 256 * 2 ^ 9 + acc * 2 ^ 7 + op * 2
/-- First word of a 64-bit instruction: bits [31:7] and the opcode, with L set. -/
def enc64 (op hi : Nat) : Nat := hi * 2 ^ 7 + op * 2 + 1

/-! ### What a kernel's descriptor says (Table 02-3) -/

/-- GROUPS of a launch body. -/
def dGroups (d : Vec) : Nat := fieldOf d 32 5
/-- GROUP_THREADS of a launch body. -/
def dThreads (d : Vec) : Nat := fieldOf d 37 1
/-- PERSIST of a launch body. -/
def dPersist (d : Vec) : Bool := bitOf (fieldOf d 38 1) 0
/-- The descriptor of a context's running kernel. -/
def State.kdesc (s : State) (c : Nat) : Vec := match (s.ctx c).kernel with | some k => k.q.d | none => 0
/-- SEQ of a context's running kernel. -/
def State.kseq (s : State) (c : Nat) : Nat := match (s.ctx c).kernel with | some k => k.q.seq | none => 0

/-! ### Issue (R38, R39, R106, R107) -/

/-- What an instruction needs and what is wrong with it. -/
structure Issue where
  /-- first word, the detail of ILLEGAL -/
  w0 : Nat
  len : Nat := 4
  want : Want
  /-- registers read as sources, whose marks are consumed (R108) -/
  srcs : List Reg
  /-- a field rule is not met (R73) -/
  bad : Bool := false
  /-- other failing checks: exception code and detail -/
  checks : List (Nat × Word) := []
  /-- an access that would stall on an absent segment: source, access, address, length (R203) -/
  stall : List (Nat × Nat × Nat × Nat) := []
  /-- a Shelf extent that it reads at issue: offset and bytes (R141) -/
  rd : Nat × Nat := (0, 0)
  /-- the pc stays at the instruction: END and the waits -/
  hold : Bool := false

/-- The issue stage selects this slot now: the first Ready one at or after the pointer (R39), or any Ready one under
RATTLE_ARB.ISSUE (R440), in a composition not frozen. -/
def State.selected (s : State) (u t : Nat) : Bool :=
  let x := s.unt u
  (if s.fld rRATTLE_ARB 0 0 = 1 then (x.thr t).st == .ready
   else ((List.range 8).map (fun i => (x.ptr + i) % 8)).find? (fun i => (x.thr i).st == .ready) == some t) &&
    !s.frozen (s.compOf (x.thr t).ctx)
/-- The fetch check at the pc: exception code, none when the fetch passes (R76, R107). -/
def State.fetchCheck (s : State) (c pc len : Nat) : Option Nat := s.segCheck c pc len permR
/-- Whether a part of a fetch lies in the Cellar or in another package. -/
def State.fetchFar (s : State) (c pc len : Nat) : Bool :=
  (s.extent c pc len).any (fun p => match p.2.1 with | .cellar _ _ => true | .remote _ => true | _ => false)
/-- A thread begins to fetch from there: the sectors (R174), and RD requests for what other packages hold. -/
def State.fetchWant (s : State) (u t c pc len : Nat) : State :=
  let id := s.nonce
  let ps := s.hubParts c pc len
  let s := ((s.updThr u t (fun th => { th with fetch := some ⟨id, ps.length, false⟩ })).tick).sectorsWant c pc len
  ps.foldl (fun s p => s.request (s.mkReq 0x01 p.1 u c p.2.1 p.2.2 [] 0 (.fetch u t id))) s
/-- Whether everything that a thread fetches from there has come. -/
def State.fetchCame (s : State) (u t c pc len : Nat) : Bool :=
  match (s.thr u t).fetch with | some f => f.parts == 0 && s.sectorsHere c pc len | none => false
/-- Fetch one line, at a program address, through the region cache; whether it, or what was fetched before, is poisoned
(R76, R136). -/
def State.fetchLine (x : Bool × State) (u c a : Nat) : Bool × State :=
  match x.2.translate c a with
  | .larder key =>
    let r := x.2.cacheRead (rgnOf u) key (x.2.inCoherent c a) 1
    (x.1 || r.2.1, if r.2.1 then r.2.2.notePoisonRead key else r.2.2)
  | .cellar e b => (x.1 || (x.2.celBytes e b 1).isNone, x.2)
  | _ => x
/-- The lines of an instruction are fetched: whether any of them is poisoned, and the state after (R76, R107, R160). -/
def State.fetched (s : State) (u t len : Nat) : Bool × State :=
  let th := s.thr u t
  let c := th.ctx
  let pc := th.pc.toNat
  let r := (linesOf pc len).foldl (fun x l => State.fetchLine x u c (64 * l)) ((th.fetch.map (·.bad)).getD false, s)
  if s.fetchFar c pc len then (r.1, (r.2.sectorsDrop c pc len).updThr u t (fun th => { th with fetch := none })) else r
/-- The state from which an instruction of `len` bytes issues: its lines have been fetched. -/
def State.atIssue (s : State) (u t len : Nat) : State := (s.fetched u t len).2
/-- Whether an issue finds an error: on a line fetched or in the region cache, or in the control path of the unit's engines. -/
def State.issueFlaw (s : State) (u c pc len : Nat) : Bool :=
  s.flawed (.unitCtrl u) || s.flawed (.cacheTag (rgnOf u)) || s.flawed (.cacheData (rgnOf u)) ||
    (linesOf pc len).any (fun l => match s.translate c (64 * l) with | .larder k => s.flawed (.line (k / 64)) | _ => false)
/-- The lowest code among failing checks, and its detail (R107). -/
def lowestCheck (l : List (Nat × Word)) : Option (Nat × Word) := (sortBy (fun a b => decide (a.1 ≤ b.1)) l).head?
/-- All failing checks of an instruction: field rules, its own checks, and marks it would consume.  Of two with the same code
the first here gives the detail word. -/
def Issue.failing (i : Issue) (th : Thread) : List (Nat × Word) :=
  (if i.bad then [(0x01, w64 i.w0)] else []) ++ i.checks ++
    (i.srcs.filterMap (fun r => (th.mark? r).map (fun m => (m.code, m.detail))))
/-- The thread has issued: the pointer moves to the slot after it and the pc past the instruction. -/
def State.advance (s : State) (u t : Nat) (i : Issue) : State :=
  let s := s.updUnt u (fun x => { x with ptr := (t + 1) % 8 })
  if i.hold then s else s.updThr u t (fun th => { th with pc := th.pc + BitVec.ofNat 64 i.len })
/-- Issue an instruction whose lines have been fetched: it waits for what it needs, raises the lowest failing check, stalls on
an absent segment, or has its effect.  A Shelf extent that it reads at issue is read when no check with a lower code than
POISON fails; a control parity error stops the operation (R155, R416). -/
def State.issueNow (s : State) (u t : Nat) (i : Issue) (eff : State → State) : State :=
  let x := s.unt u
  let th := x.thr t
  if th.st ≠ .ready then s
  else if !x.wantOk t i.want then s.setThr u t { th with st := .pending, want := some i.want }
  else
    match lowestCheck (i.failing th) with
    | some e =>
      (if i.checks.any (fun k => k.1 = 0x10) ∧ e.1 = 0x10 then s.shelfMeet u i.rd.1 i.rd.2 2 else s).takeExc u t e.1 e.2
    | none =>
      match i.stall with
      | a :: _ => s.stallThread u t a.1 a.2.1 a.2.2.1 a.2.2.2
      | [] =>
        if s.flawed (.unitCtrl u) then s.meet (.unitCtrl u) 2
        else (eff (s.advance u t i)).shelfMeet u i.rd.1 i.rd.2 2
/-- Issue an instruction of a selected thread: the fetch is checked and made (R76, R107), and the instruction issues; a thread
whose instruction still comes from the Cellar or another package stays Ready. -/
def State.issue (s : State) (u t : Nat) (i : Issue) (eff : State → State) : State :=
  if !s.selected u t then s
  else
    let th := s.thr u t
    let c := th.ctx
    let pc := th.pc.toNat
    match s.fetchCheck c pc i.len with
    | some code => s.takeExc u t code th.pc
    | none =>
      if s.absent c pc then s.stallThread u t 5 1 pc i.len
      else if s.fetchFar c pc i.len && !s.fetchCame u t c pc i.len then
        (if th.fetch.isNone then s.fetchWant u t c pc i.len else s)
      else if (s.fetched u t i.len).1 then (s.atIssue u t i.len).takeExc u t 0x10 th.pc
      else (s.atIssue u t i.len).issueNow u t i eff
/-- A command on a unit: a unit that the grade does not have stops the block (R2). -/
def State.onUnit (s : State) (u : Nat) (s' : State) : Host.Outcome State Fault Refusal :=
  if s.unitOk u then s.live s' else .fault .noSuchUnit

/-- The want of an instruction that names scalar registers only. -/
def wantS (l : List Nat) : Want := { regs := l.map Reg.s }
/-- A register-only scalar instruction: sources, destination and the value. -/
def State.scalarOp (s : State) (u t w0 d : Nat) (srcs : List Nat) (bad : Bool) (val : Thread → Word) : State :=
  s.issue u t { w0 := w0, want := wantS (d :: srcs), srcs := srcs.map Reg.s, bad := bad }
    (fun s => s.updThr u t (fun th => th.setS d (val th)))

/-! ### Checks of accesses (R82, R86, R94, R96, Table 07-5) -/

/-- The failing segment check of an access, with the program address as detail. -/
def State.segPlain (s : State) (c addr len perm : Nat) : List (Nat × Word) :=
  match s.segCheck c addr len perm with | some k => [(k, w64 addr)] | none => []
/-- The failing checks of an access; a write that meets a post area lacks its permission (R277). -/
def State.segChecks (s : State) (c addr len perm : Nat) : List (Nat × Word) :=
  s.segPlain c addr len perm ++ (if perm ≠ permR ∧ s.postHit c addr len = true then [(0x0A, w64 addr)] else [])
/-- The stall of an access to an absent segment. -/
def State.stalls (s : State) (c source access addr len : Nat) : List (Nat × Nat × Nat × Nat) :=
  if s.absent c addr then [(source, access, addr, len)] else []
/-- MISALIGNED when an address is not a multiple. -/
def alignCheck (addr n : Nat) : List (Nat × Word) := if addr % n = 0 then [] else [(0x06, w64 addr)]
/-- SHELF_RANGE when an extent leaves the Shelf. -/
def shelfCheck (off n : Nat) : List (Nat × Word) := if off + n ≤ 16384 then [] else [(0x07, w64 off)]

end Sys2Proof.Machine
end

