-- ==== Sys2Proof/Machine/Scalar.lean ====
section
/-! DEFINITION. The scalar engine (R70, R78 to R82): register and immediate operations, branches, special registers, loads
and stores. -/

namespace Sys2Proof.Machine

/-! ### SALU (Table 03-7) -/

/-- A SALU instruction. -/
def State.salu (s : State) (u t fn d a b : Nat) (bad : Bool) (f : Word → Word → Word) :
    Host.Outcome State Fault Refusal :=
  s.onUnit u (s.scalarOp u t (encA 0x01 fn b a d) d [a, b] bad (fun th => f (th.gs a) (th.gs b)))
/-- Leading zeros below bit `n`. -/
def clzN (x : Word) : (n : Nat) → Nat
  | 0 => 0
  | n + 1 => if x.getLsbD n then 0 else 1 + clzN x n
/-- Trailing zeros: counted from bit `64 - n`. -/
def ctzN (x : Word) : (n : Nat) → Nat
  | 0 => 0
  | n + 1 => if x.getLsbD (63 - n) then 0 else 1 + ctzN x n
/-- Signed quotient toward zero, with the results of R79. -/
def divS (a b : Word) : Word := if b = 0 then BitVec.allOnes 64 else a.sdiv b
/-- Unsigned quotient (R79). -/
def divU (a b : Word) : Word := if b = 0 then BitVec.allOnes 64 else a.udiv b
/-- Signed remainder with the sign of `a` (R79). -/
def remS (a b : Word) : Word := if b = 0 then a else a.srem b
/-- Unsigned remainder (R79). -/
def remU (a b : Word) : Word := if b = 0 then a else a.umod b
/-- High 64 bits of a product of integers. -/
def mulHigh (x y : Int) : Word := BitVec.ofInt 64 (x * y / 2 ^ 64)
/-- A Bool as a 64-bit word. -/
def bWord (b : Bool) : Word := if b then 1 else 0

/-- ADD (R78). -/
def execAdd (u : BitVec 20) (t : BitVec 3) (d a b : BitVec 5) (s : State) : Host.Outcome State Fault Refusal :=
  s.salu u.toNat t.toNat 0x000 d.toNat a.toNat b.toNat false (fun x y => x + y)
/-- SUB (R78). -/
def execSub (u : BitVec 20) (t : BitVec 3) (d a b : BitVec 5) (s : State) : Host.Outcome State Fault Refusal :=
  s.salu u.toNat t.toNat 0x001 d.toNat a.toNat b.toNat false (fun x y => x - y)
/-- AND (R78). -/
def execAnd (u : BitVec 20) (t : BitVec 3) (d a b : BitVec 5) (s : State) : Host.Outcome State Fault Refusal :=
  s.salu u.toNat t.toNat 0x002 d.toNat a.toNat b.toNat false (fun x y => x &&& y)
/-- OR (R78). -/
def execOr (u : BitVec 20) (t : BitVec 3) (d a b : BitVec 5) (s : State) : Host.Outcome State Fault Refusal :=
  s.salu u.toNat t.toNat 0x003 d.toNat a.toNat b.toNat false (fun x y => x ||| y)
/-- XOR (R78). -/
def execXor (u : BitVec 20) (t : BitVec 3) (d a b : BitVec 5) (s : State) : Host.Outcome State Fault Refusal :=
  s.salu u.toNat t.toNat 0x004 d.toNat a.toNat b.toNat false (fun x y => x ^^^ y)
/-- SLL (R78): the count is b[5:0]. -/
def execSll (u : BitVec 20) (t : BitVec 3) (d a b : BitVec 5) (s : State) : Host.Outcome State Fault Refusal :=
  s.salu u.toNat t.toNat 0x005 d.toNat a.toNat b.toNat false (fun x y => x <<< (y.toNat % 64))
/-- SRL (R78). -/
def execSrl (u : BitVec 20) (t : BitVec 3) (d a b : BitVec 5) (s : State) : Host.Outcome State Fault Refusal :=
  s.salu u.toNat t.toNat 0x006 d.toNat a.toNat b.toNat false (fun x y => x >>> (y.toNat % 64))
/-- SRA (R78). -/
def execSra (u : BitVec 20) (t : BitVec 3) (d a b : BitVec 5) (s : State) : Host.Outcome State Fault Refusal :=
  s.salu u.toNat t.toNat 0x007 d.toNat a.toNat b.toNat false (fun x y => x.sshiftRight (y.toNat % 64))
/-- SLT (R78). -/
def execSlt (u : BitVec 20) (t : BitVec 3) (d a b : BitVec 5) (s : State) : Host.Outcome State Fault Refusal :=
  s.salu u.toNat t.toNat 0x008 d.toNat a.toNat b.toNat false (fun x y => bWord (x.slt y))
/-- SLTU (R78). -/
def execSltu (u : BitVec 20) (t : BitVec 3) (d a b : BitVec 5) (s : State) : Host.Outcome State Fault Refusal :=
  s.salu u.toNat t.toNat 0x009 d.toNat a.toNat b.toNat false (fun x y => bWord (x.ult y))
/-- MUL (R78). -/
def execMul (u : BitVec 20) (t : BitVec 3) (d a b : BitVec 5) (s : State) : Host.Outcome State Fault Refusal :=
  s.salu u.toNat t.toNat 0x010 d.toNat a.toNat b.toNat false (fun x y => x * y)
/-- MULHU (R78). -/
def execMulhu (u : BitVec 20) (t : BitVec 3) (d a b : BitVec 5) (s : State) : Host.Outcome State Fault Refusal :=
  s.salu u.toNat t.toNat 0x011 d.toNat a.toNat b.toNat false (fun x y => mulHigh x.toNat y.toNat)
/-- MULH (R78). -/
def execMulh (u : BitVec 20) (t : BitVec 3) (d a b : BitVec 5) (s : State) : Host.Outcome State Fault Refusal :=
  s.salu u.toNat t.toNat 0x012 d.toNat a.toNat b.toNat false (fun x y => mulHigh x.toInt y.toInt)
/-- DIV (R79). -/
def execDiv (u : BitVec 20) (t : BitVec 3) (d a b : BitVec 5) (s : State) : Host.Outcome State Fault Refusal :=
  s.salu u.toNat t.toNat 0x018 d.toNat a.toNat b.toNat false divS
/-- DIVU (R79). -/
def execDivu (u : BitVec 20) (t : BitVec 3) (d a b : BitVec 5) (s : State) : Host.Outcome State Fault Refusal :=
  s.salu u.toNat t.toNat 0x019 d.toNat a.toNat b.toNat false divU
/-- REM (R79). -/
def execRem (u : BitVec 20) (t : BitVec 3) (d a b : BitVec 5) (s : State) : Host.Outcome State Fault Refusal :=
  s.salu u.toNat t.toNat 0x01A d.toNat a.toNat b.toNat false remS
/-- REMU (R79). -/
def execRemu (u : BitVec 20) (t : BitVec 3) (d a b : BitVec 5) (s : State) : Host.Outcome State Fault Refusal :=
  s.salu u.toNat t.toNat 0x01B d.toNat a.toNat b.toNat false remU
/-- MIN (R78). -/
def execMin (u : BitVec 20) (t : BitVec 3) (d a b : BitVec 5) (s : State) : Host.Outcome State Fault Refusal :=
  s.salu u.toNat t.toNat 0x020 d.toNat a.toNat b.toNat false (fun x y => if x.slt y then x else y)
/-- MAX (R78). -/
def execMax (u : BitVec 20) (t : BitVec 3) (d a b : BitVec 5) (s : State) : Host.Outcome State Fault Refusal :=
  s.salu u.toNat t.toNat 0x021 d.toNat a.toNat b.toNat false (fun x y => if x.slt y then y else x)
/-- MINU (R78). -/
def execMinu (u : BitVec 20) (t : BitVec 3) (d a b : BitVec 5) (s : State) : Host.Outcome State Fault Refusal :=
  s.salu u.toNat t.toNat 0x022 d.toNat a.toNat b.toNat false (fun x y => if x.ult y then x else y)
/-- MAXU (R78). -/
def execMaxu (u : BitVec 20) (t : BitVec 3) (d a b : BitVec 5) (s : State) : Host.Outcome State Fault Refusal :=
  s.salu u.toNat t.toNat 0x023 d.toNat a.toNat b.toNat false (fun x y => if x.ult y then y else x)
/-- POPC (R78): b must be s0. -/
def execPopc (u : BitVec 20) (t : BitVec 3) (d a b : BitVec 5) (s : State) : Host.Outcome State Fault Refusal :=
  s.salu u.toNat t.toNat 0x028 d.toNat a.toNat b.toNat (b ≠ 0) (fun x _ => w64 (popc x.toNat 64))
/-- CLZ (R78): b must be s0. -/
def execClz (u : BitVec 20) (t : BitVec 3) (d a b : BitVec 5) (s : State) : Host.Outcome State Fault Refusal :=
  s.salu u.toNat t.toNat 0x029 d.toNat a.toNat b.toNat (b ≠ 0) (fun x _ => w64 (clzN x 64))
/-- CTZ (R78): b must be s0. -/
def execCtz (u : BitVec 20) (t : BitVec 3) (d a b : BitVec 5) (s : State) : Host.Outcome State Fault Refusal :=
  s.salu u.toNat t.toNat 0x02A d.toNat a.toNat b.toNat (b ≠ 0) (fun x _ => w64 (ctzN x 64))

/-! ### SALUI, LUI, LI, LIH (R80) -/

/-- A SALUI instruction. -/
def State.salui (s : State) (u t f3 d a : Nat) (imm : BitVec 12) (bad : Bool) (f : Word → Word) :
    Host.Outcome State Fault Refusal :=
  s.onUnit u (s.scalarOp u t (encI 0x02 imm.toNat f3 a d) d [a] bad (fun th => f (th.gs a)))
/-- Shift immediates: imm12[11:6] must be zero. -/
def badShift (imm : BitVec 12) : Bool := decide (64 ≤ imm.toNat)

/-- ADDI (R80). -/
def execAddi (u : BitVec 20) (t : BitVec 3) (d a : BitVec 5) (imm : BitVec 12) (s : State) : Host.Outcome State Fault Refusal :=
  s.salui u.toNat t.toNat 0 d.toNat a.toNat imm false (fun x => x + sext imm)
/-- ANDI (R80). -/
def execAndi (u : BitVec 20) (t : BitVec 3) (d a : BitVec 5) (imm : BitVec 12) (s : State) : Host.Outcome State Fault Refusal :=
  s.salui u.toNat t.toNat 1 d.toNat a.toNat imm false (fun x => x &&& sext imm)
/-- ORI (R80). -/
def execOri (u : BitVec 20) (t : BitVec 3) (d a : BitVec 5) (imm : BitVec 12) (s : State) : Host.Outcome State Fault Refusal :=
  s.salui u.toNat t.toNat 2 d.toNat a.toNat imm false (fun x => x ||| sext imm)
/-- XORI (R80). -/
def execXori (u : BitVec 20) (t : BitVec 3) (d a : BitVec 5) (imm : BitVec 12) (s : State) : Host.Outcome State Fault Refusal :=
  s.salui u.toNat t.toNat 3 d.toNat a.toNat imm false (fun x => x ^^^ sext imm)
/-- SLTI (R80). -/
def execSlti (u : BitVec 20) (t : BitVec 3) (d a : BitVec 5) (imm : BitVec 12) (s : State) : Host.Outcome State Fault Refusal :=
  s.salui u.toNat t.toNat 4 d.toNat a.toNat imm false (fun x => bWord (x.slt (sext imm)))
/-- SLLI (R80). -/
def execSlli (u : BitVec 20) (t : BitVec 3) (d a : BitVec 5) (imm : BitVec 12) (s : State) : Host.Outcome State Fault Refusal :=
  s.salui u.toNat t.toNat 5 d.toNat a.toNat imm (badShift imm) (fun x => x <<< (imm.toNat % 64))
/-- SRLI (R80). -/
def execSrli (u : BitVec 20) (t : BitVec 3) (d a : BitVec 5) (imm : BitVec 12) (s : State) : Host.Outcome State Fault Refusal :=
  s.salui u.toNat t.toNat 6 d.toNat a.toNat imm (badShift imm) (fun x => x >>> (imm.toNat % 64))
/-- SRAI (R80). -/
def execSrai (u : BitVec 20) (t : BitVec 3) (d a : BitVec 5) (imm : BitVec 12) (s : State) : Host.Outcome State Fault Refusal :=
  s.salui u.toNat t.toNat 7 d.toNat a.toNat imm (badShift imm) (fun x => x.sshiftRight (imm.toNat % 64))
/-- LUI (R80). -/
def execLui (u : BitVec 20) (t : BitVec 3) (d : BitVec 5) (imm : BitVec 20) (s : State) : Host.Outcome State Fault Refusal :=
  s.onUnit u.toNat (s.scalarOp u.toNat t.toNat (encU 0x03 imm.toNat d.toNat) d.toNat [] false
    (fun _ => sext (imm ++ (0 : BitVec 12))))
/-- A 64-bit LI or LIH: `r1` is the reserved field [31:12] of the first word. -/
def State.loadImm (s : State) (u t op d : Nat) (r1 : BitVec 20) (srcs : List Nat) (val : Thread → Word) :
    Host.Outcome State Fault Refusal :=
  s.onUnit u (s.issue u t
    { w0 := enc64 op (r1.toNat * 32 + d), len := 8, want := wantS (d :: srcs), srcs := srcs.map Reg.s, bad := r1 ≠ 0 }
    (fun s => s.updThr u t (fun th => th.setS d (val th))))
/-- LI (R80). -/
def execLi (u : BitVec 20) (t : BitVec 3) (d : BitVec 5) (imm : BitVec 32) (r1 : BitVec 20) (s : State) :
    Host.Outcome State Fault Refusal :=
  s.loadImm u.toNat t.toNat 0x0C d.toNat r1 [] (fun _ => sext imm)
/-- LIH (R80): d[63:32] becomes imm32 and d[31:0] stays, so d is a source. -/
def execLih (u : BitVec 20) (t : BitVec 3) (d : BitVec 5) (imm : BitVec 32) (r1 : BitVec 20) (s : State) :
    Host.Outcome State Fault Refusal :=
  s.loadImm u.toNat t.toNat 0x0D d.toNat r1 [d.toNat] (fun th => imm ++ (th.gs d.toNat).extractLsb' 0 32)

/-! ### Branches (R81) -/

/-- The condition C of BR. -/
def brTaken (c : Nat) (a b : Word) : Bool :=
  match c with
  | 0 => a == b
  | 1 => a != b
  | 2 => a.slt b
  | 3 => !a.slt b
  | 4 => a.ult b
  | _ => !a.ult b
/-- BR (R81): the target is the branch's own address plus 4·off10. -/
def execBr (u : BitVec 20) (t : BitVec 3) (c a b : BitVec 5) (off : BitVec 10) (s : State) : Host.Outcome State Fault Refusal :=
  let u' := u.toNat
  let t' := t.toNat
  s.onUnit u' (s.issue u' t'
    { w0 := encB 0x04 off.toNat b.toNat a.toNat c.toNat, want := wantS [a.toNat, b.toNat],
      srcs := [.s a.toNat, .s b.toNat], bad := decide (5 < c.toNat) }
    (fun s => s.updThr u' t' (fun th =>
      if brTaken c.toNat (th.gs a.toNat) (th.gs b.toNat) then { th with pc := th.pc - 4 + (sext off) * 4 } else th)))
/-- JAL (R81). -/
def execJal (u : BitVec 20) (t : BitVec 3) (d : BitVec 5) (imm : BitVec 20) (s : State) : Host.Outcome State Fault Refusal :=
  let u' := u.toNat
  let t' := t.toNat
  s.onUnit u' (s.issue u' t' { w0 := encU 0x05 imm.toNat d.toNat, want := wantS [d.toNat], srcs := [] }
    (fun s => s.updThr u' t' (fun th => { th.setS d.toNat th.pc with pc := th.pc - 4 + (sext imm) * 4 })))
/-- JALR (R81): F3 must be 0, and a target that is not 4-byte aligned raises MISALIGNED. -/
def execJalr (u : BitVec 20) (t : BitVec 3) (d a : BitVec 5) (imm : BitVec 12) (f3 : BitVec 3) (s : State) :
    Host.Outcome State Fault Refusal :=
  let u' := u.toNat
  let t' := t.toNat
  let target := (s.thr u' t').gs a.toNat + sext imm
  s.onUnit u' (s.issue u' t'
    { w0 := encI 0x06 imm.toNat f3.toNat a.toNat d.toNat, want := wantS [d.toNat, a.toNat], srcs := [.s a.toNat],
      bad := f3 ≠ 0, checks := alignCheck target.toNat 4 }
    (fun s => s.updThr u' t' (fun th => { th.setS d.toNat th.pc with pc := target })))

/-! ### Special registers (R70, R71, Table 03-2) -/

/-- The value of a special register; none for an index that Table 03-2 does not define. -/
def State.srRead (s : State) (u t idx : Nat) : Option Word :=
  let x := s.unt u
  let th := x.thr t
  let d := s.kdesc th.ctx
  match idx with
  | 0x000 => some (w64 th.tid)
  | 0x001 => some (w64 th.group)
  | 0x002 => some (w64 (dGroups d))
  | 0x003 => some (w64 (dThreads d))
  | 0x004 => some (w64 (fieldOf d 24 8))
  | 0x005 => some (w64 (s.locator u))
  | 0x006 => some (w64 th.ctx)
  | 0x007 => some (w64 (s.compOf th.ctx))
  | 0x008 => some (w64 (s.kseq th.ctx))
  | 0x009 => some (bWord (dPersist d))
  | 0x010 => some (w64 s.count)
  | 0x011 => some (w64 (32 * (s.count - th.placed) + Config.cyclePhase s.nonce % 32))
  | 0x020 => some th.fpctl
  | 0x021 => some th.vflags
  | 0x022 => some th.srseed
  | 0x030 => some th.rtmo
  | 0x031 => some (w64 ((List.range 4).foldl (fun m i => m + b2n (th.dma.toList.getD i none).isSome * 2 ^ i) 0))
  | 0x032 => some (w64 ((List.range 4).foldl (fun m i =>
      m + b2n ((let a := x.acc.toList.getD i .reset; a.holder == some t && !a.releasing)) * 2 ^ i) 0))
  | _ => none
/-- Writable bits of a special register; none when SWR may not name it. -/
def srMask (idx : Nat) : Option Word :=
  match idx with
  | 0x020 => some (w64 fpctlMask)
  | 0x021 => some (w64 vflagsMask)
  | 0x022 => some (BitVec.allOnes 64)
  | 0x030 => some 0xFFFFFFFF#64
  | _ => none
/-- Set a writable special register. -/
def Thread.srSet (th : Thread) (idx : Nat) (v : Word) : Thread :=
  match idx with
  | 0x020 => { th with fpctl := v }
  | 0x021 => { th with vflags := v }
  | 0x022 => { th with srseed := v }
  | _ => { th with rtmo := v }
/-- SRD (R70): a must be 0; SR_VFLAGS waits for the thread's vector instructions (R71). -/
def execSrd (u : BitVec 20) (t : BitVec 3) (d a : BitVec 5) (idx : BitVec 12) (s : State) : Host.Outcome State Fault Refusal :=
  let u' := u.toNat
  let t' := t.toNat
  let v := s.srRead u' t' idx.toNat
  s.onUnit u' (s.issue u' t'
    { w0 := encI 0x07 idx.toNat 0 a.toNat d.toNat, want := { wantS [d.toNat] with vdone := decide (idx.toNat = 0x021) },
      srcs := [], bad := a ≠ 0, checks := if v.isNone then [(0x02, w64 idx.toNat)] else [] }
    (fun s => (s.updThr u' t' (fun th => th.setS d.toNat (v.getD 0))).tick))
/-- SWR (R70): d must be 0; SPECIAL for an undefined index, a read-only register or a reserved bit set. -/
def execSwr (u : BitVec 20) (t : BitVec 3) (d a : BitVec 5) (idx : BitVec 12) (s : State) : Host.Outcome State Fault Refusal :=
  let u' := u.toNat
  let t' := t.toNat
  let v := (s.thr u' t').gs a.toNat
  let ok := match srMask idx.toNat with | some m => decide (v &&& ~~~m = 0) | none => false
  s.onUnit u' (s.issue u' t'
    { w0 := encI 0x07 idx.toNat 1 a.toNat d.toNat, want := wantS [a.toNat], srcs := [.s a.toNat], bad := d ≠ 0,
      checks := if ok then [] else [(0x02, w64 idx.toNat)] }
    (fun s => s.updThr u' t' (fun th => th.srSet idx.toNat v)))

/-! ### Loads and stores (R82) -/

/-- Start a load: a scoreboard entry, and the request or the sector fetch that the place needs (R41, R136, R174). -/
def State.startLoad (s : State) (u t : Nat) (reg : Reg) (addr n sz mask : Nat) (zero : Bool) : State :=
  let c := (s.thr u t).ctx
  let id := s.nonce
  let far := s.extentRemote c addr n
  let l : Load := { id := id, reg := reg, addr := addr, sz := sz, mask := mask, zero := zero, rmt := none,
                    remote := decide (far ≠ []), dest := far.headD s.self, sent := true, tmo := (s.thr u t).rtmo.toNat }
  let s := (s.updThr u t (fun th => { th with loads := th.loads ++ [l] })).tick
  match far with
  | p :: _ => s.request (s.mkReq 0x01 p u c addr n [] (s.thr u t).rtmo.toNat (.load u t id))
  | [] => s.sectorsWant c addr n
/-- Start a store: a write-buffer entry, and the request when another package holds the place and no earlier write of the
thread to that package is still unsent (R82, R98). -/
def State.startStore (s : State) (u t addr n data mask sz dest : Nat) : State :=
  let id := s.nonce
  let free := !(s.unt u).unsent s.self t id [dest]
  let e : WbEntry := { id := id, slot := t, addr := addr, len := n, data := data, mask := mask, rmt := none, sz := sz,
                       remote := decide (dest ≠ s.self), failed := none, done := false, dest := dest, sent := free,
                       tmo := (s.thr u t).rtmo.toNat }
  let s := (s.updUnt u (fun x => { x with wb := x.wb ++ [e] })).tick
  if free && dest != s.self then s.wbSend u id else s
/-- Effective address of a scalar access. -/
def Thread.ea (th : Thread) (a : Nat) (imm : BitVec 12) : Nat := (th.gs a + sext imm).toNat

/-- LD (R82). -/
def execLd (u : BitVec 20) (t : BitVec 3) (sz : BitVec 3) (d a : BitVec 5) (imm : BitVec 12) (s : State) :
    Host.Outcome State Fault Refusal :=
  let u' := u.toNat
  let t' := t.toNat
  let th := s.thr u' t'
  let ea := th.ea a.toNat imm
  let n := szBytes sz.toNat
  s.onUnit u' (s.issue u' t'
    { w0 := encI 0x08 imm.toNat sz.toNat a.toNat d.toNat, want := { wantS [d.toNat, a.toNat] with score := true },
      srcs := [.s a.toNat], bad := decide (sz.toNat = 7),
      checks := alignCheck ea n ++ s.segChecks th.ctx ea n permR, stall := s.stalls th.ctx 0 1 ea n }
    (fun s => s.startLoad u' t' (.s d.toNat) ea n sz.toNat 0 false))
/-- ST (R82): SZ 4–7 are illegal. -/
def execSt (u : BitVec 20) (t : BitVec 3) (sz : BitVec 3) (a b : BitVec 5) (imm : BitVec 12) (s : State) :
    Host.Outcome State Fault Refusal :=
  let u' := u.toNat
  let t' := t.toNat
  let th := s.thr u' t'
  let ea := th.ea a.toNat imm
  let n := 2 ^ (sz.toNat % 4)
  let v := (th.gs b.toNat).toNat % 2 ^ (8 * n)
  let dest := (s.extentRemote th.ctx ea n).headD s.self
  s.onUnit u' (s.issue u' t'
    { w0 := encS 0x09 imm.toNat sz.toNat a.toNat b.toNat, want := { wantS [a.toNat, b.toNat] with wb := true },
      srcs := [.s a.toNat, .s b.toNat], bad := decide (3 < sz.toNat),
      checks := alignCheck ea n ++ s.segChecks th.ctx ea n permW, stall := s.stalls th.ctx 0 2 ea n }
    (fun s => s.startStore u' t' ea n v (fullMask n) sz.toNat dest))
/-- LDS (R82, R141): reads at issue; a poisoned row raises POISON with detail 0 (R108). -/
def execLds (u : BitVec 20) (t : BitVec 3) (sz : BitVec 3) (d a : BitVec 5) (imm : BitVec 12) (s : State) :
    Host.Outcome State Fault Refusal :=
  let u' := u.toNat
  let t' := t.toNat
  let ea := (s.thr u' t').ea a.toNat imm
  let n := szBytes sz.toNat
  let range := shelfCheck ea n
  s.onUnit u' (s.issue u' t'
    { w0 := encI 0x0A imm.toNat sz.toNat a.toNat d.toNat, want := wantS [d.toNat, a.toNat], srcs := [.s a.toNat],
      bad := decide (sz.toNat = 7), rd := (ea, n),
      checks := alignCheck ea n ++ range ++ (if range = [] ∧ s.rowsPoison u' ea n then [(0x10, 0)] else []) }
    (fun s => s.updThr u' t' (fun th => th.setS d.toNat (loadValue sz.toNat (s.shelfNat u' ea n)))))
/-- STS (R82, R141): performed at issue. -/
def execSts (u : BitVec 20) (t : BitVec 3) (sz : BitVec 3) (a b : BitVec 5) (imm : BitVec 12) (s : State) :
    Host.Outcome State Fault Refusal :=
  let u' := u.toNat
  let t' := t.toNat
  let th := s.thr u' t'
  let ea := th.ea a.toNat imm
  let n := 2 ^ (sz.toNat % 4)
  let v := (th.gs b.toNat).toNat
  s.onUnit u' (s.issue u' t'
    { w0 := encS 0x0B imm.toNat sz.toNat a.toNat b.toNat, want := wantS [a.toNat, b.toNat],
      srcs := [.s a.toNat, .s b.toNat], bad := decide (3 < sz.toNat), checks := alignCheck ea n ++ shelfCheck ea n }
    (fun s => s.shelfWrite u' ea (leBytes n v) false))

end Sys2Proof.Machine
end

