-- ==== Sys2Proof/Machine/Vector.lean ====
section
/-! DEFINITION. The vector engine: results of VALU, VCVT, PRED, VMOV, VAFLT and TKI, and their issue into the engine's
queue with the operands they capture (R71, R83 to R87, R100 to R102, R125 to R129). -/

namespace Sys2Proof.Machine

/-! ### VALU results (Table 03-8) -/

/-- Number of elements at an element width code; ET 3 is the whole register. -/
def elems (et : Nat) : Nat := 64 / 2 ^ et
/-- Whether element `i` of width code `et` is active (R69). -/
def activeAt (pg et i : Nat) : Bool := bitOf pg (i * 2 ^ et)
/-- An integer element operation of Table 03-8 on `w`-bit elements. -/
def intElem (fn w a b : Nat) : Nat :=
  match fn with
  | 0x000 => a + b
  | 0x001 => a + 2 ^ w - b
  | 0x002 => a * b
  | 0x003 => if toS w a < toS w b then a else b
  | 0x004 => if toS w a < toS w b then b else a
  | 0x005 => min a b
  | 0x006 => max a b
  | 0x008 => a &&& b
  | 0x009 => a ||| b
  | 0x00A => a ^^^ b
  | 0x00B => a <<< (b % w)
  | 0x00C => a >>> (b % w)
  | 0x00D => ofS w (toS w a / 2 ^ (b % w))
  | 0x040 => popc (a ^^^ b) w
  | _ => 0
/-- A binary32 element operation of Table 03-8, with its flags; `c` is the old element of vd. -/
def fpElem (fn : Nat) (rm : RM) (a b c : Nat) : Nat × Nat :=
  match fn with
  | 0x020 => fadd rm a b
  | 0x021 => fsub rm a b
  | 0x022 => fmul rm a b
  | 0x023 => ffma rm a b c
  | 0x024 => (fminmax false a b, 0)
  | 0x025 => (fminmax true a b, 0)
  | 0x030 => vexp a
  | 0x031 => vlog a
  | 0x032 => vrcp a
  | 0x033 => vrsq a
  | _ => vtanh a
/-- A compare of Table 03-8. -/
def cmpElem (fn w a b : Nat) : Bool :=
  match fn with
  | 0x010 => a == b
  | 0x011 => decide (toS w a < toS w b)
  | 0x012 => decide (a < b)
  | 0x013 => fceq a b
  | 0x014 => fclt a b
  | _ => fcle a b
/-- The kinds of VALU function. -/
inductive VKind where
  | int | cmp | fcmp | fp | trans | xpc | redadd | fredadd | sel | perm
  deriving DecidableEq, Repr
/-- The kind of a VALU function code. -/
def vKind (fn : Nat) : VKind :=
  if fn ≤ 0x00D then .int
  else if fn ≤ 0x012 then .cmp
  else if fn ≤ 0x015 then .fcmp
  else if fn ≤ 0x025 then .fp
  else if fn ≤ 0x034 then .trans
  else if fn = 0x040 then .xpc
  else if fn = 0x041 then .redadd
  else if fn = 0x042 then .fredadd
  else if fn = 0x048 then .sel
  else .perm
/-- Whether a VALU function reads vb. -/
def readsB (fn : Nat) : Bool := !(vKind fn == .trans || vKind fn == .redadd || vKind fn == .fredadd)
/-- Whether a VALU function writes a predicate. -/
def writesP (fn : Nat) : Bool := vKind fn == .cmp || vKind fn == .fcmp
/-- Whether a VALU word breaks a field rule (R83). -/
def valuBad (fn et vb : Nat) : Bool :=
  match vKind fn with
  | .fp => et != 2
  | .fcmp => et != 2
  | .fredadd => et != 2
  | .trans => et != 2 || vb != 0
  | .xpc => false
  | _ => et == 3
/-- One level of the pairwise sum of R85. -/
def sumLevel (rm : RM) : List Nat → List (Nat × Nat)
  | a :: b :: r => fadd rm a b :: sumLevel rm r
  | [a] => [(a, 0)]
  | [] => []
/-- The pairwise tree of R85: four levels, flags gathered. -/
def sumTree (rm : RM) : (levels : Nat) → List Nat → Nat × Nat
  | 0, l => (l.headD 0, 0)
  | n + 1, l =>
    let r := sumLevel rm l
    let x := sumTree rm n (r.map Prod.fst)
    (x.1, r.foldl (fun f p => f ||| p.2) x.2)
/-- Merge an element under the Z rule (R69). -/
def zRule (act zero : Bool) (new old : Nat) : Nat := if act then new else if zero then 0 else old
/-- The result of a VALU instruction whose destination is a vector, and the flags it sets. -/
def valuVec (fn et : Nat) (zero : Bool) (pg va vb old : Nat) (rm : RM) : Nat × Nat :=
  let w := 8 * 2 ^ et
  let n := elems et
  let act := activeAt pg et
  match vKind fn with
  | .xpc =>
    if et = 3 then
      ((List.range 64).foldl (fun c i => c + (if bitOf pg i then popc (lane 8 va i ^^^ lane 8 vb i) 8 else 0)) 0, 0)
    else (lanesFrom w (fun i => zRule (act i) zero (intElem fn w (lane w va i) (lane w vb i)) (lane w old i)) 0 n, 0)
  | .redadd => ((List.range n).foldl (fun c i => (c + (if act i then lane w va i else 0)) % 2 ^ w) 0, 0)
  | .fredadd => sumTree rm 4 ((List.range 16).map (fun i => if act i then lane 32 va i else 0))
  | .sel => (lanesFrom w (fun i => if act i then lane w va i else lane w vb i) 0 n, 0)
  | .perm => (lanesFrom w (fun i => zRule (act i) zero (lane w va (lane w vb i % n)) (lane w old i)) 0 n, 0)
  | .fp =>
    let r := (List.range n).map (fun i => fpElem fn rm (lane 32 va i) (lane 32 vb i) (lane 32 old i))
    (lanesFrom w (fun i => zRule (act i) zero (r.getD i (0, 0)).1 (lane w old i)) 0 n,
      (List.range n).foldl (fun f i => if act i then f ||| (r.getD i (0, 0)).2 else f) 0)
  | .trans =>
    let r := (List.range n).map (fun i => if act i then fpElem fn rm (lane 32 va i) 0 0 else (0, 0))
    (lanesFrom w (fun i => zRule (act i) zero (r.getD i (0, 0)).1 (lane w old i)) 0 n,
      (List.range n).foldl (fun f i => f ||| (r.getD i (0, 0)).2) 0)
  | _ => (lanesFrom w (fun i => zRule (act i) zero (intElem fn w (lane w va i) (lane w vb i)) (lane w old i)) 0 n, 0)
/-- The result of a compare: all bits of each active element's predicate field (R69). -/
def valuPred (fn et : Nat) (zero : Bool) (pg va vb old : Nat) : Nat :=
  let w := 8 * 2 ^ et
  let k := 2 ^ et
  lanesFrom k (fun i => zRule (activeAt pg et i) zero
    (if cmpElem fn w (lane w va i) (lane w vb i) then 2 ^ k - 1 else 0) (lane k old i)) 0 (elems et)

/-! ### VCVT (R125 to R129) -/

/-- Replace element `i` of width `w` of a number. -/
def setLane (x w i v : Nat) : Nat := setBits x (w * i + w - 1) (w * i) v
/-- The rounding of element `e` of a narrowing conversion: SR_FPCTL's, or a draw when SRND is set (R129). -/
def cvtRM (fpctl : Nat) (seed : Word) (group tid n e : Nat) : RM :=
  if bitOf fpctl 2 then .draw (srDraw seed group tid e n) else .mode (fpctl % 4)
/-- Target of a narrowing code 0x00 to 0x2F: conversion, element width, part, and whether vb byte 0 scales it. -/
def narrowOf (code : Nat) : Option (Conv × Nat × Nat × Bool) :=
  if code ≤ 0x01 then some (⟨bf16, .ieee, .inf, false⟩, 16, code % 2, false)
  else if code ≤ 0x03 then some (⟨fp16, .ieee, .inf, false⟩, 16, code % 2, false)
  else if code ≤ 0x07 then some (⟨e4m3, .sat, .maxFin, false⟩, 8, code % 4, false)
  else if code ≤ 0x0B then some (⟨e4m3, .nan, .nan, false⟩, 8, code % 4, false)
  else if code ≤ 0x0F then some (⟨e5m2, .sat, .maxFin, false⟩, 8, code % 4, false)
  else if code ≤ 0x13 then some (⟨e5m2, .ieee, .inf, false⟩, 8, code % 4, false)
  else if code ≤ 0x17 then some (⟨e3m2, .sat, .maxFin, true⟩, 8, code % 4, true)
  else if code ≤ 0x1B then some (⟨e2m3, .sat, .maxFin, true⟩, 8, code % 4, true)
  else if code ≤ 0x1F then some (⟨e4m3, .sat, .maxFin, true⟩, 8, code % 4, true)
  else if code ≤ 0x23 then some (⟨e5m2, .sat, .maxFin, true⟩, 8, code % 4, true)
  else if 0x28 ≤ code ∧ code ≤ 0x2F then some (⟨e2m1, .sat, .maxFin, true⟩, 4, code % 8, true)
  else none
/-- Whether Table 04-7 lists a conversion code. -/
def cvtDefined (code : Nat) : Bool :=
  (narrowOf code).isSome || decide (0x30 ≤ code ∧ code ≤ 0x34) || decide (0x40 ≤ code ∧ code ≤ 0x4B) ||
    decide (code = 0x50 ∨ code = 0x51) || decide (0x54 ≤ code ∧ code ≤ 0x5B)
/-- Whether a conversion code reads vb. -/
def cvtReadsB (code : Nat) : Bool :=
  (match narrowOf code with | some x => x.2.2.2 | none => false) || decide (0x30 ≤ code ∧ code ≤ 0x34)
/-- The block scale of R128. -/
def blockScale (emax : Int) (xs : List Nat) : Nat :=
  let vs := xs.map fp32.decode
  if vs.any (fun v => match v with | .fin _ _ _ => false | _ => true) then 0xFF
  else
    let ls := vs.filterMap (fun v => match v with | .fin _ m e => if m = 0 then none else some (ilog2 m e) | _ => none)
    match ls with
    | [] => 0
    | l :: r => (max 0 (min 254 (r.foldl max l - emax + 127))).toNat
/-- The result of a VCVT and its flags (Table 04-7, R127). -/
def vcvt (code : Nat) (zero : Bool) (pg va vb old fpctl : Nat) (seed : Word) (group tid n : Nat) : Nat × Nat :=
  let act := fun i => bitOf pg (4 * i)
  let part (w p : Nat) (f : Nat → Nat × Nat) : Nat × Nat :=
    (List.range 16).foldl (fun x i =>
      if act i then let r := f i; (setLane x.1 w (16 * p + i) r.1, x.2 ||| r.2)
      else if zero then (setLane x.1 w (16 * p + i) 0, x.2) else x) (old, 0)
  let m : RM := .mode (fpctl % 4)
  match narrowOf code with
  | some (c, w, p, scaled) =>
    let xs := lane 8 vb 0
    part w p (fun i =>
      if scaled ∧ xs = 0xFF then (0, flInvalid)
      else
        let v := fp32.decode (lane 32 va i)
        convert c (cvtRM fpctl seed group tid n i) (if scaled then v.scale (127 - (xs : Int)) else v))
  | none =>
    if 0x30 ≤ code ∧ code ≤ 0x34 then
      let emax : Int := [2, 4, 2, 8, 15].getD (code - 0x30) 0
      let on := (List.range 16).filter act
      let x := blockScale emax (on.map (lane 32 va) ++ on.map (lane 32 vb))
      (x + (if zero then 0 else old / 256 * 256), 0)
    else if code ≤ 0x41 then part 32 0 (fun i => pack32 m (bf16.decode (lane 16 va (16 * (code % 2) + i))))
    else if code ≤ 0x43 then part 32 0 (fun i => pack32 m (fp16.decode (lane 16 va (16 * (code % 2) + i))))
    else if code ≤ 0x47 then part 32 0 (fun i => pack32 m (e4m3.decode (lane 8 va (16 * (code % 4) + i))))
    else if code ≤ 0x4B then part 32 0 (fun i => pack32 m (e5m2.decode (lane 8 va (16 * (code % 4) + i))))
    else if code = 0x50 then part 32 0 (fun i => fToInt 32 m (lane 32 va i))
    else if code = 0x51 then part 32 0 (fun i => intToF m (toS 32 (lane 32 va i)))
    else if code ≤ 0x57 then part 8 (code % 4) (fun i => fToInt 8 m (lane 32 va i))
    else part 32 0 (fun i => (ofS 32 (toS 8 (lane 8 va (16 * (code % 4) + i))), 0))

/-! ### PRED and VMOV (Table 03-9) -/

/-- The result of a predicate operation. -/
def predVal (fn pa pb : Nat) : Nat :=
  match fn with
  | 0 => pa &&& pb
  | 1 => pa ||| pb
  | 2 => pa ^^^ pb
  | 3 => pa &&& (pb ^^^ (2 ^ 64 - 1))
  | 4 => pa ^^^ (2 ^ 64 - 1)
  | 5 => 2 ^ 64 - 1
  | _ => 0
/-- The result of a move: scalar `sv`, vector or predicate `v`. -/
def vmovVal (fn ln et sv v : Nat) : Nat :=
  let w := 8 * 2 ^ et
  match fn with
  | 0 => lanesFrom w (fun _ => sv) 0 (elems et)
  | 1 => lane w v ln
  | 2 => setLane v w ln sv
  | 3 => v
  | 4 => sv
  | 5 => popc v 64
  | _ => ctzOf v
where
  /-- Lowest set bit, or 64. -/
  ctzOf (v : Nat) : Nat := (leastBelow 64 (fun i => bitOf v i)).getD 64

/-! ### VAFLT and TKI (R100 to R102) -/

/-- Whether a 64-bit element passes the filter descriptor (a 32-byte number). -/
def filterPass (d e : Nat) : Bool :=
  let mask := bits d 63 0
  let value := bits d 127 64
  let lo := toS 32 (bits d 159 128)
  let hi := toS 32 (bits d 191 160)
  let x := toS 32 (bits e 63 32)
  decide (e &&& mask = value) && (!bitOf d 192 || decide (lo ≤ x ∧ x ≤ hi))
/-- The predicate VAFLT writes: inactive elements zero. -/
def vafltVal (d pg va : Nat) : Nat :=
  lanesFrom 8 (fun i => if bitOf pg (8 * i) ∧ filterPass d (lane 64 va i) then 255 else 0) 0 8
/-- Whether entry `x` is better than entry `y`: key, then lower item id (R101). -/
def tkBetter (mode : Nat) (x y : Nat × Nat) : Bool :=
  if mode = 0 then decide (x.1 < y.1) || (x.1 == y.1 && decide (x.2 < y.2))
  else fclt y.1 x.1 || (fceq x.1 y.1 && decide (x.2 < y.2))
/-- Insert a candidate into a list of at most `k`, best first (R102). -/
def tkInsert (mode k : Nat) (l : List (Nat × Nat)) (x : Nat × Nat) : List (Nat × Nat) :=
  let same := l.any (fun y => y.2 == x.2 && !tkBetter mode x y && !tkBetter mode y x)
  let nan := mode = 1 ∧ fp32.decode x.1 = .nan
  if same ∨ nan then l
  else
    let worse := l.filter (fun y => tkBetter mode x y)
    if k ≤ l.length ∧ worse = [] then l
    else ((l.filter (fun y => !tkBetter mode x y)) ++ x :: worse).take k
/-- The candidates of a TKI in lane order. -/
def tkCands (pg va vb sb : Nat) : List (Nat × Nat) :=
  ((List.range 16).filter (fun i => bitOf pg (4 * i))).map (fun i => (lane 32 va i, (sb + lane 32 vb i) % 2 ^ 64))
/-- TKI reaches the list at a Shelf offset (R101, R102); what it rewrites of a list that it reads poisoned is poisoned. -/
def State.tkiRun (s : State) (u t off pg va vb sb : Nat) : State :=
  let k := s.shelfNat u off 2
  let n := s.shelfNat u (off + 2) 2
  let mode := s.shelfNat u (off + 4) 1
  let read : Nat := if k = 0 ∨ 1024 < k ∨ k < n ∨ 1 < mode ∨ 16384 < off + 16 + 12 * k then 5 else 16 + 12 * n
  let bad := s.rowsPoison u off read
  let s := s.shelfMeet u off read 3
  if k = 0 ∨ 1024 < k ∨ k < n ∨ 1 < mode ∨ 16384 < off + 16 + 12 * k then
    s.updThr u t (fun th => { th with vflags := stick th.vflags flTkiBad })
  else
    let l := (List.range n).map (fun j => (s.shelfNat u (off + 16 + 12 * j) 4, s.shelfNat u (off + 20 + 12 * j) 8))
    let l' := (tkCands pg va vb sb).foldl (tkInsert mode k) l
    if l' = l then s
    else
      let s := s.shelfWrite u (off + 16) (l'.flatMap (fun e => leBytes 4 e.1 ++ leBytes 8 e.2)) bad
      s.shelfWrite u (off + 2) (leBytes 2 l'.length) bad

/-! ### Issue into the vector queue (R37, R71) -/

/-- A vector-queue entry with the state an instruction carries from issue (R71). -/
def Thread.vop (th : Thread) (t : Nat) (cls : VCls) (fn et : Nat) (zero : Bool) (pg : Nat) (dst : Option Reg) : VOp :=
  { id := 0, slot := t, cls := cls, fn := fn, et := et, zero := zero, pg := pg, va := 0, vb := 0, old := 0, sval := 0, off := 0,
    dst := dst, fpctl := th.fpctl.toNat, seed := th.srseed, n := th.srn, group := th.group, tid := th.tid }
/-- Put an entry into the vector queue. -/
def State.vpush (s : State) (u : Nat) (o : VOp) : State :=
  (s.updUnt u (fun x => { x with vq := x.vq ++ [{ o with id := s.nonce }] })).tick
/-- Issue of an instruction that enters the vector queue. -/
def State.vissue (s : State) (u t w0 len : Nat) (regs srcs : List Reg) (bad : Bool) (checks : List (Nat × Word))
    (o : VOp) : State :=
  s.issue u t { w0 := w0, len := len, want := { regs := regs, vq := true }, srcs := srcs, bad := bad, checks := checks }
    (fun s => s.vpush u o)
/-- A VALU instruction. -/
def State.valu (s : State) (u t fn et : Nat) (z : Bool) (pg vb va vd : Nat) : Host.Outcome State Fault Refusal :=
  let th := s.thr u t
  let dst : Reg := if writesP fn then .p vd else .v vd
  let old := if writesP fn then (th.gp vd).toNat else (th.gv vd).toNat
  let srcs := [Reg.v va, .p pg] ++ (if readsB fn then [.v vb] else []) ++ (if fn = 0x023 then [.v vd] else [])
  s.onUnit u (s.vissue u t (encV 0x10 fn et (b2n z) pg vb va vd) 4 (dst :: srcs) srcs (valuBad fn et vb) []
    { th.vop t .valu fn et z (th.gp pg).toNat (some dst) with
      va := (th.gv va).toNat, vb := (th.gv vb).toNat, old := old })
/-- A predicate operation. -/
def State.predOp (s : State) (u t fn pb pa pd : Nat) (bad : Bool) : Host.Outcome State Fault Refusal :=
  let th := s.thr u t
  let srcs := (if fn ≤ 4 then [Reg.p pa] else []) ++ (if fn ≤ 3 then [.p pb] else [])
  s.onUnit u (s.vissue u t (encP 0x15 fn pb pa pd) 4 (.p pd :: srcs) srcs bad []
    { th.vop t .pred fn 0 false 0 (some (.p pd)) with va := (th.gp pa).toNat, vb := (th.gp pb).toNat })
/-- A move between vector, predicate and scalar. -/
def State.vmov (st : State) (u t fn ln et s v : Nat) : Host.Outcome State Fault Refusal :=
  let th := st.thr u t
  let bad := if fn ≤ 2 then decide (et = 3 ∨ elems et ≤ ln) else decide (et ≠ 0 ∨ ln ≠ 0)
  let src : List Reg :=
    match fn with
    | 0 => [.s s]
    | 1 => [.v v]
    | 2 => [.s s, .v v]
    | 4 => [.s s]
    | _ => [.p v]
  let dst : Reg := if fn = 0 ∨ fn = 2 then .v v else if fn = 4 then .p v else .s s
  let val := if fn ≤ 2 then (th.gv v).toNat else (th.gp v).toNat
  st.onUnit u (st.vissue u t (encVS 0x16 fn ln et s v) 4 (dst :: src) src bad []
    { th.vop t .vmov fn et false 0 (some dst) with va := val, sval := (th.gs s).toNat, off := ln })

/-- VADD (R83, Table 03-8). -/
def execVadd (u : BitVec 20) (t : BitVec 3) (et : BitVec 2) (z : Bool) (pg vb va vd : BitVec 3) (s : State) :
    Host.Outcome State Fault Refusal :=
  s.valu u.toNat t.toNat 0x000 et.toNat z pg.toNat vb.toNat va.toNat vd.toNat
/-- VSUB (R83, Table 03-8). -/
def execVsub (u : BitVec 20) (t : BitVec 3) (et : BitVec 2) (z : Bool) (pg vb va vd : BitVec 3) (s : State) :
    Host.Outcome State Fault Refusal :=
  s.valu u.toNat t.toNat 0x001 et.toNat z pg.toNat vb.toNat va.toNat vd.toNat
/-- VMUL (R83, Table 03-8). -/
def execVmul (u : BitVec 20) (t : BitVec 3) (et : BitVec 2) (z : Bool) (pg vb va vd : BitVec 3) (s : State) :
    Host.Outcome State Fault Refusal :=
  s.valu u.toNat t.toNat 0x002 et.toNat z pg.toNat vb.toNat va.toNat vd.toNat
/-- VMIN (R83, Table 03-8). -/
def execVmin (u : BitVec 20) (t : BitVec 3) (et : BitVec 2) (z : Bool) (pg vb va vd : BitVec 3) (s : State) :
    Host.Outcome State Fault Refusal :=
  s.valu u.toNat t.toNat 0x003 et.toNat z pg.toNat vb.toNat va.toNat vd.toNat
/-- VMAX (R83, Table 03-8). -/
def execVmax (u : BitVec 20) (t : BitVec 3) (et : BitVec 2) (z : Bool) (pg vb va vd : BitVec 3) (s : State) :
    Host.Outcome State Fault Refusal :=
  s.valu u.toNat t.toNat 0x004 et.toNat z pg.toNat vb.toNat va.toNat vd.toNat
/-- VMINU (R83, Table 03-8). -/
def execVminu (u : BitVec 20) (t : BitVec 3) (et : BitVec 2) (z : Bool) (pg vb va vd : BitVec 3) (s : State) :
    Host.Outcome State Fault Refusal :=
  s.valu u.toNat t.toNat 0x005 et.toNat z pg.toNat vb.toNat va.toNat vd.toNat
/-- VMAXU (R83, Table 03-8). -/
def execVmaxu (u : BitVec 20) (t : BitVec 3) (et : BitVec 2) (z : Bool) (pg vb va vd : BitVec 3) (s : State) :
    Host.Outcome State Fault Refusal :=
  s.valu u.toNat t.toNat 0x006 et.toNat z pg.toNat vb.toNat va.toNat vd.toNat
/-- VAND (R83, Table 03-8). -/
def execVand (u : BitVec 20) (t : BitVec 3) (et : BitVec 2) (z : Bool) (pg vb va vd : BitVec 3) (s : State) :
    Host.Outcome State Fault Refusal :=
  s.valu u.toNat t.toNat 0x008 et.toNat z pg.toNat vb.toNat va.toNat vd.toNat
/-- VOR (R83, Table 03-8). -/
def execVor (u : BitVec 20) (t : BitVec 3) (et : BitVec 2) (z : Bool) (pg vb va vd : BitVec 3) (s : State) :
    Host.Outcome State Fault Refusal :=
  s.valu u.toNat t.toNat 0x009 et.toNat z pg.toNat vb.toNat va.toNat vd.toNat
/-- VXOR (R83, Table 03-8). -/
def execVxor (u : BitVec 20) (t : BitVec 3) (et : BitVec 2) (z : Bool) (pg vb va vd : BitVec 3) (s : State) :
    Host.Outcome State Fault Refusal :=
  s.valu u.toNat t.toNat 0x00A et.toNat z pg.toNat vb.toNat va.toNat vd.toNat
/-- VSHL (R83, Table 03-8). -/
def execVshl (u : BitVec 20) (t : BitVec 3) (et : BitVec 2) (z : Bool) (pg vb va vd : BitVec 3) (s : State) :
    Host.Outcome State Fault Refusal :=
  s.valu u.toNat t.toNat 0x00B et.toNat z pg.toNat vb.toNat va.toNat vd.toNat
/-- VSHR (R83, Table 03-8). -/
def execVshr (u : BitVec 20) (t : BitVec 3) (et : BitVec 2) (z : Bool) (pg vb va vd : BitVec 3) (s : State) :
    Host.Outcome State Fault Refusal :=
  s.valu u.toNat t.toNat 0x00C et.toNat z pg.toNat vb.toNat va.toNat vd.toNat
/-- VSRA (R83, Table 03-8). -/
def execVsra (u : BitVec 20) (t : BitVec 3) (et : BitVec 2) (z : Bool) (pg vb va vd : BitVec 3) (s : State) :
    Host.Outcome State Fault Refusal :=
  s.valu u.toNat t.toNat 0x00D et.toNat z pg.toNat vb.toNat va.toNat vd.toNat
/-- VCEQ (R83, Table 03-8). -/
def execVceq (u : BitVec 20) (t : BitVec 3) (et : BitVec 2) (z : Bool) (pg vb va vd : BitVec 3) (s : State) :
    Host.Outcome State Fault Refusal :=
  s.valu u.toNat t.toNat 0x010 et.toNat z pg.toNat vb.toNat va.toNat vd.toNat
/-- VCLT (R83, Table 03-8). -/
def execVclt (u : BitVec 20) (t : BitVec 3) (et : BitVec 2) (z : Bool) (pg vb va vd : BitVec 3) (s : State) :
    Host.Outcome State Fault Refusal :=
  s.valu u.toNat t.toNat 0x011 et.toNat z pg.toNat vb.toNat va.toNat vd.toNat
/-- VCLTU (R83, Table 03-8). -/
def execVcltu (u : BitVec 20) (t : BitVec 3) (et : BitVec 2) (z : Bool) (pg vb va vd : BitVec 3) (s : State) :
    Host.Outcome State Fault Refusal :=
  s.valu u.toNat t.toNat 0x012 et.toNat z pg.toNat vb.toNat va.toNat vd.toNat
/-- VFCEQ (R83, Table 03-8). -/
def execVfceq (u : BitVec 20) (t : BitVec 3) (et : BitVec 2) (z : Bool) (pg vb va vd : BitVec 3) (s : State) :
    Host.Outcome State Fault Refusal :=
  s.valu u.toNat t.toNat 0x013 et.toNat z pg.toNat vb.toNat va.toNat vd.toNat
/-- VFCLT (R83, Table 03-8). -/
def execVfclt (u : BitVec 20) (t : BitVec 3) (et : BitVec 2) (z : Bool) (pg vb va vd : BitVec 3) (s : State) :
    Host.Outcome State Fault Refusal :=
  s.valu u.toNat t.toNat 0x014 et.toNat z pg.toNat vb.toNat va.toNat vd.toNat
/-- VFCLE (R83, Table 03-8). -/
def execVfcle (u : BitVec 20) (t : BitVec 3) (et : BitVec 2) (z : Bool) (pg vb va vd : BitVec 3) (s : State) :
    Host.Outcome State Fault Refusal :=
  s.valu u.toNat t.toNat 0x015 et.toNat z pg.toNat vb.toNat va.toNat vd.toNat
/-- VFADD (R83, Table 03-8). -/
def execVfadd (u : BitVec 20) (t : BitVec 3) (et : BitVec 2) (z : Bool) (pg vb va vd : BitVec 3) (s : State) :
    Host.Outcome State Fault Refusal :=
  s.valu u.toNat t.toNat 0x020 et.toNat z pg.toNat vb.toNat va.toNat vd.toNat
/-- VFSUB (R83, Table 03-8). -/
def execVfsub (u : BitVec 20) (t : BitVec 3) (et : BitVec 2) (z : Bool) (pg vb va vd : BitVec 3) (s : State) :
    Host.Outcome State Fault Refusal :=
  s.valu u.toNat t.toNat 0x021 et.toNat z pg.toNat vb.toNat va.toNat vd.toNat
/-- VFMUL (R83, Table 03-8). -/
def execVfmul (u : BitVec 20) (t : BitVec 3) (et : BitVec 2) (z : Bool) (pg vb va vd : BitVec 3) (s : State) :
    Host.Outcome State Fault Refusal :=
  s.valu u.toNat t.toNat 0x022 et.toNat z pg.toNat vb.toNat va.toNat vd.toNat
/-- VFMA (R83, Table 03-8). -/
def execVfma (u : BitVec 20) (t : BitVec 3) (et : BitVec 2) (z : Bool) (pg vb va vd : BitVec 3) (s : State) :
    Host.Outcome State Fault Refusal :=
  s.valu u.toNat t.toNat 0x023 et.toNat z pg.toNat vb.toNat va.toNat vd.toNat
/-- VFMIN (R83, Table 03-8). -/
def execVfmin (u : BitVec 20) (t : BitVec 3) (et : BitVec 2) (z : Bool) (pg vb va vd : BitVec 3) (s : State) :
    Host.Outcome State Fault Refusal :=
  s.valu u.toNat t.toNat 0x024 et.toNat z pg.toNat vb.toNat va.toNat vd.toNat
/-- VFMAX (R83, Table 03-8). -/
def execVfmax (u : BitVec 20) (t : BitVec 3) (et : BitVec 2) (z : Bool) (pg vb va vd : BitVec 3) (s : State) :
    Host.Outcome State Fault Refusal :=
  s.valu u.toNat t.toNat 0x025 et.toNat z pg.toNat vb.toNat va.toNat vd.toNat
/-- VEXP (R83, R130, Table 03-8). -/
def execVexp (u : BitVec 20) (t : BitVec 3) (et : BitVec 2) (z : Bool) (pg vb va vd : BitVec 3) (s : State) :
    Host.Outcome State Fault Refusal :=
  s.valu u.toNat t.toNat 0x030 et.toNat z pg.toNat vb.toNat va.toNat vd.toNat
/-- VLOG (R83, R130, Table 03-8). -/
def execVlog (u : BitVec 20) (t : BitVec 3) (et : BitVec 2) (z : Bool) (pg vb va vd : BitVec 3) (s : State) :
    Host.Outcome State Fault Refusal :=
  s.valu u.toNat t.toNat 0x031 et.toNat z pg.toNat vb.toNat va.toNat vd.toNat
/-- VRCP (R83, R130, Table 03-8). -/
def execVrcp (u : BitVec 20) (t : BitVec 3) (et : BitVec 2) (z : Bool) (pg vb va vd : BitVec 3) (s : State) :
    Host.Outcome State Fault Refusal :=
  s.valu u.toNat t.toNat 0x032 et.toNat z pg.toNat vb.toNat va.toNat vd.toNat
/-- VRSQ (R83, R130, Table 03-8). -/
def execVrsq (u : BitVec 20) (t : BitVec 3) (et : BitVec 2) (z : Bool) (pg vb va vd : BitVec 3) (s : State) :
    Host.Outcome State Fault Refusal :=
  s.valu u.toNat t.toNat 0x033 et.toNat z pg.toNat vb.toNat va.toNat vd.toNat
/-- VTANH (R83, R130, Table 03-8). -/
def execVtanh (u : BitVec 20) (t : BitVec 3) (et : BitVec 2) (z : Bool) (pg vb va vd : BitVec 3) (s : State) :
    Host.Outcome State Fault Refusal :=
  s.valu u.toNat t.toNat 0x034 et.toNat z pg.toNat vb.toNat va.toNat vd.toNat
/-- VXPC (R83, Table 03-8). -/
def execVxpc (u : BitVec 20) (t : BitVec 3) (et : BitVec 2) (z : Bool) (pg vb va vd : BitVec 3) (s : State) :
    Host.Outcome State Fault Refusal :=
  s.valu u.toNat t.toNat 0x040 et.toNat z pg.toNat vb.toNat va.toNat vd.toNat
/-- VREDADD (R83, Table 03-8). -/
def execVredadd (u : BitVec 20) (t : BitVec 3) (et : BitVec 2) (z : Bool) (pg vb va vd : BitVec 3) (s : State) :
    Host.Outcome State Fault Refusal :=
  s.valu u.toNat t.toNat 0x041 et.toNat z pg.toNat vb.toNat va.toNat vd.toNat
/-- VFREDADD (R83, R85, Table 03-8). -/
def execVfredadd (u : BitVec 20) (t : BitVec 3) (et : BitVec 2) (z : Bool) (pg vb va vd : BitVec 3) (s : State) :
    Host.Outcome State Fault Refusal :=
  s.valu u.toNat t.toNat 0x042 et.toNat z pg.toNat vb.toNat va.toNat vd.toNat
/-- VSEL (R83, Table 03-8). -/
def execVsel (u : BitVec 20) (t : BitVec 3) (et : BitVec 2) (z : Bool) (pg vb va vd : BitVec 3) (s : State) :
    Host.Outcome State Fault Refusal :=
  s.valu u.toNat t.toNat 0x048 et.toNat z pg.toNat vb.toNat va.toNat vd.toNat
/-- VPERM (R83, Table 03-8). -/
def execVperm (u : BitVec 20) (t : BitVec 3) (et : BitVec 2) (z : Bool) (pg vb va vd : BitVec 3) (s : State) :
    Host.Outcome State Fault Refusal :=
  s.valu u.toNat t.toNat 0x049 et.toNat z pg.toNat vb.toNat va.toNat vd.toNat
/-- VCVT (R126): ET must be 0 and the code one of Table 04-7.  With SRND set it is counted for R129. -/
def execVcvt (u : BitVec 20) (t : BitVec 3) (code : BitVec 8) (et : BitVec 2) (z : Bool) (pg vb va vd : BitVec 3) (s : State) :
    Host.Outcome State Fault Refusal :=
  let u' := u.toNat
  let t' := t.toNat
  let th := s.thr u' t'
  let srcs := [Reg.v va.toNat, .p pg.toNat] ++ (if cvtReadsB code.toNat then [.v vb.toNat] else [])
  s.onUnit u' (s.issue u' t'
    { w0 := encV 0x10 (0x100 + code.toNat) et.toNat (b2n z) pg.toNat vb.toNat va.toNat vd.toNat,
      want := { regs := .v vd.toNat :: srcs, vq := true }, srcs := srcs,
      bad := decide (et ≠ 0) || !cvtDefined code.toNat }
    (fun s => (s.vpush u'
      { th.vop t' .vcvt code.toNat 0 z (th.gp pg.toNat).toNat (some (.v vd.toNat)) with
        va := (th.gv va.toNat).toNat, vb := (th.gv vb.toNat).toNat, old := (th.gv vd.toNat).toNat }).updThr u' t'
      (fun th => if bitOf th.fpctl.toNat 2 then { th with srn := th.srn + 1 } else th)))
/-- PAND (R87). -/
def execPand (u : BitVec 20) (t : BitVec 3) (pb pa pd : BitVec 3) (s : State) : Host.Outcome State Fault Refusal :=
  s.predOp u.toNat t.toNat 0 pb.toNat pa.toNat pd.toNat (false)
/-- POR (R87). -/
def execPor (u : BitVec 20) (t : BitVec 3) (pb pa pd : BitVec 3) (s : State) : Host.Outcome State Fault Refusal :=
  s.predOp u.toNat t.toNat 1 pb.toNat pa.toNat pd.toNat (false)
/-- PXOR (R87). -/
def execPxor (u : BitVec 20) (t : BitVec 3) (pb pa pd : BitVec 3) (s : State) : Host.Outcome State Fault Refusal :=
  s.predOp u.toNat t.toNat 2 pb.toNat pa.toNat pd.toNat (false)
/-- PANDN (R87). -/
def execPandn (u : BitVec 20) (t : BitVec 3) (pb pa pd : BitVec 3) (s : State) : Host.Outcome State Fault Refusal :=
  s.predOp u.toNat t.toNat 3 pb.toNat pa.toNat pd.toNat (false)
/-- PNOT (R87). -/
def execPnot (u : BitVec 20) (t : BitVec 3) (pb pa pd : BitVec 3) (s : State) : Host.Outcome State Fault Refusal :=
  s.predOp u.toNat t.toNat 4 pb.toNat pa.toNat pd.toNat (decide (pb ≠ 0))
/-- PALL (R87). -/
def execPall (u : BitVec 20) (t : BitVec 3) (pb pa pd : BitVec 3) (s : State) : Host.Outcome State Fault Refusal :=
  s.predOp u.toNat t.toNat 5 pb.toNat pa.toNat pd.toNat (decide (pb ≠ 0 ∨ pa ≠ 0))
/-- PNONE (R87). -/
def execPnone (u : BitVec 20) (t : BitVec 3) (pb pa pd : BitVec 3) (s : State) : Host.Outcome State Fault Refusal :=
  s.predOp u.toNat t.toNat 6 pb.toNat pa.toNat pd.toNat (decide (pb ≠ 0 ∨ pa ≠ 0))
/-- VBCAST (R87). -/
def execVbcast (u : BitVec 20) (t : BitVec 3) (lane : BitVec 6) (et : BitVec 2) (s : BitVec 5) (v : BitVec 3) (st : State) :
    Host.Outcome State Fault Refusal :=
  st.vmov u.toNat t.toNat 0 lane.toNat et.toNat s.toNat v.toNat
/-- VEXT (R87). -/
def execVext (u : BitVec 20) (t : BitVec 3) (lane : BitVec 6) (et : BitVec 2) (s : BitVec 5) (v : BitVec 3) (st : State) :
    Host.Outcome State Fault Refusal :=
  st.vmov u.toNat t.toNat 1 lane.toNat et.toNat s.toNat v.toNat
/-- VINS (R87). -/
def execVins (u : BitVec 20) (t : BitVec 3) (lane : BitVec 6) (et : BitVec 2) (s : BitVec 5) (v : BitVec 3) (st : State) :
    Host.Outcome State Fault Refusal :=
  st.vmov u.toNat t.toNat 2 lane.toNat et.toNat s.toNat v.toNat
/-- PTOS (R87). -/
def execPtos (u : BitVec 20) (t : BitVec 3) (lane : BitVec 6) (et : BitVec 2) (s : BitVec 5) (v : BitVec 3) (st : State) :
    Host.Outcome State Fault Refusal :=
  st.vmov u.toNat t.toNat 3 lane.toNat et.toNat s.toNat v.toNat
/-- STOP (R87). -/
def execStop (u : BitVec 20) (t : BitVec 3) (lane : BitVec 6) (et : BitVec 2) (s : BitVec 5) (v : BitVec 3) (st : State) :
    Host.Outcome State Fault Refusal :=
  st.vmov u.toNat t.toNat 4 lane.toNat et.toNat s.toNat v.toNat
/-- PCNT (R87). -/
def execPcnt (u : BitVec 20) (t : BitVec 3) (lane : BitVec 6) (et : BitVec 2) (s : BitVec 5) (v : BitVec 3) (st : State) :
    Host.Outcome State Fault Refusal :=
  st.vmov u.toNat t.toNat 5 lane.toNat et.toNat s.toNat v.toNat
/-- PFIRST (R87). -/
def execPfirst (u : BitVec 20) (t : BitVec 3) (lane : BitVec 6) (et : BitVec 2) (s : BitVec 5) (v : BitVec 3) (st : State) :
    Host.Outcome State Fault Refusal :=
  st.vmov u.toNat t.toNat 6 lane.toNat et.toNat s.toNat v.toNat

/-! ### Vector memory (R86) -/

/-- Lowest active byte of a predicate. -/
def loByte (pg : Nat) : Nat := (leastBelow 64 (fun i => bitOf pg i)).getD 0
/-- Highest active byte of a predicate. -/
def hiByte (pg : Nat) : Nat := 63 - (leastBelow 64 (fun i => bitOf pg (63 - i))).getD 63
/-- Address of a vector access: a + 64·imm13. -/
def Thread.vea (th : Thread) (a : Nat) (imm : BitVec 13) : Nat := (th.gs a + sext imm * 64).toNat
/-- VLD (R86): with no active byte it is a no-operation. -/
def execVld (u : BitVec 20) (t : BitVec 3) (imm : BitVec 13) (z : Bool) (pg : BitVec 3) (sa : BitVec 5) (vd : BitVec 3) (s : State) :
    Host.Outcome State Fault Refusal :=
  let u' := u.toNat
  let t' := t.toNat
  let th := s.thr u' t'
  let p := (th.gp pg.toNat).toNat
  let a := th.vea sa.toNat imm
  let lo := loByte p
  let n := hiByte p + 1 - lo
  let on := p ≠ 0
  s.onUnit u' (s.issue u' t'
    { w0 := encVM 0x11 imm.toNat (b2n z) pg.toNat sa.toNat vd.toNat,
      want := { regs := [.v vd.toNat, .s sa.toNat, .p pg.toNat], score := true }, srcs := [.s sa.toNat, .p pg.toNat],
      checks := if on then alignCheck a 64 ++ s.segChecks th.ctx (a + lo) n permR else [],
      stall := if on then s.stalls th.ctx 1 1 (a + lo) n else [] }
    (fun s => if on then s.startLoad u' t' (.v vd.toNat) (a + lo) n 7 p z else s))
/-- VST (R86): the active bytes go to the write buffer. -/
def execVst (u : BitVec 20) (t : BitVec 3) (imm : BitVec 13) (z : Bool) (pg : BitVec 3) (sa : BitVec 5) (vd : BitVec 3) (s : State) :
    Host.Outcome State Fault Refusal :=
  let u' := u.toNat
  let t' := t.toNat
  let th := s.thr u' t'
  let p := (th.gp pg.toNat).toNat
  let a := th.vea sa.toNat imm
  let lo := loByte p
  let n := hiByte p + 1 - lo
  let on := p ≠ 0
  let v := (th.gv vd.toNat).toNat
  let dest := (s.extentRemote th.ctx a 64).headD s.self
  s.onUnit u' (s.issue u' t'
    { w0 := encVM 0x12 imm.toNat (b2n z) pg.toNat sa.toNat vd.toNat,
      want := { regs := [.v vd.toNat, .s sa.toNat, .p pg.toNat], wb := true },
      srcs := [.v vd.toNat, .s sa.toNat, .p pg.toNat],
      checks := if on then alignCheck a 64 ++ s.segChecks th.ctx (a + lo) n permW else [],
      stall := if on then s.stalls th.ctx 1 2 (a + lo) n else [] }
    (fun s => if on then s.startStore u' t' a 64 v p 7 dest else s))
/-- A vector access to the Shelf: it waits in the vector queue (R142). -/
def State.vshelf (s : State) (u t op : Nat) (cls : VCls) (imm : BitVec 13) (z : Bool) (pg sa vd : Nat) :
    Host.Outcome State Fault Refusal :=
  let th := s.thr u t
  let p := (th.gp pg).toNat
  let a := th.vea sa imm
  let on := p ≠ 0
  let srcs := [Reg.s sa, .p pg] ++ (if cls = .vsts then [.v vd] else [])
  s.onUnit u (s.issue u t
    { w0 := encVM op imm.toNat (b2n z) pg sa vd, want := { regs := [.v vd, .s sa, .p pg], vq := true }, srcs := srcs,
      checks := if on then alignCheck a 64 ++ (if a < 16384 then [] else [(0x07, w64 a)]) else [] }
    (fun s => if on then
        s.vpush u { th.vop t cls 0 0 z p (if cls = .vlds then some (.v vd) else none) with va := (th.gv vd).toNat, off := a }
      else s))
/-- VLDS (R86). -/
def execVlds (u : BitVec 20) (t : BitVec 3) (imm : BitVec 13) (z : Bool) (pg : BitVec 3) (sa : BitVec 5) (vd : BitVec 3) (s : State) :
    Host.Outcome State Fault Refusal :=
  s.vshelf u.toNat t.toNat 0x13 .vlds imm z pg.toNat sa.toNat vd.toNat
/-- VSTS (R86). -/
def execVsts (u : BitVec 20) (t : BitVec 3) (imm : BitVec 13) (z : Bool) (pg : BitVec 3) (sa : BitVec 5) (vd : BitVec 3) (s : State) :
    Host.Outcome State Fault Refusal :=
  s.vshelf u.toNat t.toNat 0x14 .vsts imm z pg.toNat sa.toNat vd.toNat
/-- VAFLT (R100). -/
def execVaflt (u : BitVec 20) (t : BitVec 3) (pg : BitVec 3) (sa : BitVec 5) (va pd : BitVec 3) (r1 : BitVec 11) (r2 : BitVec 24)
    (s : State) : Host.Outcome State Fault Refusal :=
  let u' := u.toNat
  let t' := t.toNat
  let th := s.thr u' t'
  let a := (th.gs sa.toNat).toNat
  let w0 := enc64 0x28 (r1.toNat * 2 ^ 14 + pg.toNat * 2 ^ 11 + sa.toNat * 2 ^ 6 + va.toNat * 2 ^ 3 + pd.toNat)
  let srcs := [Reg.v va.toNat, .s sa.toNat, .p pg.toNat]
  s.onUnit u' (s.vissue u' t' w0 8 (.p pd.toNat :: srcs) srcs (decide (r1 ≠ 0 ∨ r2 ≠ 0)) (alignCheck a 32 ++ shelfCheck a 32)
    { th.vop t' .vaflt 0 0 true (th.gp pg.toNat).toNat (some (.p pd.toNat)) with va := (th.gv va.toNat).toNat, off := a })
/-- TKI (R101, R102). -/
def execTki (u : BitVec 20) (t : BitVec 3) (sb : BitVec 5) (pg : BitVec 3) (sa : BitVec 5) (vb va : BitVec 3) (r1 : BitVec 6)
    (r2 : BitVec 24) (s : State) : Host.Outcome State Fault Refusal :=
  let u' := u.toNat
  let t' := t.toNat
  let th := s.thr u' t'
  let a := (th.gs sa.toNat).toNat
  let w0 := enc64 0x28 (r1.toNat * 2 ^ 19 + sb.toNat * 2 ^ 14 + pg.toNat * 2 ^ 11 + sa.toNat * 2 ^ 6 + vb.toNat * 2 ^ 3 + va.toNat)
  let srcs := [Reg.v va.toNat, .v vb.toNat, .s sa.toNat, .s sb.toNat, .p pg.toNat]
  s.onUnit u' (s.vissue u' t' w0 8 srcs srcs (decide (r1 ≠ 0 ∨ r2 ≠ 0)) (alignCheck a 4 ++ shelfCheck a 16)
    { th.vop t' .tki 0 2 false (th.gp pg.toNat).toNat none with
      va := (th.gv va.toNat).toNat, vb := (th.gv vb.toNat).toNat, sval := (th.gs sb.toNat).toNat, off := a })

/-! ### Execution at the head of the queue (R142) -/

/-- Write a vector-queue entry's result into its destination register. -/
def Thread.setReg (th : Thread) (r : Option Reg) (v : Nat) : Thread :=
  match r with
  | some (.s i) => th.setS i (w64 v)
  | some (.v i) => th.setV i (BitVec.ofNat 512 v)
  | some (.p i) => th.setP i (w64 v)
  | none => th
/-- Runs of active bytes of a predicate, as offset and length. -/
def runsOf (p : Nat) : List (Nat × Nat) :=
  ((List.range 64).filter (fun i => bitOf p i && (i == 0 || !bitOf p (i - 1)))).map (fun i =>
    (i, (leastBelow 64 (fun k => !bitOf p (i + k))).getD 64))
/-- The head of the vector queue executes. -/
def State.vexec (s : State) (u : Nat) (o : VOp) : State :=
  let put (s : State) (v fl : Nat) : State :=
    s.updThr u o.slot (fun th => { th.setReg o.dst v with vflags := stick th.vflags fl })
  match o.cls with
  | .valu =>
    match o.dst with
    | some (.p _) => put s (valuPred o.fn o.et o.zero o.pg o.va o.vb o.old) 0
    | _ => let r := valuVec o.fn o.et o.zero o.pg o.va o.vb o.old (.mode (o.fpctl % 4)); put s r.1 r.2
  | .vcvt => let r := vcvt o.fn o.zero o.pg o.va o.vb o.old o.fpctl o.seed o.group o.tid o.n; put s r.1 r.2
  | .vlds =>
    let bad := s.rowsPoison u o.off 64
    let s := s.shelfMeet u o.off 64 3
    if bad then
      match o.dst with
      | some r => s.updThr u o.slot (fun th => th.setMark r ⟨0x10, 0⟩)
      | none => s
    else put s (mergeBytes o.pg o.zero o.va (s.shelfNat u o.off 64)) 0
  | .vsts => ((runsOf o.pg).foldl (fun s r => s.shelfRow u (o.off + r.1) (((leBytes 64 o.va).drop r.1).take r.2) false) s).waiteCheck u
  | .pred => put s (predVal o.fn o.va o.vb) 0
  | .vmov => put s (vmovVal o.fn o.off o.et o.sval o.va) 0
  | .vaflt =>
    let bad := s.rowsPoison u o.off 32
    let s := s.shelfMeet u o.off 32 3
    if bad then
      match o.dst with
      | some r => s.updThr u o.slot (fun th => th.setMark r ⟨0x10, 0⟩)
      | none => s
    else put s (vafltVal (s.shelfNat u o.off 32) o.pg o.va) 0
  | .tki => s.tkiRun u o.slot o.off o.pg o.va o.vb o.sval
/-- The vector engine takes the instruction at the head of its queue and executes it (R37, R142). -/
def State.vectorStep (s : State) (u : Nat) : State :=
  match (s.unt u).vq with
  | [] => s
  | o :: r => ((s.updUnt u (fun x => { x with vq := r })).vexec u o).settle u
/-- VECTOR_ENGINE_EXECUTE (R142). -/
def execVectorEngineExecute (u : BitVec 20) (s : State) : Host.Outcome State Fault Refusal :=
  s.onUnit u.toNat (s.vectorStep u.toNat)

end Sys2Proof.Machine
end

