-- ==== Sys2Proof/Machine/Matrix.lean ====
section
/-! DEFINITION. The matrix engine: operand tiles, exact blocks and their single rounding, 16-bit steps, MST conversion,
claims, and the engine's queue (R43, R88 to R92, R115 to R124). -/

namespace Sys2Proof.Machine

/-! ### Formats (Tables 03-10, 04-3 to 04-5) -/

/-- Width class of an operand code: 4, 8 or 16 bits; 0 for a code that is no operand. -/
def opWidth (f : Nat) : Nat :=
  if f = 0 ∨ f = 2 then 4 else if f ≤ 8 then 8 else if f ≤ 0xA then 16 else 0
/-- Integer operand. -/
def opInt (f : Nat) : Bool := decide (f ≤ 1)
/-- MX operand, with block scales. -/
def opMX (f : Nat) : Bool := decide (2 ≤ f ∧ f ≤ 6)
/-- Elements of a tile row, K per MMA (Table 04-4). -/
def opK (f : Nat) : Nat := match opWidth f with | 4 => 128 | 8 => 64 | _ => 32
/-- Bytes of an operand's block scales (Table 04-3). -/
def scaleBytes (f : Nat) : Nat := if opMX f then (if opWidth f = 4 then 64 else 32) else 0
/-- The value of an operand element. -/
def opVal (f x : Nat) : FV :=
  match f with
  | 0 => let v := toS 4 (x % 16); .fin (decide (v < 0)) v.natAbs 0
  | 1 => let v := toS 8 (x % 256); .fin (decide (v < 0)) v.natAbs 0
  | 2 => e2m1.decode (x % 16)
  | 3 => e3m2.decode (x % 64)
  | 4 => e2m3.decode (x % 64)
  | 5 => e4m3.decode (x % 256)
  | 6 => e5m2.decode (x % 256)
  | 7 => e4m3.decode (x % 256)
  | 8 => e5m2.decode (x % 256)
  | 9 => bf16.decode (x % 65536)
  | _ => fp16.decode (x % 65536)
/-- w of Table 04-5. -/
def opW (f : Nat) : Int :=
  match f with
  | 2 => 4 | 3 => 9 | 4 => 6 | 5 => 18 | 6 => 32 | 7 => 18 | 8 => 32 | _ => 0
/-- A tile as the engine reads it: 16 rows as numbers, and the scale bytes as a number (R113, R116). -/
structure Tile where
  f : Nat
  rows : List Nat
  scales : Nat
/-- Element `k` of row `r`. -/
def Tile.elem (t : Tile) (r k : Nat) : FV := opVal t.f (lane (opWidth t.f) (t.rows.getD r 0) k)
/-- The scale of element `k` of row `r`; 127 without scales (R115). -/
def Tile.scale (t : Tile) (r k : Nat) : Nat :=
  if opMX t.f then lane 8 t.scales ((if opWidth t.f = 4 then 4 else 2) * r + k / 32) else 127

/-! ### Exact blocks (R119 to R122) -/

/-- An empty block sum. -/
def Blk.zero : Blk := ⟨0, none, none, false, false, false⟩
/-- Add one scaled product to a block sum (R121, R122); sums are in units of 2^-320. -/
def Blk.addProduct (b : Blk) (x y : FV) (xa xb : Nat) : Blk :=
  if xa = 255 ∨ xb = 255 then { b with nan := true }
  else
    let c : Int := (xa : Int) + xb - 254
    match (FV.mul x y).1 with
    | .nan => { b with nan := true }
    | .inf s => if s then { b with ninf := true } else { b with pinf := true }
    | .fin s m e =>
      if m = 0 then b
      else
        let v : Int := (if s then -1 else 1) * (m * 2 ^ (e + c + 320).toNat : Nat)
        { b with
          sum := b.sum + v
          cmin := some (match b.cmin with | some k => min k c | none => c)
          cmax := some (match b.cmax with | some k => max k c | none => c) }
/-- Add the products of one MMA for element `(i, j)` (R117). -/
def Blk.addMma (b : Blk) (ta tb : Tile) (i j : Nat) : Blk :=
  (List.range (opK ta.f)).foldl (fun b k =>
    b.addProduct (ta.elem i k) (tb.elem j k) (ta.scale i k) (tb.scale j k)) b
/-- Whether the block register cannot hold the sum exactly (R122). -/
def Blk.tooWide (b : Blk) (fa fb : Nat) : Bool :=
  match b.cmin, b.cmax with
  | some lo, some hi => !opInt fa && decide (87 - opW fa - opW fb < hi - lo)
  | _, _ => false
/-- Close a block: one rounding into the accumulator element (R120 to R122). -/
def Blk.close (b : Blk) (fa fb acc : Nat) : Nat :=
  if opInt fa then
    let v := toS 32 acc + b.sum / 2 ^ 320
    ofS 32 (max (-2 ^ 31) (min (2 ^ 31 - 1) v))
  else if b.nan ∨ (b.pinf ∧ b.ninf) ∨ b.tooWide fa fb then fp32.qnan
  else if b.pinf then (fadd rne acc (fp32.infE false)).1
  else if b.ninf then (fadd rne acc (fp32.infE true)).1
  else if b.sum = 0 then acc
  else (pack32 rne (FV.add rne (fp32.decode acc) (.fin (decide (b.sum < 0)) b.sum.natAbs (-320))).1).1
/-- An accumulator element. -/
def Acc.elem (a : Acc) (e : Nat) : Nat := a.elems.getD e 0 % 2 ^ 32
/-- One MMA of 16-bit operands for element `(i, j)`: two K-steps (R123). -/
def step16 (ta tb : Tile) (i j acc : Nat) : Nat :=
  [0, 1].foldl (fun acc st =>
    let p := (List.range 16).map (fun k =>
      (pack32 rne (FV.mul (ta.elem i (16 * st + k)) (tb.elem j (16 * st + k))).1).1)
    (fadd rne acc (sumTree rne 4 p).1).1) acc
/-- The MST conversion of an element (R124): FD, SRND, and the draw's inputs (R129). -/
def mstElem (fd : Nat) (rm : RM) (x : Nat) : Nat :=
  match fd with
  | 0x7 => (convert ⟨e4m3, .sat, .maxFin, false⟩ rm (fp32.decode x)).1
  | 0x8 => (convert ⟨e5m2, .sat, .maxFin, false⟩ rm (fp32.decode x)).1
  | 0x9 => (convert ⟨bf16, .ieee, .inf, false⟩ rm (fp32.decode x)).1
  | 0xA => (convert ⟨fp16, .ieee, .inf, false⟩ rm (fp32.decode x)).1
  | _ => x
/-- Bytes per element of an FD; 0 for a code that is no FD (Table 03-10). -/
def fdBytes (fd : Nat) : Nat :=
  if fd = 7 ∨ fd = 8 then 1 else if fd = 9 ∨ fd = 0xA then 2 else if fd = 0xB ∨ fd = 0xC then 4 else 0
/-- Whether an FD suits an accumulator format (R89): an unset one suits every FD. -/
def fdSuits (fd fmt : Nat) : Bool := fmt == 0 || (fmt == 1 && fd == 0xB) || (fmt == 2 && fd != 0xB)

/-! ### Claims (R43, R91) -/

/-- An accumulator of a unit. -/
def Unt.accu (x : Unt) (n : Nat) : Acc := x.acc.toList.getD n .reset
/-- Change an accumulator. -/
def State.updAcc (s : State) (u n : Nat) (f : Acc → Acc) : State :=
  s.updUnt u (fun x => { x with acc := x.acc.setIfInBounds n (f (x.accu n)) })
/-- Whether a thread holds an accumulator, as issue sees it: a queued AREL has given it up. -/
def Acc.heldBy (a : Acc) (t : Nat) : Bool := a.holder == some t && !a.releasing
/-- Slot that waits for an accumulator, first after the slot that last received it (R43). -/
def Unt.nextClaimant (x : Unt) (n : Nat) : Option Nat :=
  ((List.range 8).map (fun i => ((x.accu n).last + 1 + i) % 8)).find? (fun t => (x.thr t).wait == some (.claim n))
/-- Release an accumulator and grant it to the next claimant (R43). -/
def State.releaseAcc (s : State) (u n : Nat) : State :=
  match (s.unt u).nextClaimant n with
  | some t =>
    let s := s.updAcc u n (fun a => { a with holder := some t, last := t, releasing := false })
    s.updThr u t Thread.leaveWait
  | none => s.updAcc u n (fun a => { a with holder := none, releasing := false })
/-- A thread's end releases the accumulators it holds: unset, contents open, any open block discarded (R43, R118). -/
def State.releaseAll (s : State) (u t : Nat) : State :=
  (List.range 4).foldl (fun s n =>
    if ((s.unt u).accu n).holder = some t then
      let left := Config.accLeft s.nonce
      ((s.updAcc u n (fun a => { a with elems := left, fmt := 0, ifmt := 0, blk := none, sums := [], poison := false })).tick).releaseAcc u n
    else s) s
/-- ACLAIM (R91). -/
def execAclaim (u : BitVec 20) (t : BitVec 3) (acc : BitVec 2) (rsv : BitVec 20) (s : State) : Host.Outcome State Fault Refusal :=
  let u' := u.toNat
  let t' := t.toNat
  let n := acc.toNat
  let a := (s.unt u').accu n
  s.onUnit u' (s.issue u' t'
    { w0 := encMC 0x18 rsv.toNat 0 n, want := wantS [], srcs := [], bad := rsv ≠ 0,
      checks := if a.heldBy t' then [(0x03, w64 n)] else [], hold := a.holder.isSome }
    (fun s =>
      if a.holder.isSome then s.updThr u' t' (fun th => { th with st := .waiting, wait := some (.claim n), waitAt := s.count })
      else s.updAcc u' n (fun a => { a with holder := some t', last := t' })))
/-- A matrix-queue entry. -/
def Thread.mop (th : Thread) (t kind acc : Nat) : MOp :=
  { id := 0, slot := t, kind := kind, acc := acc, a := 0, b := 0, c := 0, fa := 0, fb := 0, cont := false, srnd := false,
    seed := th.srseed, n := th.srn, group := th.group, tid := th.tid }
/-- Put an entry into the matrix queue. -/
def State.mpush (s : State) (u : Nat) (o : MOp) : State :=
  (s.updUnt u (fun x => { x with mq := x.mq ++ [{ o with id := s.nonce }] })).tick
/-- Checks of an accumulator operation: held, and no open block (R90, R91). -/
def accChecks (a : Acc) (t n : Nat) : List (Nat × Word) :=
  if !a.heldBy t then [(0x03, w64 n)] else if a.blk.isSome then [(0x04, w64 n)] else []
/-- AREL (R91). -/
def execArel (u : BitVec 20) (t : BitVec 3) (acc : BitVec 2) (rsv : BitVec 20) (s : State) : Host.Outcome State Fault Refusal :=
  let u' := u.toNat
  let t' := t.toNat
  let n := acc.toNat
  s.onUnit u' (s.issue u' t'
    { w0 := encMC 0x18 rsv.toNat 1 n, want := { regs := [], mq := true }, srcs := [], bad := rsv ≠ 0,
      checks := accChecks ((s.unt u').accu n) t' n }
    (fun s => (s.mpush u' ((s.thr u' t').mop t' 3 n)).updAcc u' n (fun a => { a with releasing := true })))
/-- AZERO (R91, R118). -/
def execAzero (u : BitVec 20) (t : BitVec 3) (acc : BitVec 2) (rsv : BitVec 20) (s : State) : Host.Outcome State Fault Refusal :=
  let u' := u.toNat
  let t' := t.toNat
  let n := acc.toNat
  s.onUnit u' (s.issue u' t'
    { w0 := encMC 0x18 rsv.toNat 2 n, want := { regs := [], mq := true }, srcs := [], bad := rsv ≠ 0,
      checks := accChecks ((s.unt u').accu n) t' n }
    (fun s => (s.mpush u' ((s.thr u' t').mop t' 2 n)).updAcc u' n (fun a => { a with ifmt := 0 })))
/-- MWAIT (R91): acc must be 0. -/
def execMwait (u : BitVec 20) (t : BitVec 3) (acc : BitVec 2) (rsv : BitVec 20) (s : State) : Host.Outcome State Fault Refusal :=
  let u' := u.toNat
  let t' := t.toNat
  let busy := (s.unt u').matrixOpen t'
  s.onUnit u' (s.issue u' t'
    { w0 := encMC 0x18 rsv.toNat 3 acc.toNat, want := wantS [], srcs := [], bad := decide (rsv ≠ 0 ∨ acc ≠ 0), hold := busy }
    (fun s => if busy then s.updThr u' t' (fun th => { th with st := .waiting, wait := some .mwait, waitAt := s.count }) else s))

/-! ### MMA and MST (R88 to R90) -/

/-- Whether an MMA word breaks a rule that does not depend on the accumulator (R73, R88 to R90). -/
def mmaBad (fa fb sc : Nat) (cont : Bool) : Bool :=
  opWidth fa == 0 || opWidth fb == 0 || opInt fa != opInt fb || opWidth fa != opWidth fb ||
    (cont && opWidth fa == 16) || (sc != 0 && !opMX fa && !opMX fb)
/-- The accumulator format an MMA needs: 1 INT32, 2 FP32. -/
def mmaFmt (fa : Nat) : Nat := if opInt fa then 1 else 2
/-- Whether an MMA breaks the block rules of an accumulator (R90). -/
def blkBad (a : Acc) (fa fb : Nat) : Bool :=
  match a.blk with
  | some (x, y, n) => x != fa || y != fb || decide (256 < n + opK fa)
  | none => false
/-- MMA (R88 to R90, R116). -/
def execMma (u : BitVec 20) (t : BitVec 3) (cont : Bool) (acc : BitVec 2) (sc sb sa : BitVec 5) (fb fa : BitVec 4) (r1 : BitVec 7)
    (r2 : BitVec 24) (s : State) : Host.Outcome State Fault Refusal :=
  let u' := u.toNat
  let t' := t.toNat
  let n := acc.toNat
  let fa' := fa.toNat
  let fb' := fb.toNat
  let th := s.thr u' t'
  let a := (s.unt u').accu n
  let oa := (th.gs sa.toNat).toNat
  let ob := (th.gs sb.toNat).toNat
  let oc := (th.gs sc.toNat).toNat
  let scl := scaleBytes fa' + scaleBytes fb'
  let held := a.heldBy t'
  let acc' := if !held then [(0x03, w64 n)] else if blkBad a fa' fb' then [(0x04, w64 n)] else []
  let regs := [sa.toNat, sb.toNat] ++ (if scl = 0 then [] else [sc.toNat])
  s.onUnit u' (s.issue u' t'
    { w0 := enc64 0x19 (r1.toNat * 2 ^ 18 + b2n cont * 2 ^ 17 + n * 2 ^ 15 + sc.toNat * 2 ^ 10 + sb.toNat * 2 ^ 5 + sa.toNat),
      len := 8, want := { wantS regs with mq := true }, srcs := regs.map Reg.s,
      bad := decide (r1 ≠ 0 ∨ r2 ≠ 0) || mmaBad fa' fb' sc.toNat cont ||
        (held && a.ifmt != 0 && a.ifmt != mmaFmt fa'),
      checks := acc' ++ alignCheck oa 64 ++ alignCheck ob 64 ++ (if scl = 0 then [] else alignCheck oc 64) ++
        shelfCheck oa 1024 ++ shelfCheck ob 1024 ++ (if scl = 0 then [] else shelfCheck oc scl) }
    (fun s =>
      let k := match a.blk with | some (_, _, k) => k | none => 0
      (s.mpush u' { th.mop t' 0 n with a := oa, b := ob, c := oc, fa := fa', fb := fb', cont := cont }).updAcc u' n
        (fun a => { a with ifmt := mmaFmt fa', blk := if cont then some (fa', fb', k + opK fa') else none })))
/-- MST (R89, R124); `r1` holds the reserved bits [31:24], [21:17] and [11:7]. -/
def execMst (u : BitVec 20) (t : BitVec 3) (acc : BitVec 2) (sa : BitVec 5) (srnd : Bool) (fd : BitVec 4) (r1 : BitVec 18)
    (r2 : BitVec 27) (s : State) : Host.Outcome State Fault Refusal :=
  let u' := u.toNat
  let t' := t.toNat
  let n := acc.toNat
  let th := s.thr u' t'
  let a := (s.unt u').accu n
  let o := (th.gs sa.toNat).toNat
  let e := fdBytes fd.toNat
  let r := r1.toNat
  s.onUnit u' (s.issue u' t'
    { w0 := enc64 0x1A (r / 2 ^ 10 * 2 ^ 17 + n * 2 ^ 15 + r / 2 ^ 5 % 32 * 2 ^ 10 + sa.toNat * 2 ^ 5 + r % 32), len := 8,
      want := { wantS [sa.toNat] with mq := true }, srcs := [.s sa.toNat],
      bad := decide (r1 ≠ 0 ∨ r2 ≠ 0 ∨ e = 0) || (srnd && e == 4) || (a.heldBy t' && !fdSuits fd.toNat a.ifmt),
      checks := accChecks a t' n ++ alignCheck o 64 ++ shelfCheck o (256 * e) }
    (fun s => (s.mpush u' { th.mop t' 1 n with a := o, fa := fd.toNat, srnd := srnd }).updThr u' t'
      (fun th => if srnd then { th with srn := th.srn + 1 } else th)))

/-! ### The engine (R88, R92, R118 to R124, R142) -/

/-- Read an operand tile from the Shelf, with its scales. -/
def State.tileAt (s : State) (u off f sc : Nat) : Tile :=
  { f := f, rows := (List.range 16).map (fun i => s.shelfNat u (off + 64 * i) 64), scales := s.shelfNat u sc (scaleBytes f) }
/-- All 256 element coordinates, row-major. -/
def coords : List (Nat × Nat) := (List.range 256).map (fun e => (e / 16, e % 16))
/-- The engine starts an MMA: it reads its tiles and scales and adds the products (R117, R120, R123). -/
def State.mmaRun (s : State) (u : Nat) (o : MOp) : State :=
  let ta := s.tileAt u o.a o.fa o.c
  let tb := s.tileAt u o.b o.fb (o.c + scaleBytes o.fa)
  let bad := s.rowsPoison u o.a 1024 || s.rowsPoison u o.b 1024 || s.rowsPoison u o.c (scaleBytes o.fa + scaleBytes o.fb)
  let s := ((s.shelfMeet u o.a 1024 4).shelfMeet u o.b 1024 4).shelfMeet u o.c (scaleBytes o.fa + scaleBytes o.fb) 4
  s.updAcc u o.acc (fun a =>
    let a := { a with poison := a.poison || bad, fmt := mmaFmt o.fa }
    if opWidth o.fa = 16 then { a with elems := coords.map (fun c => step16 ta tb c.1 c.2 (a.elem (16 * c.1 + c.2))) }
    else
      { a with sums := coords.map (fun c =>
          (a.sums.getD (16 * c.1 + c.2) Blk.zero).addMma ta tb c.1 c.2) })
/-- The engine takes the instruction at the head of its queue. -/
def State.matrixStart (s : State) (u : Nat) : State :=
  let x := s.unt u
  match x.mrun, x.mq with
  | none, o :: r =>
    let s := s.setUnt u { x with mq := r, mrun := some o }
    (if o.kind = 0 then s.mmaRun u o else s).settle u
  | _, _ => s
/-- The rows that an MST writes. -/
def mstRows (a : Acc) (o : MOp) : List Byte :=
  let e := fdBytes o.fa
  (List.range 256).flatMap (fun k =>
    leBytes e (if a.fmt = 0 then 0
      else mstElem o.fa (if o.srnd then .draw (srDraw o.seed o.group o.tid k o.n) else rne) (a.elem k)))
/-- The matrix instruction in the engine completes. -/
def State.matrixDone (s : State) (u : Nat) : State :=
  match (s.unt u).mrun with
  | none => s
  | some o =>
    let a := (s.unt u).accu o.acc
    let s := s.updUnt u (fun x => { x with mrun := none })
    let s := match o.kind with
      | 0 =>
        if o.cont ∨ opWidth o.fa = 16 then s
        else s.updAcc u o.acc (fun a => { a with
          sums := []
          elems := (List.range 256).map (fun e => (a.sums.getD e Blk.zero).close o.fa o.fb (a.elem e)) })
      | 1 => s.shelfWrite u o.a (mstRows a o) a.poison
      | 2 => s.updAcc u o.acc (fun a => { a with elems := [], fmt := 0, sums := [], poison := false })
      | _ => s.releaseAcc u o.acc
    s.settle u
/-- MATRIX_ENGINE_EXECUTE (R88, R142). -/
def execMatrixEngineExecute (u : BitVec 20) (s : State) : Host.Outcome State Fault Refusal :=
  s.onUnit u.toNat (s.matrixStart u.toNat)
/-- MATRIX_OP_COMPLETE (R120). -/
def execMatrixOpComplete (u : BitVec 20) (s : State) : Host.Outcome State Fault Refusal :=
  s.onUnit u.toNat (s.matrixDone u.toNat)

end Sys2Proof.Machine
end

