-- ==== Sys2Proof/Machine/RemoteIns.lean ====
section
/-! DEFINITION. DMA and RMT at issue: their checks, and the start of a transfer or an operation (R93 to R99). -/

namespace Sys2Proof.Machine

/-! ### DMA -/

/-- The packages that a DMA writes to (R98). -/
def State.dmaDests (s : State) (c sp a n : Nat) (sn : Word) : List Nat :=
  if sp = 2 ∨ sp = 3 then [bits sn.toNat 35 20]
  else if sp = 1 then ((s.extent c a n).map (fun p => match p.2.1 with | .remote k => k | _ => s.self)).eraseDups
  else [s.self]
/-- Whether an end of a DMA is a program address that this package checks and translates. -/
def State.dmaHere (s : State) (sp : Nat) (sn : Word) : Bool :=
  sp == 1 || (sp == 3 && decide (bits sn.toNat 35 20 = s.self))
/-- Checks of one end of a DMA at issue (R94). -/
def State.dmaChecks (s : State) (c sp a n perm : Nat) (sn : Word) (post : Bool) : List (Nat × Word) :=
  let pk := bits sn.toNat 35 20
  let u := bits sn.toNat 19 0
  (if (sp = 2 ∨ sp = 3) ∧ 767 < bits sn.toNat 35 26 then [(0x05, sn)] else []) ++
  (if sp = 2 ∧ pk = s.self ∧ !s.unitOk u then [(0x05, sn)] else []) ++
  (if sp = 3 ∧ 2 ^ 48 < a % 2 ^ 60 + n then [(0x05, w64 a)] else []) ++
  (if sp = 0 ∨ sp = 2 then shelfCheck a n else []) ++
  (if s.dmaHere sp sn then (if post then s.segPlain c a n perm else s.segChecks c a n perm) else []) ++
  (if sp = 2 ∧ pk = s.self ∧ !s.inRegionSet c u then [(0x0A, sn)] else [])
/-- The sectors and coherent lines that a DMA's local source still needs. -/
def State.dmaReady (s : State) (c : Nat) (d : Dma) : Bool :=
  !s.dmaHere d.srcSp d.sn ||
    (s.sectorsHere c d.src d.len && (s.snoopLines c d.src d.len false).isEmpty)
/-- The engine takes a transfer: its remote reads are sent, and its remote writes when the source is ready and no earlier
write of the thread waits to be sent (R94, R95, R98). -/
def State.dmaBegin (s : State) (u t tag : Nat) : State :=
  match (s.thr u t).dma.toList.getD tag none with
  | none => s
  | some d =>
    let c := (s.thr u t).ctx
    let s := if s.dmaHere d.srcSp d.sn then s.sectorsWant c d.src d.len else s
    let s := s.dmaReads u t tag
    if anyRemote (s.dmaPieces c d.dstSp d.dst d.len d.sn) && !anyRemote (s.dmaPieces c d.srcSp d.src d.len d.sn) &&
        s.dmaReady c d && !(s.unt u).unsent s.self t d.id d.dest then s.dmaWrites u t tag
    else s

/-! ### The DMA queue (Table 02-1) -/

/-- Whether an instruction of the DMA queue waits there. -/
def Unt.queued (x : Unt) (t id : Nat) : Bool := x.dq.contains (t, id)
/-- Whether the engine can take an RMT that writes to `dest`: its thread has no earlier write there still unsent (R98). -/
def State.rmtFree (s : State) (u t id dest : Nat) (writes : Bool) : Bool :=
  !writes || !(s.unt u).unsent s.self t id [dest]
/-- Take the instruction at the head of the DMA queue, when it is this one and it can be taken: a DMA, a value-returning RMT
or another RMT (R37). -/
def State.dqTake (s : State) (u t id : Nat) : State :=
  let x := s.unt u
  if x.dq.head? ≠ some (t, id) then s
  else
    let s' := s.setUnt u { x with dq := x.dq.tail }
    match (x.thr t).dma.toList.findIdx? (fun d => d.any (fun d => d.id == id)) with
    | some g => s'.dmaBegin u t g
    | none =>
      match (x.thr t).loads.find? (fun l => l.id = id), x.wb.find? (fun e => e.id = id) with
      | some l, _ => if s.rmtFree u t id l.dest l.writes then s'.rmtSend u t id else s
      | none, some e => if s.rmtFree u t id e.dest true then s'.wbSend u id else s
      | none, none => s'
/-- An instruction enters the DMA queue behind those that wait there, and is taken at once when it can be. -/
def State.dqEnter (s : State) (u t id : Nat) : State :=
  (s.updUnt u (fun x => { x with dq := x.dq ++ [(t, id)] })).dqTake u t id
/-- A DMA takes its tag and enters the queue (R94). -/
def State.dmaStart (s : State) (u t tag : Nat) (d : Dma) : State :=
  ((s.updThr u t (fun th => { th with dma := th.dma.setIfInBounds tag (some d) })).tick).dqEnter u t d.id
/-- DMA (R93, R94). -/
def execDma (u : BitVec 20) (t : BitVec 3) (sn : BitVec 5) (tag : BitVec 2) (sb sa sl : BitVec 5) (dstSp srcSp : BitVec 4)
    (r1 : BitVec 3) (r2 : BitVec 24) (s : State) : Host.Outcome State Fault Refusal :=
  let u' := u.toNat
  let t' := t.toNat
  let g := tag.toNat
  let th := s.thr u' t'
  let c := th.ctx
  let src := (th.gs sa.toNat).toNat
  let dst := (th.gs sb.toNat).toNat
  let n := (th.gs sl.toNat).toNat
  let snv := th.gs sn.toNat
  let ss := srcSp.toNat
  let ds := dstSp.toNat
  let far := decide (2 ≤ ss ∨ 2 ≤ ds)
  let regs := [sa.toNat, sb.toNat, sl.toNat] ++ (if far then [sn.toNat] else [])
  let dest := s.dmaDests c ds dst (min n (2 ^ 24)) snv
  let on := decide (n ≠ 0)
  s.onUnit u' (s.issue u' t'
    { w0 := enc64 0x20 (r1.toNat * 2 ^ 22 + sn.toNat * 2 ^ 17 + g * 2 ^ 15 + sb.toNat * 2 ^ 10 + sa.toNat * 2 ^ 5 + sl.toNat),
      len := 8, want := { wantS regs with tag := some g, dq := on }, srcs := regs.map Reg.s,
      bad := decide (r1 ≠ 0 ∨ r2 ≠ 0 ∨ 3 < ss ∨ 3 < ds ∨ (2 ≤ ss ∧ 2 ≤ ds)),
      checks := if on then
          (if 2 ^ 24 < n then [(0x05, w64 n)]
           else s.dmaChecks c ss src n permR snv false ++
             s.dmaChecks c ds dst n permW snv (ss == 0 && ds == 1 && (s.postOf c dst n).isSome))
        else [],
      stall := if on then
          (if s.dmaHere ss snv then s.stalls c 2 1 src n else []) ++ (if s.dmaHere ds snv then s.stalls c 3 2 dst n else [])
        else [] }
    (fun s => if on then
        s.dmaStart u' t' g { id := s.nonce, srcSp := ss, dstSp := ds, src := src, dst := dst, len := n, sn := snv,
                             tmo := th.rtmo.toNat, parts := 0, got := [], failed := none, done := false, phase := 0,
                             dest := dest, post := none }
      else s))

/-! ### RMT (Table 03-11) -/

/-- Whether an RMT operation returns a value. -/
def rmtReturns (aop : Nat) : Bool := aop == 0 || aop == 0x0B || aop == 0x0C
/-- Permission an RMT operation needs (R96). -/
def rmtPerm (aop : Nat) : Nat := if aop = 0 then permR else if aop = 1 then permW else permA
/-- An RMT takes its scoreboard or write-buffer entry and enters the DMA queue (R97, Table 02-1). -/
def State.rmtStart (s : State) (u t d addr sz dest : Nat) (aop : Nat) (b cc : Word) : State :=
  let id := s.nonce
  let far := decide (dest ≠ s.self)
  let tmo := (s.thr u t).rtmo.toNat
  let op := some (aop, b, cc)
  let l : Load := { id := id, reg := .s d, addr := addr, sz := sz, mask := 0, zero := false, rmt := op, remote := far,
                    dest := dest, sent := false, tmo := tmo }
  let e : WbEntry := { id := id, slot := t, addr := addr, len := szBytes sz, data := 0, mask := 0, rmt := op, sz := sz,
                       remote := far, failed := none, done := false, dest := dest, sent := false, tmo := tmo }
  let s := if rmtReturns aop then s.updThr u t (fun th => { th with loads := th.loads ++ [l] })
    else s.updUnt u (fun x => { x with wb := x.wb ++ [e] })
  s.tick.dqEnter u t id
/-- An RMT instruction (R96): sn naming s0 names this package. -/
def State.rmt (s : State) (u t aop sn sb sa sd sc sz : Nat) (rsv : Bool) (r1 : Nat) : Host.Outcome State Fault Refusal :=
  let th := s.thr u t
  let c := th.ctx
  let snv := th.gs sn
  let addr := (th.gs sa).toNat
  let n := if sz = 2 then 4 else 8
  let named := if sn = 0 then s.self else bits snv.toNat 35 20
  let here := decide (named = s.self)
  let dest := if here then (s.extentRemote c addr n).headD s.self else named
  let ret := rmtReturns aop
  let regs := [sa] ++ (if sn = 0 then [] else [sn]) ++ (if aop = 0 then [] else [sb]) ++ (if aop = 0x0C then [sc] else [])
  let acc := if aop = 0 then 1 else if aop = 1 then 2 else 4
  s.onUnit u (s.issue u t
    { w0 := enc64 0x21 (r1 * 2 ^ 20 + sn * 2 ^ 15 + sb * 2 ^ 10 + sa * 2 ^ 5 + sd), len := 8,
      want := { regs := (Reg.s sd :: regs.map Reg.s), score := ret, wb := !ret, dq := true },
      srcs := regs.map Reg.s,
      bad := rsv || decide (sz ≠ 2 ∧ sz ≠ 3) || (aop == 3 && sz != 2) || (!ret && sd != 0) || (aop != 0x0C && sc != 0),
      checks := (if sn ≠ 0 ∧ 767 < bits snv.toNat 35 26 then [(0x05, snv)] else []) ++
        (if here then alignCheck addr n ++ s.segChecks c addr n (rmtPerm aop)
         else if 2 ^ 48 < addr % 2 ^ 60 + n then [(0x05, w64 addr)] else []),
      stall := if here then s.stalls c 4 acc addr n else [] }
    (fun s => s.rmtStart u t sd addr sz dest aop (th.gs sb) (th.gs sc)))

/-- RLD (R96, Table 03-11). -/
def execRld (u : BitVec 20) (t : BitVec 3) (sn sb sa sd sc : BitVec 5) (sz : BitVec 3) (r1 : BitVec 5) (r2 : BitVec 18)
    (s : State) : Host.Outcome State Fault Refusal :=
  s.rmt u.toNat t.toNat 0x00 sn.toNat sb.toNat sa.toNat sd.toNat sc.toNat sz.toNat (decide (r1 ≠ 0 ∨ r2 ≠ 0)) r1.toNat
/-- RST (R96, Table 03-11). -/
def execRst (u : BitVec 20) (t : BitVec 3) (sn sb sa sd sc : BitVec 5) (sz : BitVec 3) (r1 : BitVec 5) (r2 : BitVec 18)
    (s : State) : Host.Outcome State Fault Refusal :=
  s.rmt u.toNat t.toNat 0x01 sn.toNat sb.toNat sa.toNat sd.toNat sc.toNat sz.toNat (decide (r1 ≠ 0 ∨ r2 ≠ 0)) r1.toNat
/-- AADD (R96, Table 03-11). -/
def execAadd (u : BitVec 20) (t : BitVec 3) (sn sb sa sd sc : BitVec 5) (sz : BitVec 3) (r1 : BitVec 5) (r2 : BitVec 18)
    (s : State) : Host.Outcome State Fault Refusal :=
  s.rmt u.toNat t.toNat 0x02 sn.toNat sb.toNat sa.toNat sd.toNat sc.toNat sz.toNat (decide (r1 ≠ 0 ∨ r2 ≠ 0)) r1.toNat
/-- AFADD (R96, Table 03-11). -/
def execAfadd (u : BitVec 20) (t : BitVec 3) (sn sb sa sd sc : BitVec 5) (sz : BitVec 3) (r1 : BitVec 5) (r2 : BitVec 18)
    (s : State) : Host.Outcome State Fault Refusal :=
  s.rmt u.toNat t.toNat 0x03 sn.toNat sb.toNat sa.toNat sd.toNat sc.toNat sz.toNat (decide (r1 ≠ 0 ∨ r2 ≠ 0)) r1.toNat
/-- AAND (R96, Table 03-11). -/
def execAand (u : BitVec 20) (t : BitVec 3) (sn sb sa sd sc : BitVec 5) (sz : BitVec 3) (r1 : BitVec 5) (r2 : BitVec 18)
    (s : State) : Host.Outcome State Fault Refusal :=
  s.rmt u.toNat t.toNat 0x04 sn.toNat sb.toNat sa.toNat sd.toNat sc.toNat sz.toNat (decide (r1 ≠ 0 ∨ r2 ≠ 0)) r1.toNat
/-- AOR (R96, Table 03-11). -/
def execAor (u : BitVec 20) (t : BitVec 3) (sn sb sa sd sc : BitVec 5) (sz : BitVec 3) (r1 : BitVec 5) (r2 : BitVec 18)
    (s : State) : Host.Outcome State Fault Refusal :=
  s.rmt u.toNat t.toNat 0x05 sn.toNat sb.toNat sa.toNat sd.toNat sc.toNat sz.toNat (decide (r1 ≠ 0 ∨ r2 ≠ 0)) r1.toNat
/-- AXOR (R96, Table 03-11). -/
def execAxor (u : BitVec 20) (t : BitVec 3) (sn sb sa sd sc : BitVec 5) (sz : BitVec 3) (r1 : BitVec 5) (r2 : BitVec 18)
    (s : State) : Host.Outcome State Fault Refusal :=
  s.rmt u.toNat t.toNat 0x06 sn.toNat sb.toNat sa.toNat sd.toNat sc.toNat sz.toNat (decide (r1 ≠ 0 ∨ r2 ≠ 0)) r1.toNat
/-- AMIN (R96, Table 03-11). -/
def execAmin (u : BitVec 20) (t : BitVec 3) (sn sb sa sd sc : BitVec 5) (sz : BitVec 3) (r1 : BitVec 5) (r2 : BitVec 18)
    (s : State) : Host.Outcome State Fault Refusal :=
  s.rmt u.toNat t.toNat 0x07 sn.toNat sb.toNat sa.toNat sd.toNat sc.toNat sz.toNat (decide (r1 ≠ 0 ∨ r2 ≠ 0)) r1.toNat
/-- AMAX (R96, Table 03-11). -/
def execAmax (u : BitVec 20) (t : BitVec 3) (sn sb sa sd sc : BitVec 5) (sz : BitVec 3) (r1 : BitVec 5) (r2 : BitVec 18)
    (s : State) : Host.Outcome State Fault Refusal :=
  s.rmt u.toNat t.toNat 0x08 sn.toNat sb.toNat sa.toNat sd.toNat sc.toNat sz.toNat (decide (r1 ≠ 0 ∨ r2 ≠ 0)) r1.toNat
/-- AMINU (R96, Table 03-11). -/
def execAminu (u : BitVec 20) (t : BitVec 3) (sn sb sa sd sc : BitVec 5) (sz : BitVec 3) (r1 : BitVec 5) (r2 : BitVec 18)
    (s : State) : Host.Outcome State Fault Refusal :=
  s.rmt u.toNat t.toNat 0x09 sn.toNat sb.toNat sa.toNat sd.toNat sc.toNat sz.toNat (decide (r1 ≠ 0 ∨ r2 ≠ 0)) r1.toNat
/-- AMAXU (R96, Table 03-11). -/
def execAmaxu (u : BitVec 20) (t : BitVec 3) (sn sb sa sd sc : BitVec 5) (sz : BitVec 3) (r1 : BitVec 5) (r2 : BitVec 18)
    (s : State) : Host.Outcome State Fault Refusal :=
  s.rmt u.toNat t.toNat 0x0A sn.toNat sb.toNat sa.toNat sd.toNat sc.toNat sz.toNat (decide (r1 ≠ 0 ∨ r2 ≠ 0)) r1.toNat
/-- AXCHG (R96, Table 03-11). -/
def execAxchg (u : BitVec 20) (t : BitVec 3) (sn sb sa sd sc : BitVec 5) (sz : BitVec 3) (r1 : BitVec 5) (r2 : BitVec 18)
    (s : State) : Host.Outcome State Fault Refusal :=
  s.rmt u.toNat t.toNat 0x0B sn.toNat sb.toNat sa.toNat sd.toNat sc.toNat sz.toNat (decide (r1 ≠ 0 ∨ r2 ≠ 0)) r1.toNat
/-- ACAS (R96, Table 03-11). -/
def execAcas (u : BitVec 20) (t : BitVec 3) (sn sb sa sd sc : BitVec 5) (sz : BitVec 3) (r1 : BitVec 5) (r2 : BitVec 18)
    (s : State) : Host.Outcome State Fault Refusal :=
  s.rmt u.toNat t.toNat 0x0C sn.toNat sb.toNat sa.toNat sd.toNat sc.toNat sz.toNat (decide (r1 ≠ 0 ∨ r2 ≠ 0)) r1.toNat

end Sys2Proof.Machine
end

