-- ==== Sys2Proof/Machine/Sync.lean ====
section
/-! DEFINITION. Barriers, fences, waits and the end of a thread (R48, R103 to R105, R146, R147). -/

namespace Sys2Proof.Machine

/-- First word of a SYNC instruction. -/
def syncWord (fn : Nat) (d a b : BitVec 5) : Nat := encA 0x30 fn b.toNat a.toNat d.toNat
/-- A field that an operation does not use is not zero (R103). -/
def anyField (d a b : BitVec 5) : Bool := decide (d ≠ 0 ∨ a ≠ 0 ∨ b ≠ 0)
/-- Put a thread into a wait. -/
def Thread.await (th : Thread) (now : Nat) (w : WaitFor) : Thread := { th with st := .waiting, wait := some w, waitAt := now }
/-- NOP (R103). -/
def execNop (u : BitVec 20) (t : BitVec 3) (d a b : BitVec 5) (s : State) : Host.Outcome State Fault Refusal :=
  s.onUnit u.toNat (s.issue u.toNat t.toNat
    { w0 := syncWord 0x000 d a b, want := wantS [], srcs := [], bad := anyField d a b } (fun s => s))
/-- END (R103, R105): an unreported failure is raised; else the thread drains. -/
def execEndThread (u : BitVec 20) (t : BitVec 3) (d a b : BitVec 5) (s : State) : Host.Outcome State Fault Refusal :=
  let fails := (s.thr u.toNat t.toNat).endFails
  s.onUnit u.toNat (s.issue u.toNat t.toNat
    { w0 := syncWord 0x001 d a b, want := wantS [], srcs := [], bad := anyField d a b, hold := true,
      checks := fails.map (fun m => (m.code, m.detail)) }
    (fun s => s.updThr u.toNat t.toNat (fun th => { th with st := .draining })))
/-- BRK (R103). -/
def execBrk (u : BitVec 20) (t : BitVec 3) (d a b : BitVec 5) (s : State) : Host.Outcome State Fault Refusal :=
  s.onUnit u.toNat (s.issue u.toNat t.toNat
    { w0 := syncWord 0x002 d a b, want := wantS [], srcs := [], bad := anyField d a b, checks := [(0x18, 0)] } (fun s => s))
/-- Ids of the writes of a thread that are not yet performed, in every engine (R146). -/
def Unt.openWrites (x : Unt) (t : Nat) : List Nat :=
  ((x.wb.filter (fun e => e.slot == t && !e.done)).map (·.id)) ++ (((x.thr t).loads.filter Load.writes).map (·.id)) ++
  ((x.thr t).dma.toList.filterMap (fun d => d.map (·.id))) ++
  ((x.vq.filter (fun o => o.slot == t && o.cls == .vsts)).map (·.id)) ++
  (((x.mq ++ x.mrun.toList).filter (fun o => o.slot == t && o.kind == 1)).map (·.id))
/-- BAR (R48, R103, R146): d[0] is REL and d[1] ACQ. -/
def execBar (u : BitVec 20) (t : BitVec 3) (d a b : BitVec 5) (s : State) : Host.Outcome State Fault Refusal :=
  let u' := u.toNat
  let t' := t.toNat
  let rel := bitOf d.toNat 0
  let acq := bitOf d.toNat 1
  s.onUnit u' (s.issue u' t'
    { w0 := syncWord 0x010 d a b, want := wantS [], srcs := [], bad := decide (4 ≤ d.toNat ∨ a ≠ 0 ∨ b ≠ 0), hold := true }
    (fun s =>
      let s := s.updThr u' t' (fun th => { th.await s.count (.bar rel acq) with arrived := true })
      if rel then
        { s with groups := s.groups.upd (u' / 16) (fun g => { g with carried := g.carried ++ (s.unt u').openWrites t' }) }
      else s))
/-- A wait of SYNC: it completes at once when satisfied, raising a failure it reports (R95, R108); else the thread waits. -/
def State.syncWait (s : State) (u t w0 : Nat) (bad : Bool) (w : WaitFor) : Host.Outcome State Fault Refusal :=
  let x := s.unt u
  let passed := x.waitOver t w
  s.onUnit u (s.issue u t
    { w0 := w0, want := wantS [], srcs := [], bad := bad, hold := !passed,
      checks := if passed then (match (x.thr t).waitFail w with | some m => [(m.code, m.detail)] | none => []) else [] }
    (fun s => if passed then s else s.updThr u t (fun th => th.await s.count w)))
/-- FENCE (R103). -/
def execFence (u : BitVec 20) (t : BitVec 3) (d a b : BitVec 5) (s : State) : Host.Outcome State Fault Refusal :=
  s.syncWait u.toNat t.toNat (syncWord 0x020 d a b) (anyField d a b) .fence
/-- DWAIT (R103): d[3:0] is the tag mask. -/
def execDwait (u : BitVec 20) (t : BitVec 3) (d a b : BitVec 5) (s : State) : Host.Outcome State Fault Refusal :=
  s.syncWait u.toNat t.toNat (syncWord 0x021 d a b) (decide (16 ≤ d.toNat ∨ a ≠ 0 ∨ b ≠ 0)) (.dwait (d.toNat % 16))
/-- VWAIT (R103). -/
def execVwait (u : BitVec 20) (t : BitVec 3) (d a b : BitVec 5) (s : State) : Host.Outcome State Fault Refusal :=
  s.syncWait u.toNat t.toNat (syncWord 0x023 d a b) (anyField d a b) .vwait
/-- WAITE (R104). -/
def execWaite (u : BitVec 20) (t : BitVec 3) (d a b : BitVec 5) (s : State) : Host.Outcome State Fault Refusal :=
  let u' := u.toNat
  let t' := t.toNat
  let th := s.thr u' t'
  let off := (th.gs a.toNat).toNat
  let val := th.gs b.toNat
  let dur := (th.gs d.toNat).toNat % 2 ^ 32
  let fits := decide (off < 16384)
  let equal := decide (w64 (s.shelfNat u' off 8) = val)
  s.onUnit u' (s.issue u' t'
    { w0 := syncWord 0x030 d a b, want := wantS [d.toNat, a.toNat, b.toNat],
      srcs := [.s d.toNat, .s a.toNat, .s b.toNat], hold := !equal, rd := (off, 8),
      checks := alignCheck off 8 ++ (if fits then [] else [(0x07, w64 off)]) ++
        (if fits && s.rowsPoison u' off 8 then [(0x10, 0)] else []) }
    (fun s => s.updThr u' t' (fun th =>
      if equal then th.setS d.toNat 0
      else th.await s.count (.waite off val d.toNat (if dur = 0 then none else some (s.count + dur))))))

end Sys2Proof.Machine
end

