-- ==== Sys2Proof/Machine/Engines.lean ====
section
/-! DEFINITION. What the engines of a unit, its write buffer and its Puppeteer complete: loads, stores, transfers,
timeouts, barriers, drained threads and ended groups (R38, R41, R48, R49, R82, R95, R99, R104, R147). -/

namespace Sys2Proof.Machine

/-- The count at which a timer that is due at `due` runs out: then, or now when it is overdue. -/
def State.dueAt (s : State) (due : Nat) : Nat := max s.count due % 2 ^ 64
/-- Time passes up to the count at which a timer is due. -/
def State.untilDue (s : State) (due : Nat) : State := s.pass (due - s.count)
/-- Whether a home transaction of an act is open. -/
def State.actOpen (s : State) (a : HAct) : Bool := s.home.txns.any (fun e => e.2.act == a)
/-- The value of a load whose bytes are at home here, with the copy the region cache keeps (R136, R161). -/
def State.loadServe (s : State) (u t : Nat) (l : Load) : State :=
  let c := (s.thr u t).ctx
  let poison : Option Mark := some ⟨0x10, w64 l.addr⟩
  match s.translate c l.addr with
  | .larder key =>
    let r := s.cacheRead (rgnOf u) key (s.inCoherent c l.addr) (if l.sz = 7 then 3 else 2)
    let s := if r.2.1 then r.2.2.notePoisonRead key else r.2.2
    let x := if l.sz = 7 then r.1 else bits r.1 (8 * (key % 64) + 8 * szBytes l.sz - 1) (8 * (key % 64))
    s.endLoad u t l.id x (if r.2.1 then poison else none)
  | .cellar e b =>
    let n := if l.sz = 7 then 64 else szBytes l.sz
    let b := if l.sz = 7 then b / 64 * 64 else b
    let got := s.celBytes e b n
    let s := (s.sectorsDrop c l.addr n).endLoad u t l.id (leNat (got.getD [])) (if got.isNone then poison else none)
    s
  | _ => s.endLoad u t l.id 0 none
/-- Bytes that a load covers at its home, for its snoops and sectors. -/
def Load.bytes (l : Load) : Nat := if l.sz = 7 then hiByte l.mask + 1 - loByte l.mask else szBytes l.sz
/-- An outstanding load or value-returning remote operation returns (R41, R97): a line that an agent owns is called
back first (Table 12-5), a Cellar sector must have come (R174), and an AXCHG or ACAS waits for the thread's earlier writes
(R98).  One that waits in the DMA queue is taken from it. -/
def State.loadReturn (s : State) (u t k : Nat) : State :=
  let th := s.thr u t
  match th.loads.drop k with
  | [] => s
  | l :: _ =>
    let c := th.ctx
    let wr := l.writes
    let act : HAct := if l.rmt.isSome then .rmt u t l.id else .read
    if (s.unt u).queued t l.id then s.dqTake u t l.id
    else if wr && (s.unt u).earlierWrite t l.id [l.dest] then s
    else if l.remote || !s.sectorsHere c l.addr l.bytes || s.actOpen (.rmt u t l.id) then s
    else
      match s.homeOpen c (s.compOf c) [(l.addr, l.bytes, wr)] act with
      | some s' => if !wr && s.home.txns.any (fun e => e.2.act == .read && (s.cohLines c l.addr l.bytes).any (fun x => x.1 == e.2.line))
          then s else s'
      | none => if l.rmt.isSome then s.rmtPerform u t l.id else s.loadServe u t l
/-- LOAD_RETURN (R41). -/
def execLoadReturn (u : BitVec 20) (t : BitVec 3) (k : Nat) (s : State) : Host.Outcome State Fault Refusal :=
  s.onUnit u.toNat (s.loadReturn u.toNat t.toNat k)
/-- A store or register-free remote operation of this package is performed and completes (R82, R98); one that waits in the
DMA queue is taken from it, and one that waits behind an unsent write is sent. -/
def State.wbComplete (s : State) (u k : Nat) : State :=
  let x := s.unt u
  match x.wb.drop k with
  | [] => s
  | e :: _ =>
    if x.queued e.slot e.id then s.dqTake u e.slot e.id
    else if !e.sent then (if x.unsent s.self e.slot e.id [e.dest] then s else s.wbSend u e.id)
    else if e.remote || x.earlierWrite e.slot e.id [e.dest] || s.actOpen (.wb u e.id) then s
    else
      let c := (x.thr e.slot).ctx
      match s.homeOpen c (s.compOf c) [(e.addr, e.len, true)] (.wb u e.id) with
      | some s' => s'
      | none => s.wbPerform u e.id
/-- WRITE_BUFFER_COMPLETE (R82). -/
def execWriteBufferComplete (u : BitVec 20) (k : Nat) (s : State) : Host.Outcome State Fault Refusal :=
  s.onUnit u.toNat (s.wbComplete u.toNat k)
/-- A transfer's local side is performed, or the tag completes when its last write is (R95, R98). -/
def State.dmaComplete (s : State) (u t tag : Nat) : State :=
  let x := s.unt u
  let th := x.thr t
  match th.dma.toList.getD tag none with
  | none => s
  | some d =>
    let c := th.ctx
    if x.queued t d.id then s.dqTake u t d.id
    else if d.parts ≠ 0 || d.post.isSome || s.actOpen (.dma u t tag) then s
    else if d.phase = 2 then s.endDma u t tag d.failed
    else if x.earlierWrite t d.id d.dest || (s.dmaHere d.srcSp d.sn && !s.sectorsHere c d.src d.len) then s
    else
      let parts := (if s.dmaHere d.srcSp d.sn then [(d.src, d.len, false)] else []) ++
        (if s.dmaHere d.dstSp d.sn then [(d.dst, d.len, true)] else [])
      match s.homeOpen c (s.compOf c) parts (.dma u t tag) with
      | some s' => s'
      | none => s.dmaPerform u t tag
/-- DMA_TAG_COMPLETE (R95). -/
def execDmaTagComplete (u : BitVec 20) (t : BitVec 3) (tag : BitVec 2) (s : State) : Host.Outcome State Fault Refusal :=
  s.onUnit u.toNat (s.dmaComplete u.toNat t.toNat tag.toNat)
/-- WAITE_TIMEOUT (R104): 1 is written to d. -/
def execWaiteTimeout (u : BitVec 20) (t : BitVec 3) (s : State) : Host.Outcome State Fault Refusal :=
  let u' := u.toNat
  let t' := t.toNat
  let th := s.thr u' t'
  s.onUnit u' (match th.st, th.wait with
    | .waiting, some (.waite _ _ d (some e)) =>
      ((s.untilDue e).updThr u' t' (fun th => th.leaveWait.setS d 1)).katAbandon u'
    | _, _ => s)

/-! ### Groups (R45, R48, R49, R147) -/

/-- Unit and slot of thread `i` of a cluster's group (R45). -/
def groupSlot (cl i : Nat) : Nat × Nat := (cl * 16 + i / 8, i % 8)
/-- The thread slots of a running group. -/
def GroupRun.slots (g : GroupRun) (cl : Nat) : List (Nat × Nat) := (List.range g.n).map (groupSlot cl)
/-- A thread counts as arrived at the barrier: waiting in it, draining or ended (R48). -/
def Thread.atBarrier (th : Thread) : Bool :=
  th.arrived || th.st == .draining || th.st == .empty
/-- Whether any of a list of writes is still open on a cluster. -/
def State.stillOpen (s : State) (cl : Nat) (ids : List Nat) : Bool :=
  (List.range 16).any (fun i => (List.range 8).any (fun t =>
    ((s.unt (cl * 16 + i)).openWrites t).any (fun id => ids.contains id)))
/-- All threads have arrived: those without ACQ leave, the others await the carried writes (R147). -/
def State.barrierPass (s : State) (cl : Nat) (g : GroupRun) : State :=
  let sl := g.slots cl
  let drain := sl.flatMap (fun p =>
    if (s.thr p.1 p.2).st = .draining then (s.unt p.1).openWrites p.2 else [])
  let s := { s with groups := s.groups.put cl { g with carried := [], passed := g.carried ++ drain } }
  sl.foldl (fun s p =>
    s.updThr p.1 p.2 (fun th =>
      match th.wait with
      | some (.bar _ acq) => if acq then { th with arrived := false } else th.leaveWait
      | _ => th)) s
/-- Acquiring threads leave once every carried write has been performed (R147). -/
def State.barrierLeave (s : State) (cl : Nat) : State :=
  match s.groups.find? cl with
  | none => s
  | some g =>
    if s.stillOpen cl g.passed then s
    else
      (g.slots cl).foldl (fun s p =>
        s.updThr p.1 p.2 (fun th =>
          match th.wait with
          | some (.bar _ _) => if th.arrived then th else th.leaveWait
          | _ => th)) s
/-- The barrier of a cluster releases (R48, R147). -/
def State.barrier (s : State) (cl : Nat) : State :=
  match s.groups.find? cl with
  | none => s
  | some g =>
    let sl := g.slots cl
    let ready := sl.all (fun p => (s.thr p.1 p.2).atBarrier) && sl.any (fun p => (s.thr p.1 p.2).arrived)
    let s := if ready then s.barrierPass cl g else s
    (List.range 16).foldl (fun s i => s.katAbandon (cl * 16 + i)) (s.barrierLeave cl)
/-- BARRIER_RELEASE (R147). -/
def execBarrierRelease (cl : BitVec 16) (s : State) : Host.Outcome State Fault Refusal :=
  s.onUnit (cl.toNat * 16) (s.barrier cl.toNat)
/-- Whether a thread has an operation outstanding in any engine (R38, R49). -/
def Unt.outstanding (x : Unt) (t : Nat) : Bool :=
  !(x.thr t).loads.isEmpty || (x.thr t).dma.toList.any (·.isSome) || x.wb.any (fun e => e.slot == t) ||
    x.vq.any (fun o => o.slot == t) || x.matrixOpen t
/-- THREAD_DRAINED (R38): the slot becomes Empty, and accumulators still held are released (R43). -/
def execThreadDrained (u : BitVec 20) (t : BitVec 3) (s : State) : Host.Outcome State Fault Refusal :=
  let u' := u.toNat
  let t' := t.toNat
  let x := s.unt u'
  s.onUnit u' (if (x.thr t').st = .draining ∧ x.outstanding t' = false then
      (s.updThr u' t' (fun th => { th with st := .empty })).releaseAll u' t'
    else s)
/-- Whether every thread of a group has ended or, in a closed kernel, stopped with nothing outstanding (R49, R59). -/
def State.groupOver (s : State) (cl : Nat) (g : GroupRun) : Bool :=
  (g.slots cl).all (fun p =>
    let x := s.unt p.1
    match (x.thr p.2).st with
    | .empty => true
    | .stopped => !x.outstanding p.2
    | _ => false)
/-- Whether a region holds a group. -/
def State.rgnBusy (s : State) (r : Nat) : Bool := s.groups.any (fun e => e.1 / 64 == r)
/-- The group of a cluster ends and the cluster becomes idle (R49). -/
def State.groupEnd (s : State) (cl : Nat) : State :=
  match s.groups.find? cl with
  | none => s
  | some g =>
    if s.groupOver cl g then
      let s := (g.slots cl).foldl (fun s p =>
        (s.updThr p.1 p.2 (fun th => { th with st := .empty })).releaseAll p.1 p.2) s
      let s := { s with groups := s.groups.del cl }
      let s := s.updKer g.ctx (fun k => { k with ended := k.ended + 1 })
      if s.rgnBusy (cl / 64) then s else s.updRgn (cl / 64) (fun r => { r with idleAt := s.count })
    else s
/-- GROUP_END (R49). -/
def execGroupEnd (cl : BitVec 16) (s : State) : Host.Outcome State Fault Refusal :=
  s.onUnit (cl.toNat * 16) (s.groupEnd cl.toNat)

end Sys2Proof.Machine
end

