-- ==== Sys2Proof/Machine/Complete.lean ====
section
/-! DEFINITION. Completions: records, rings, held completions, and the descriptors a context has consumed (R366, R369 to
R373). -/

namespace Sys2Proof.Machine

/-! ### Statuses (Table 14-7) -/

/-- OK. -/
abbrev stOK : Nat := 0x00
/-- MALFORMED. -/
abbrev stMalformed : Nat := 0x01
/-- BOUNDS. -/
abbrev stBounds : Nat := 0x02
/-- REVOKED. -/
abbrev stRevoked : Nat := 0x03
/-- ABSENT. -/
abbrev stAbsent : Nat := 0x04
/-- TOO_LARGE. -/
abbrev stTooLarge : Nat := 0x05
/-- HALTED. -/
abbrev stHalted : Nat := 0x06
/-- BUSY. -/
abbrev stBusy : Nat := 0x07
/-- STATE. -/
abbrev stState : Nat := 0x08
/-- QUOTA. -/
abbrev stQuota : Nat := 0x09
/-- NO_SPACE. -/
abbrev stNoSpace : Nat := 0x0A
/-- SIZE. -/
abbrev stSize : Nat := 0x0B
/-- BOUND. -/
abbrev stBound : Nat := 0x0C
/-- MEDIA. -/
abbrev stMedia : Nat := 0x0D
/-- NO_CELLAR. -/
abbrev stNoCellar : Nat := 0x0E
/-- STALE. -/
abbrev stStale : Nat := 0x0F
/-- EXCEPTION. -/
abbrev stException : Nat := 0x10
/-- ABORTED. -/
abbrev stAborted : Nat := 0x11
/-- INDEX_FAULT. -/
abbrev stIndexFault : Nat := 0x12
/-- INDEX_BAD. -/
abbrev stIndexBad : Nat := 0x13
/-- PEER. -/
abbrev stPeer : Nat := 0x14
/-- SEND_ERR. -/
abbrev stSendErr : Nat := 0x15
/-- SEQ. -/
abbrev stSeq : Nat := 0x18
/-- FULL. -/
abbrev stFull : Nat := 0x19

/-- The first failing status among extents, in the order of Table 07-5: BOUNDS, REVOKED, ABSENT. -/
def firstStatus (l : List (Option Nat)) : Option Nat :=
  l.foldl (fun a x => match a, x with | some p, some q => some (min p q) | none, x => x | a, none => a) none
/-- The check of an extent that must lie in a Larder segment: one that does not is out of bounds before anything is revoked or
absent (Tables 06-8 and 07-5). -/
def State.larderCheck (s : State) (c addr n perm : Nat) : Option Nat :=
  if s.inLarder c addr then s.descCheck c addr n perm else some stBounds

/-! ### Records and rings (R369 to R373) -/

/-- What a completion says beyond its descriptor (Table 14-6). -/
structure Result where
  status : Nat
  code : Nat := 0
  detail : Nat := 0
  pc : Nat := 0
  loc : Nat := 0

/-- A completion record with PHASE 0 (Table 14-6). -/
def cmpRecord (c : Nat) (q : QDesc) (r : Result) : Nat :=
  putField 0 4 q.seq + putField 4 2 q.op + putField 6 1 r.status + putField 7 1 r.code + putField 8 8 r.detail +
  putField 16 8 r.pc + putField 24 5 r.loc + putField 29 2 c
/-- COMP_REQ of a descriptor. -/
def dReq (d : Vec) : Bool := bitOf (fieldOf d 2 1) 0
/-- NOTIFY of a descriptor. -/
def dNotify (d : Vec) : Bool := bitOf (fieldOf d 2 1) 1
/-- CRING of a descriptor. -/
def dRing (d : Vec) : Nat := bits (fieldOf d 2 1) 3 2
/-- Issue a completion: held on its ring until it is written, or discarded when the ring is not set (R370, R371). -/
def State.issueCmp (s : State) (c : Nat) (h : HeldCmp) : State :=
  if (s.ring c h.ring).set then s.updCtx c (fun x => { x with held := x.held ++ [h] })
  else
    (s.inc rETH_CMP_NORING 31 0).raise
      { code := 0x0902, sev := 2, comp := s.compOf c, d0 := c, d1 := h.ring, d2 := h.seq }
/-- The number under which completions of a post area wait in DEST: `16 + 4 · TARGET + AREA_NO` (R279). -/
def areaRing (target area : Nat) : Nat := 16 + 4 * target + area
/-- A descriptor completes (R366, R369, R372, R279). -/
def State.complete (s : State) (c : Nat) (q : QDesc) (r : Result) : State :=
  let x := cmpRecord c q r
  let s := if q.sys then s.wr rETH_SYS_CMP 0 0 x else s
  if !dReq q.d then s
  else
    match q.post with
    | some (tc, a) => s.updCtx c (fun y => { y with held := y.held ++ [⟨areaRing tc a, x, q.seq, dNotify q.d⟩] })
    | none => s.issueCmp c ⟨dRing q.d, x, q.seq, dNotify q.d⟩
/-- The first completion held on a ring. -/
def State.heldOn (s : State) (c r : Nat) : Option HeldCmp := (s.ctx c).held.find? (fun h => h.ring = r)
/-- Whether the ring's count lets its next completion be written (R370). -/
def Ring.allows (r : Ring) : Bool := !r.freedEn || decide (r.m < r.f + 2 ^ r.log2)
/-- Remove the first held completion of a ring. -/
def dropHeld (r : Nat) : List HeldCmp → List HeldCmp
  | [] => []
  | h :: hs => if h.ring = r then hs else h :: dropHeld r hs
/-- Write the next completion of a ring, with its notification (R370, R372). -/
def State.writeRing (s : State) (c r : Nat) : State :=
  let k := s.ring c r
  match s.heldOn c r with
  | none => s
  | some h =>
    if !k.set || !k.allows then s
    else
      let phase := (k.m / 2 ^ k.log2 + 1) % 2
      let data := leBytes 32 (h.rec256 + phase * 2 ^ 248)
      match s.qpSend k.qp (s.compOf c) (.write k.key (k.va + 32 * (k.m % 2 ^ k.log2))) (.cmp c h) data with
      | none => s
      | some s' =>
        let s' := (s'.updCtx c (fun x => { x with held := dropHeld r x.held })).updRing c r (fun k => { k with m := k.m + 1 })
        if h.notify then (s'.qpSend k.qp (s.compOf c) (.send (some h.seq)) (.notify c) []).getD s' else s'
/-- Arrival words of the frames and completions whose bytes are all performed (R272, R279). -/
def State.arrivals (s : State) (c : Nat) : State :=
  let x := s.ctx c
  if s.hubWrites c || (x.owed.isEmpty && x.intakes.all (fun e => decide (e.2.n ≤ e.2.told)) &&
      x.posts.all (fun e => decide (e.2.m ≤ e.2.told))) then s
  else
    let word (s : State) (u off k : Nat) : State := s.shelfWrite (u % 2 ^ 20) (off + 8 * (k % 64)) (leBytes 8 (k + 1)) false
    let s := x.owed.foldl (fun s w => (List.range w.2.2.2).foldl (fun s k => word s w.1 w.2.1 (w.2.2.1 + k)) s) s
    let s := x.intakes.foldl (fun s e => (List.range (e.2.n - e.2.told)).foldl (fun s k =>
      word s (fieldOf e.2.d 40 5) (fieldOf e.2.d 46 2 % 2 ^ 14) (e.2.told + k)) s) s
    let s := x.posts.foldl (fun s e => (List.range (e.2.m - e.2.told)).foldl (fun s k =>
      word s (fieldOf e.2.d 48 5) (fieldOf e.2.d 54 2 % 2 ^ 14) (e.2.told + k)) s) s
    s.updCtx c (fun x => { x with
      owed := []
      intakes := x.intakes.mapV (fun _ (i : Intake) => { i with told := i.n })
      posts := x.posts.mapV (fun _ (p : Post) => { p with told := p.m }) })
/-- Write the next completion of a post area into its ring in the Larder, then its arrival word (R279); a notification
goes out on the queue pair of the first completion ring of DEST (DESIGN CHOICE, log entry 30). -/
def State.writeArea (s : State) (c r : Nat) : State :=
  let tc := (r - 16) / 4
  match s.heldOn c r, (s.ctx tc).posts.find? ((r - 16) % 4) with
  | some h, some p =>
    if p.f + 4096 ≤ p.m then s
    else
      let data := leBytes 32 (h.rec256 + (p.m / 4096 + 1) % 2 * 2 ^ 248)
      let s := s.hubWrite tc (fieldOf p.d 32 8 + 32 * (p.m % 4096)) data
      let s := s.updCtx c (fun x => { x with held := dropHeld r x.held })
      let s := s.updCtx tc (fun x => { x with posts := x.posts.upd ((r - 16) % 4) (fun p => { p with m := p.m + 1 }) })
      let s := s.arrivals tc
      let k := s.ring c 0
      if h.notify && k.set then (s.qpSend k.qp (s.compOf c) (.send (some h.seq)) (.notify c) []).getD s else s
  | _, _ => s
/-- Write the next completion of a ring or of a post area's ring. -/
def State.writeCmp (s : State) (c r : Nat) : State := if r < 16 then s.writeRing c r else s.writeArea c r
/-- COMPLETION_WRITE (R370): the next completion of a ring is written when its count allows it. -/
def execCompletionWrite (ctx : BitVec 12) (ring : Nat) (s : State) : Host.Outcome State Fault Refusal :=
  s.live (s.writeCmp ctx.toNat ring)
/-- A ring write fails: it is counted and reported, and the completion is held again (R371). -/
def State.cmpFailed (s : State) (c : Nat) (h : HeldCmp) : State :=
  ((s.updCtx c (fun x => { x with held := x.held ++ [h] })).inc rETH_CMP_ERR 31 0).raise
    { code := 0x0901, sev := 2, comp := s.compOf c, d0 := c, d1 := h.ring }

/-! ### Counts that a host keeps in the Larder (R370, R273, R279) -/

/-- Whether the hub cannot read a FREED word here: its segment, its extent (R370). -/
def State.freedShut (s : State) (c addr : Nat) : Bool :=
  (s.segCheck c addr 8 permR).isSome || s.absent c addr || !s.inLarder c addr
/-- The count at a FREED word of this package as the hub can read it: 0 when its segment, extent or line does not let it
(R370). -/
def State.freedAt (s : State) (c addr : Nat) : Nat :=
  if s.freedShut c addr then 0
  else match s.keyOf c addr with | some k => if s.linePoison k then 0 else leNat (s.larderRead k 8) | none => 0
/-- The hub reads the line of a FREED word (R160, R370). -/
def State.freedMeet (s : State) (c addr : Nat) : State :=
  if s.freedShut c addr then s
  else match s.keyOf c addr with | some k => s.lineMeet (k / 64) 0 | none => s
/-- The address of the count of a completion ring (0–3) that follows one, an intake binding (4 + queue pair) or a post area
(2^20 + number). -/
def State.freedWord (s : State) (c which : Nat) : Option Nat :=
  if which < 4 then (let k := s.ring c which; if k.set && k.freedEn then some k.freed else none)
  else if which < 2 ^ 20 then ((s.ctx c).intakes.find? (which - 4)).map (fun i => fieldOf i.d 32 8)
  else ((s.ctx c).posts.find? (which - 2 ^ 20)).map (fun p => fieldOf p.d 40 8)
/-- The hub reads a count at its home and takes it into F; a home in another package is asked for it by RD, and F keeps its
value until the answer (R370; DESIGN CHOICE, log entry 102). -/
def State.takeFreed (s : State) (c which : Nat) : State :=
  match s.freedWord c which with
  | none => s
  | some a =>
    match s.freedShut c a, s.translate c a with
    | false, .remote k => s.request (s.mkReq 0x01 k 0 c a 8 [] 0 (.count c which))
    | _, _ => (s.setFreed c which (s.freedAt c a)).freedMeet c a
/-- The answer about a count that another package holds: poison is a count that cannot be read (R370). -/
def State.freedGot (s : State) (c which : Nat) (bs : List Byte) (poison : Bool) : State :=
  match s.freedWord c which with
  | none => s
  | some a => s.setFreed c which (if poison || s.freedShut c a then 0 else leNat (bs.take 8))
/-- Counts that can no longer be read are taken as 0 (R370). -/
def State.recheckFreed (s : State) : State :=
  let zero (c a f : Nat) : Nat := if (s.segCheck c a 8 permR).isSome || s.absent c a then 0 else f
  { s with ctxs := s.ctxs.mapV (fun c x => { x with
      rings := x.rings.mapV (fun _ k => if k.freedEn then { k with f := zero c k.freed k.f } else k)
      intakes := x.intakes.mapV (fun _ i => { i with f := zero c (fieldOf i.d 32 8) i.f })
      posts := x.posts.mapV (fun _ p => { p with f := zero c (fieldOf p.d 40 8) p.f }) }) }
/-- FREED_UPDATE (R370): a write performed to a count's word is taken into F. -/
def execFreedUpdate (ctx : BitVec 12) (which : Nat) (s : State) : Host.Outcome State Fault Refusal :=
  s.live (s.takeFreed ctx.toNat which)

/-! ### The queue of a context (R366, R367) -/

/-- Opcodes that run as kernels (Table 14-4). -/
def isKernelOp (op : Nat) : Bool := decide (1 ≤ op ∧ op ≤ 6)
/-- Opcodes that run in hub order (Table 14-4, R429, R434). -/
def isHubOp (op : Nat) : Bool := decide ((0x10 ≤ op ∧ op ≤ 0x16) ∨ op = 0x18 ∨ op = 0x201 ∨ op = 0x202)
/-- Remove the first descriptor of a queue that satisfies a test. -/
def dropFirst (p : QDesc → Bool) : List QDesc → List QDesc
  | [] => []
  | q :: qs => if p q then qs else q :: dropFirst p qs
/-- Queue a descriptor. -/
def State.enqueue (s : State) (c : Nat) (q : QDesc) : State := s.updCtx c (fun x => { x with queue := x.queue ++ [q] })

end Sys2Proof.Machine
end

