-- ==== Sys2Proof/Machine/Partner.lean ====
section
/-! DEFINITION. The pod's leader, and arrivals and departures of link partners (R375, R376, R386, R387). -/

namespace Sys2Proof.Machine

/-! ### The leader (R386) -/

/-- The heartbeat period in counts. -/
abbrev hbPeriod : Nat := 2 ^ 20
/-- Whether a member counts as healthy here: itself, or heard within the last four periods (R386). -/
def State.healthy (s : State) (p : Nat) : Bool :=
  p == s.pkg || (match s.map.heard.find? p with | some t => decide (s.count ≤ t + 4 * hbPeriod) | none => false)
/-- The package taken as leader: the lowest-numbered member held healthy (R386). -/
def State.leader (s : State) : Option Nat :=
  if s.map.podPkg.isNone then none else s.map.members.find? s.healthy
/-- Whether this package is the leader. -/
def State.leads (s : State) : Bool := s.leader == some s.pkg

/-! ### The partner table (R387, CMP_PARTNER) -/

/-- An entry of the partner table, less its count (CMP_PARTNER [32:0]). -/
def partnerWord (pkg kind num : Nat) (arrival : Bool) (partner : Nat) : Nat :=
  b2n arrival * 2 ^ 32 + pkg % 64 * 2 ^ 26 + kind % 4 * 2 ^ 24 + num % 256 * 2 ^ 16 + partner % 2 ^ 16
/-- The leader records a report: it replaces the entry of its interface, or takes the next place; of 1,024 the oldest goes
(DESIGN CHOICE, log entry 64). -/
def State.recordPartner (s : State) (pkg kind num : Nat) (arrival : Bool) (partner : Nat) : State :=
  let w := partnerWord pkg kind num arrival partner
  let same (x : Nat) := bits x 31 16 == bits w 31 16
  let new := s.count % 2 ^ 64 * 2 ^ 64 + w
  let ps := s.map.partners
  let ps := if ps.any same then ps.map (fun x => if same x then new else x) else (ps ++ [new]).drop (ps.length - 1023)
  { s with map := { s.map with partners := ps } }
/-- Send a report to the leader, or record it when this package leads (R376); without a leader it waits nowhere. -/
def State.reportPartner (s : State) (kind num : Nat) (arrival : Bool) (partner : Nat) : State :=
  match s.leader with
  | some l =>
    if l = s.pkg then s.recordPartner s.pkg kind num arrival partner
    else s.send (.msg (s.pod * 64 + l) 40 [s.pkg, kind, num, b2n arrival, partner])
  | none => s
/-- A partner arrives at an interface: kind 0 Ethernet port, 1 Guelyo link, 2 Cellar channel (R375, R376). -/
def State.partnerArrives (s : State) (kind num ident partner : Nat) : State :=
  ((s.inc rETH_PARTNER_EVT 31 0).raise { code := 0x0500, sev := 0, d0 := kind * 256 + num, d1 := ident }).reportPartner kind
    num true partner
/-- A partner departs (R375, R376). -/
def State.partnerDeparts (s : State) (kind num ident partner : Nat) : State :=
  ((s.inc rETH_PARTNER_EVT 63 32).raise { code := 0x0501, sev := 0, d0 := kind * 256 + num, d1 := ident }).reportPartner
    kind num false partner
/-- The partner number of a part that is no Franan part. -/
abbrev noPartner : Nat := 0xFFFF

end Sys2Proof.Machine
end

