-- ==== Sys2Proof/Machine/Sched.lean ====
section
/-! DEFINITION. The die scheduler: group numbers, placement, wakes, idle states and the release of a persistent kernel
(R50 to R54, R63, R469, R470). -/

namespace Sys2Proof.Machine

/-! ### Region sets -/

/-- The regions of a context's set on a die, as `die · 128 + region`, that the grade has and that have not failed (Table 07-2,
Table 01-2). -/
def State.setRegions (s : State) (die c : Nat) : List Nat :=
  let x := s.ctx c
  if bitOf x.dieMask die then
    ((List.range x.cnt).map (fun i => x.first + i)).filterMap (fun r =>
      if r < s.nRgn ∧ (s.rgn (die * 128 + r)).failed = false ∧ (s.rgn (die * 128 + r)).retired = false ∧
          s.rgnComp (die * 128 + r) = (if s.compOf c = 0 then none else some (s.compOf c)) then some (die * 128 + r)
      else none)
  else []
/-- Clusters of regions that hold no group. -/
def State.freeClusters (s : State) (rs : List Nat) : List Nat :=
  rs.flatMap (fun r => ((List.range 64).map (fun k => r * 64 + k)).filter (fun cl => !s.groups.has cl))
/-- Group numbers a die holds for a context and has not placed. -/
def State.heldNums (s : State) (die c : Nat) : List Nat := s.taken.getD (die * 4096 + c) []
/-- Whether a region is Active and not entering another state. -/
def State.activeRgn (s : State) (r : Nat) : Bool := (s.rgn r).pow == .active && (s.rgn r).entering.isNone
/-- Whether a region of a die has a wake in progress or waiting. -/
def State.wakingRgn (s : State) (r : Nat) : Bool := (s.rgn r).waking.isSome || (s.rgn r).deferred
/-- Whether the running kernel of a context is an open launch whose counter still gives numbers (R51). -/
def State.launchRuns (s : State) (c : Nat) : Option Kernel :=
  match (s.ctx c).kernel with
  | some k => if k.q.op = 1 ∧ k.closed = false then some k else none
  | none => none

/-! ### Wakes (R52, R54, R469, R470) -/

/-- Counts that a wake takes from a state (Table 19-4). -/
def wakeTime : RPow → Nat
  | .active => 0
  | .gated => 1
  | .sleep => 50
  | .off => 500
/-- Counts that entry into a state takes (Table 19-4). -/
def entryTime : RPow → Nat
  | .active => 0
  | .gated => 1
  | .sleep => 25
  | .off => 100
/-- Wakes from Sleep or Off that a die began in the last 64 counts (R470). -/
def State.recentWakes (s : State) (die : Nat) : Nat :=
  ((s.wakes.getD die []).filter (fun t => decide (s.count < t + 64))).length
/-- Begin the wake of a region now, counting its state (DIE_WAKES). -/
def State.beginWake (s : State) (r : Nat) : State :=
  let x := s.rgn r
  let die := r / 128
  let s := s.updRgn r (fun x => { x with waking := some (s.count + wakeTime x.pow), deferred := false })
  match x.pow with
  | .active => s
  | .gated => s.inc rDIE_WAKES 31 16 die
  | .sleep => ({ s with wakes := s.wakes.put die (s.count :: (s.wakes.getD die []).take 7) }).inc rDIE_WAKES 47 32 die
  | .off => ({ s with wakes := s.wakes.put die (s.count :: (s.wakes.getD die []).take 7) }).inc rDIE_WAKES 63 48 die
/-- Whether a region's wake may begin now: no entry in progress, and the window open (R54, R470). -/
def State.mayWake (s : State) (r : Nat) : Bool :=
  (s.rgn r).entering.isNone && ((s.rgn r).pow == .gated || decide (s.recentWakes (r / 128) < 8))
/-- A wake is requested: it begins, or waits for the entry or the window. -/
def State.askWake (s : State) (r : Nat) : State :=
  if s.wakingRgn r then s
  else if s.mayWake r && !(s.rgns.any (fun e => e.1 / 128 == r / 128 && decide (e.1 < r) && e.2.deferred && e.2.entering.isNone)
      && (s.rgn r).pow != .gated) then s.beginWake r
  else
    let s := if (s.rgn r).entering.isSome then s.inc rDIE_WAKES 15 0 (r / 128) else s
    s.updRgn r (fun x => { x with deferred := true })
/-- Wake what the scheduler of a die needs for a context (R52; R63 for a persistent kernel). -/
def State.wakeCheck (s : State) (die c : Nat) : State :=
  let rs := s.setRegions die c
  let n := (s.heldNums die c).length
  if n = 0 then s
  else if dPersist (s.kdesc c) then
    let have_ := (s.freeClusters (rs.filter (fun r => s.activeRgn r || s.wakingRgn r))).length
    let more := (n - have_ + 63) / 64
    ((rs.filter (fun r => !s.activeRgn r && !s.wakingRgn r)).take more).foldl State.askWake s
  else if (s.freeClusters (rs.filter s.activeRgn)) ≠ [] ∨ rs.any s.wakingRgn then s
  else
    match rs.find? (fun r => !s.activeRgn r) with
    | some r => s.askWake r
    | none => s
/-- DEFERRED_WAKE (R470): the lowest region of a die whose wake waits begins it once the entry is over and the window
opens; time passes up to the count at which the window opens. -/
def execDeferredWake (die : Fin 8) (rgn : Fin 128) (s : State) : Host.Outcome State Fault Refusal :=
  let r := die.val * 128 + rgn.val
  let lower := s.rgns.any (fun e => e.1 / 128 == die.val && decide (e.1 < r) && e.2.deferred && e.2.entering.isNone)
  let x := s.rgn r
  if x.deferred && x.entering.isNone && (x.pow == .gated || !lower) then
    let s' := if s.mayWake r then s
      else match (s.wakes.getD die.val []).drop 7 with
        | t :: _ => s.untilDue (t + 64)
        | [] => s
    s.live (s'.beginWake r)
  else s.live s
/-- REGION_ACTIVE (R469): a wake completes. -/
def execRegionActive (die : Fin 8) (rgn : Fin 128) (s : State) : Host.Outcome State Fault Refusal :=
  let r := die.val * 128 + rgn.val
  match (s.rgn r).waking with
  | some due =>
    let s' := s.untilDue due
    s.live (s'.updRgn r (fun x => { x with pow := .active, waking := none, idleAt := s'.count }))
  | none => s.live s

/-! ### Idle states (R54, R469) -/

/-- Whether the context of a region has a kernel running, which keeps the region in its state (R54, R64). -/
def State.rgnHeld (s : State) (r : Nat) : Bool :=
  match s.ctxOfRgn r with | some c => (s.ctx c).kernel.isSome | none => false
/-- The idle state of a region: that of its last kernel, or the die default (Table 02-3, DIE_SCHED_CFG). -/
def State.idleState (s : State) (r : Nat) : RPow :=
  match (s.rgn r).idleSel with
  | 1 => .gated
  | 2 => .sleep
  | 3 => .off
  | _ =>
    match s.fld rDIE_SCHED_CFG 1 0 (r / 128) with
    | 1 => .gated
    | 3 => .off
    | _ => .sleep
/-- A region begins to enter a lower state. -/
def State.enterLow (s : State) (r : Nat) (p : RPow) : State :=
  s.updRgn r (fun x => { x with entering := some (p, s.count + entryTime p) })
/-- IDLE_DELAY_EXPIRY (R54). -/
def execIdleDelayExpiry (die : Fin 8) (rgn : Fin 128) (s : State) : Host.Outcome State Fault Refusal :=
  let r := die.val * 128 + rgn.val
  s.live (if s.activeRgn r && !s.rgnBusy r && !s.rgnHeld r then
      (s.untilDue ((s.rgn r).idleAt + 16 * s.fld rDIE_SCHED_CFG 19 4 die.val)).enterLow r (s.idleState r)
    else s)
/-- OFF_DELAY_EXPIRY (R54): a delay of zero never turns a region Off. -/
def execOffDelayExpiry (die : Fin 8) (rgn : Fin 128) (s : State) : Host.Outcome State Fault Refusal :=
  let r := die.val * 128 + rgn.val
  let x := s.rgn r
  let d := s.fld rDIE_SCHED_CFG 31 24 die.val
  s.live (if (x.pow == .gated || x.pow == .sleep) && x.entering.isNone && !s.wakingRgn r && d != 0 && !s.rgnHeld r then
      (s.untilDue (x.lowAt + d * 2 ^ 24)).enterLow r .off
    else s)
/-- A region that is Off keeps nothing: its Shelves read zero and its cache is empty (Table 19-4). -/
def State.rgnLost (s : State) (r : Nat) : State :=
  { s.mend (Spot.inRgn r) with
           shelf := s.shelf.filter (fun c => decide (c.1 / 2 ^ 24 ≠ r))
           spois := s.spois.filter (fun p => decide (p / 2 ^ 18 ≠ r))
           rcache := s.rcache.del r
           units := s.units.filter (fun e => decide (e.1 / 1024 ≠ r)) }
/-- REGION_ENTRY_COMPLETE (R469). -/
def execRegionEntryComplete (die : Fin 8) (rgn : Fin 128) (s : State) : Host.Outcome State Fault Refusal :=
  let r := die.val * 128 + rgn.val
  match (s.rgn r).entering with
  | some (p, due) =>
    let s' := s.untilDue due
    let s' := s'.updRgn r (fun x => { x with pow := p, entering := none, lowAt := s'.count })
    s.live (if p = .off then s'.rgnLost r else s')
  | none => s.live s

/-! ### Numbers and placement (R51, R52, R63) -/

/-- Whether a die takes a further number of a context's kernel (R51, R63). -/
def State.mayTake (s : State) (die c : Nat) : Bool :=
  match s.launchRuns c with
  | none => false
  | some k =>
    let n := (s.heldNums die c).length
    decide (k.next < dGroups k.q.d) && (dPersist k.q.d || decide (n < 8)) &&
      decide (n < (s.freeClusters (s.setRegions die c)).length) && !s.frozen (s.compOf c)
/-- TAKE_GROUP_NUMBER (R51). -/
def execTakeGroupNumber (die : Fin 8) (ctx : BitVec 12) (s : State) : Host.Outcome State Fault Refusal :=
  let c := ctx.toNat
  let d := die.val
  s.live (if s.mayTake d c then
      match s.launchRuns c with
      | some k =>
        if s.flawed (.die d) then s.meet (.die d) 0
        else
        let s := { s with taken := s.taken.put (d * 4096 + c) (s.heldNums d c ++ [k.next]) }
        (s.updKer c (fun k => { k with next := k.next + 1 })).wakeCheck d c
      | none => s
    else s)
/-- A unit receives a group of a context: its Shelf is zeroed when the last one was another context's (R47), and a
known-answer slice is abandoned (R65). -/
def State.unitFor (s : State) (c u : Nat) : State :=
  let x := s.unt u
  let s := if x.lastCtx = some c then s else s.shelfZero u
  let s := if x.kat.isSome then s.inc rDIE_KAT_ABANDON 31 0 (u / 2 ^ 17) else s
  s.setUnt u { x with lastCtx := some c, kat := none }
/-- Place a group on a cluster (R45, R46); its threads start with the package's arithmetic defaults (R70, R404). -/
def State.placeGroup (s : State) (c cl num : Nat) : State :=
  let d := s.kdesc c
  let n := dThreads d
  let run := !dPersist d
  let s := (List.range 16).foldl (fun s i => s.unitFor c (cl * 16 + i)) s
  let s := { s with groups := s.groups.put cl ⟨c, num, n, run, [], []⟩ }
  let s := (List.range n).foldl (fun s i =>
    let p := groupSlot cl i
    s.setThr p.1 p.2 { Thread.reset with
      st := if run then .ready else .pending
      ctx := c
      tid := i
      group := num
      pc := w64 (fieldOf d 16 8)
      fpctl := w64 (s.fld rREPRO_DEFAULTS 2 0)
      placed := s.count }) s
  let s := s.updRgn (cl / 64) (fun r => { r with idleSel := bits (fieldOf d 38 1) 2 1 })
  s.inc rDIE_GROUPS_PLACED 63 0 (cl / 8192)
/-- PLACE_GROUP (R52): the oldest number taken goes to the lowest idle cluster of the Active regions. -/
def execPlaceGroup (die : Fin 8) (ctx : BitVec 12) (s : State) : Host.Outcome State Fault Refusal :=
  let c := ctx.toNat
  let d := die.val
  s.live (match s.heldNums d c, s.freeClusters ((s.setRegions d c).filter s.activeRgn) with
    | num :: rest, cl :: _ =>
      if (s.launchRuns c).isSome && !s.frozen (s.compOf c) then
        if s.flawed (.puppeteer cl) then s.meet (.puppeteer cl) 0
        else
        (({ s with taken := s.taken.put (d * 4096 + c) rest }).placeGroup c cl num).wakeCheck d c
      else s
    | _, _ => s.wakeCheck d c)
/-- PERSISTENT_RELEASE (R63): with every group placed, the threads of all groups start together. -/
def execPersistentRelease (ctx : BitVec 12) (s : State) : Host.Outcome State Fault Refusal :=
  let c := ctx.toNat
  s.live (match s.launchRuns c with
    | none => s
    | some k =>
      let mine := s.groups.filter (fun e => e.2.ctx = c)
      if dPersist k.q.d && !k.released && decide (mine.length = dGroups k.q.d) then
        let s := s.updKer c (fun k => { k with released := true })
        mine.foldl (fun s e =>
          let s := { s with groups := s.groups.put e.1 { e.2 with started := true } }
          (e.2.slots e.1).foldl (fun s p => s.updThr p.1 p.2 (fun th => { th with st := .ready })) s) s
      else s)

end Sys2Proof.Machine
end

