-- ==== Sys2Proof/Machine/Search.lean ====
section
/-! DEFINITION. Cluster-list search (R214 to R246): the descriptor's checks, the start of a search, list batches, rounds,
re-rank, merge and results, on the lead and on its peers. -/

namespace Sys2Proof.Machine

/-! ### The descriptor (Table 08-4, R226) -/

/-- SEQ of a descriptor. -/
def dSeq (d : Vec) : Nat := fieldOf d 4 4
/-- A field of a search body. -/
def sIndex (d : Vec) : Nat := fieldOf d 16 8
def sQueries (d : Vec) : Nat := fieldOf d 24 8
def sResults (d : Vec) : Nat := fieldOf d 32 8
def sWork (d : Vec) : Nat := fieldOf d 40 8
def sDense (d : Vec) : Nat := fieldOf d 48 8
def sQCount (d : Vec) : Nat := fieldOf d 56 4
def sKMax (d : Vec) : Nat := fieldOf d 60 2
/-- Code length in bits. -/
def sCode (d : Vec) : Nat := 64 * (fieldOf d 62 1 % 16 + 1)
/-- SCOPE 1: every package of the stripe list. -/
def sScope (d : Vec) : Bool := bitOf (fieldOf d 62 1) 4
/-- DENSE_EN. -/
def sDenseEn (d : Vec) : Bool := bitOf (fieldOf d 62 1) 5
/-- Query stride (R226). -/
def sQStride (d : Vec) : Nat := 64 + 64 * ((sCode d + 511) / 512)
/-- Result stride (R226). -/
def sRStride (d : Vec) : Nat := 32 + 16 * sKMax d
/-- KH_MAX (R226). -/
def sKhMax (d : Vec) : Nat := if sDenseEn d then min (8 * sKMax d) 1024 else sKMax d
/-- Bytes of work area (R226). -/
def sWorkLen (d : Vec) : Nat := sQCount d * (2048 + 9 * (16 + 12 * sKhMax d))
/-- The check of the work area: a Larder segment that can be written. -/
def State.workCheck (s : State) (c : Nat) (d : Vec) : Option Nat := s.larderCheck c (sWork d) (sWorkLen d) permW
/-- The extents that a peer checks (R226). -/
def State.peerCheck (s : State) (c : Nat) (d : Vec) : Option Nat :=
  firstStatus [s.descCheck c (sIndex d) 128 permR, s.workCheck c d]
/-- Checks of SEARCH at queue time, step 2 onward; none queues it. -/
def State.searchCheck (s : State) (c : Nat) (d : Vec) : Option Nat :=
  if 65536 < sQCount d ∨ sKMax d = 0 ∨ 1024 < sKMax d ∨ sIndex d % 64 ≠ 0 ∨ sQueries d % 64 ≠ 0 ∨ sResults d % 64 ≠ 0 ∨
      sWork d % 64 ≠ 0 ∨ (sDenseEn d = true ∧ sDense d % 64 ≠ 0) then some stMalformed
  else
    match firstStatus [s.descCheck c (sIndex d) 128 permR, s.descCheck c (sQueries d) (sQCount d * sQStride d) permR,
        s.descCheck c (sResults d) (sQCount d * sRStride d) permW, s.workCheck c d] with
    | some e => some e
    | none => if ((s.ctx c).cnt = 0 ∨ (s.ctx c).dieMask = 0) then some stTooLarge else none

/-! ### The index header (Table 08-1, R217) -/

/-- `n` bytes of a header at byte `i`. -/
def hdrF (h i n : Nat) : Nat := (h >>> (8 * i)) % 2 ^ (8 * n)
/-- Whether a header is bad for a descriptor (R217). -/
def hdrBad (d : Vec) (h : Nat) : Bool :=
  decide (hdrF h 0 1 % 16 ≠ fieldOf d 62 1 % 16 ∨ 1048576 < hdrF h 4 4) ||
  [hdrF h 8 8, hdrF h 16 8, hdrF h 24 8, hdrF h 32 8, hdrF h 64 8].any (fun a => a % 64 ≠ 0) ||
  decide (hdrF h 40 8 % 8 ≠ 0) ||
  (hdrF h 80 8 ≠ 0 && decide (hdrF h 88 2 % 64 ≠ 0 ∨ hdrF h 88 2 < 64 ∨ 4096 < hdrF h 88 2 ∨ hdrF h 90 1 % 4 = 3))
/-- Bytes of a re-rank or dense vector (R224). -/
def rrBytes (h : Nat) : Nat := hdrF h 88 2 * (if hdrF h 90 1 % 4 = 2 then 2 else 1)
/-- Bytes of a block (R220). -/
def blockBytes (code : Nat) : Nat := 2 * code + 192

/-! ### Queries (Table 08-5, R228) -/

/-- Bytes `[i, i + n)` of a query record. -/
def SQ.f (q : SQ) (i n : Nat) : Nat := hdrF q.raw i n
/-- K. -/
def SQ.k (q : SQ) : Nat := q.f 8 2
/-- WIDEN. -/
def SQ.widen (q : SQ) : Bool := bitOf (q.f 14 1) 0
/-- RERANK. -/
def SQ.rerank (q : SQ) : Nat := q.f 15 1
/-- KH (R228). -/
def SQ.kh (q : SQ) : Nat := if q.rerank = 0 then q.k else min (q.rerank * q.k) 1024
/-- The query's code. -/
def SQ.code (q : SQ) (bits_ : Nat) : Nat := q.f 64 (bits_ / 8)
/-- The filter descriptor of a query in the layout of R100. -/
def SQ.filter (q : SQ) : Nat := q.f 16 25
/-- Whether a query is malformed (R228). -/
def SQ.bad (q : SQ) (d : Vec) (h : Nat) : Bool :=
  decide (q.k = 0 ∨ sKMax d < q.k ∨ 512 < q.f 10 2 ∨ 8 < q.rerank) ||
  (q.widen && decide (q.f 12 2 < q.f 10 2 ∨ 512 < q.f 12 2)) ||
  (q.rerank ≠ 0 && (!sDenseEn d || hdrF h 80 8 == 0 || decide (sKhMax d < min (q.rerank * q.k) 1024)))
/-- A query with nothing found. -/
def SQ.ofRaw (raw : Nat) (dense : List Byte) (now : List Nat) : SQ :=
  { raw := raw, dense := dense, status := 0, rank := [], now := now, probed := 0, matched := 0, total := 0, widened := false,
    indexErr := false, poison := false, best := [], final := [] }
/-- Hamming distance of two codes (R218). -/
def hamming (n a b : Nat) : Nat := popc (a ^^^ b) n

/-! ### Lists of entries (R232) -/

/-- Better by distance, or by score after re-rank, ties to the lower item id. -/
def SEnt.better (rr : Bool) (x y : SEnt) : Bool :=
  if rr then fclt y.score x.score || (fceq x.score y.score && decide (x.id < y.id))
  else decide (x.dist < y.dist) || (x.dist == y.dist && decide (x.id < y.id))
/-- Insert an entry into a list of at most `k`, best first; exact duplicates are dropped (R102, R232). -/
def sInsert (rr : Bool) (k : Nat) (l : List SEnt) (x : SEnt) : List SEnt :=
  if l.any (fun y => y.id == x.id && !x.better rr y && !y.better rr x) ∨ (rr = true ∧ fp32.decode x.score = .nan) then l
  else ((l.filter (fun y => !x.better rr y)) ++ x :: l.filter (fun y => x.better rr y)).take k
/-- Merge lists in order into the best `k`. -/
def sMerge (rr : Bool) (k : Nat) (ls : List (List SEnt)) : List SEnt := ls.flatten.foldl (sInsert rr k) []

/-! ### State of a search -/

/-- Change a running search. -/
def State.updSrch (s : State) (c : Nat) (f : Srch → Srch) : State := { s with srch := s.srch.upd c f }
/-- The dies of a context's region set, ascending (R234). -/
def State.setDies (s : State) (c : Nat) : List Nat := (List.range 8).filter (fun d => bitOf (s.ctx c).dieMask d)
/-- The packages that a scope-1 search forwards to. -/
def State.peersOf (s : State) (c : Nat) (d : Vec) : List Nat :=
  if sScope d then (s.stripe (s.compOf c)).filter (fun p => p ≠ s.self) else []
/-- Number of a kernel's pinned vintage for the segment of an address; 0 in a Larder segment (R221). -/
def State.pinnedAt (s : State) (c addr : Nat) : Nat :=
  match s.seg? c (addr / 2 ^ 60 % 16) with
  | some g => if g.tier = 1 then s.vintOf c (addr / 2 ^ 60 % 16) g else 0
  | none => 0
/-- Whether an extent can be read now by the checks of Table 07-5. -/
def State.canRead (s : State) (c addr n : Nat) : Bool := (s.descCheck c addr n permR).isNone
/-- A search's kernel ends with a status. -/
def State.searchDone (s : State) (c status : Nat) : State :=
  (s.updKer c (fun k => { k with result := some (status, 0) })).updSrch c (fun r => { r with stage := 6 })

/-! ### Messages between packages (R215, R233) -/

/-- A forwarded batch or round, as numbers. -/
def fwdBody (c : Nat) (r : Srch) : List Nat :=
  [c, r.d.toNat, r.nLists] ++ r.qs.flatMap (fun q => [q.raw, q.dense.length, leNat q.dense, q.now.length] ++ q.now)
/-- Send a round's lists, the whole batch in round 0 or the request for the last reports, to every live peer, each under
the timeout of SRCH_PEER_TMO (R244). -/
def State.askPeers (s : State) (c : Nat) (body : List Nat) : State :=
  match s.srch.find? c with
  | none => s
  | some r =>
    let tmo := s.rd rSRCH_PEER_TMO
    let ps := (s.peersOf c r.d).filter (fun p => !r.failed.contains p)
    let s := ps.foldl (fun s p => s.send (.msg p 1 body)) s
    s.updSrch c (fun r => { r with waiting := ps.foldl (fun w p =>
      w.put p (if tmo = 0 then none else some (s.count + tmo))) r.waiting })
/-- A peer's report to its lead, naming the search by its SEQ. -/
def State.reportTo (s : State) (c lead seq : Nat) (body : List Nat) : State := s.send (.msg lead 2 (c :: seq :: body))
/-- Fetch an extent that the search keeps until its end. -/
def State.keepWant (s : State) (c addr n : Nat) : State :=
  (s.updSrch c (fun r => { r with kept := r.kept ++ [(addr, n)] })).hubWant c addr n
/-- Let go of every extent that the search still keeps. -/
def State.keptDrop (s : State) (c : Nat) : State :=
  match s.srch.find? c with
  | none => s
  | some r => (r.kept.foldl (fun (s : State) e => s.hubDrop c e.1 e.2) s).updSrch c (fun r => { r with kept := [] })
/-- Let go of one extent that the search keeps. -/
def State.keepDrop (s : State) (c addr n : Nat) : State :=
  (s.updSrch c (fun r => { r with kept := r.kept.erase (addr, n) })).hubDrop c addr n

/-! ### List batches (R234, R243) -/

/-- The directory entry at an address, when it can be read whole. -/
def State.dirEntry (s : State) (c addr : Nat) : Option Nat :=
  if s.canRead c addr 32 then
    let r := s.memRead c addr 32
    if r.2 then none else some (leNat r.1)
  else none
/-- Pieces of a list part: address of the first block, entries (R234). -/
def listPieces (code addr : Nat) : (fuel n : Nat) → List (Nat × Nat)
  | 0, _ => []
  | f + 1, n => if n = 0 then [] else (addr, min n 65536) :: listPieces code (addr + 4096 * blockBytes code) f (n - min n 65536)
/-- Runs of at most `m` queries. -/
def queryRuns (m : Nat) : (fuel : Nat) → List Nat → List (List Nat)
  | 0, _ => []
  | f + 1, l => if l = [] then [] else l.take m :: queryRuns m f (l.drop m)
/-- Pieces of one list part, or none for an index error; `cap` bounds COUNT of a delta list. -/
def State.partPieces (s : State) (c code : Nat) (entry : Option Nat) (count : Option Nat) : Option (List (Nat × Nat × Nat)) :=
  match entry with
  | none => none
  | some e =>
    let n := count.getD (hdrF e 16 4)
    let addr := hdrF e 8 8
    if n = 0 then some []
    else if (count.isSome ∧ hdrF e 20 4 < n) ∨ addr % 64 ≠ 0 ∨
        s.canRead c addr ((n + 15) / 16 * blockBytes code) = false then none
    else some ((listPieces code addr (n / 65536 + 1) n).map (fun p => (hdrF e 0 8, p)))
/-- The batches of one list for its queries, and whether a part of it is skipped for an index error. -/
def State.listBatches (s : State) (c die l : Nat) (r : Srch) (qs : List Nat) : List SBatch × Nat :=
  let code := sCode r.d
  let m := s.fld rSRCH_CFG 10 0 die
  let m := if m = 0 ∨ 1024 < m then 1024 else m
  let main := s.partPieces c code (s.dirEntry c (hdrF r.hdr 16 8 + 32 * l)) none
  let delta := match r.delta with
    | none => some []
    | some (a, counts) => s.partPieces c code (s.dirEntry c (a + 64 + 32 * l)) (some (counts.getD l 0))
  let ps := main.getD [] ++ delta.getD []
  (ps.flatMap (fun p => (queryRuns m (qs.length + 1) qs).map (fun q => ⟨die, l, p.2.1, p.1, p.2.2, q⟩)),
   b2n main.isNone + b2n delta.isNone)
/-- Form the list batches of a round from the lists its queries probe (R234); skipped lists are marked and counted. -/
def State.formBatches (s : State) (c : Nat) : State :=
  match s.srch.find? c with
  | none => s
  | some r =>
    let dies := s.setDies c
    let ls := sortBy (fun a b => decide (a ≤ b)) ((r.qs.flatMap (·.now)).eraseDups)
    ls.foldl (fun s l =>
      let die := dies.getD (l % max 1 dies.length) 0
      let qs := (r.qs.zipIdx.filter (fun q => q.1.now.contains l)).map (·.2)
      let b := s.listBatches c die l r qs
      let s := s.noteRead c (hdrF r.hdr 16 8 + 32 * l) 32 9
      let s := s.updSrch c (fun r => { r with
        queued := r.queued ++ b.1
        qs := if b.2 = 0 then r.qs else r.qs.map (fun q => if q.now.contains l then { q with indexErr := true } else q) })
      if b.2 = 0 then s else s.inc rSRCH_INDEX_ERR 31 0 die 0 b.2) s
/-- Begin a round: its batches are formed, and the lead sends the lists to its peers (R233). -/
def State.beginRound (s : State) (c : Nat) : State :=
  let s := s.updSrch c (fun r => { r with stage := 2, qs := r.qs.map (fun q => { q with matched := 0 }) })
  match s.srch.find? c with
  | some r => (if r.lead.isNone then s.askPeers c (fwdBody c r) else s).formBatches c
  | none => s

/-! ### Stages of a search (R233) -/

/-- The queries of the lead's batch, from their records. -/
def State.readQueries (s : State) (c : Nat) (d : Vec) : List SQ :=
  (List.range (sQCount d)).map (fun i =>
    let r := s.memRead c (sQueries d + i * sQStride d) (sQStride d)
    let q := SQ.ofRaw (leNat r.1) [] []
    if r.2 then { q with status := 1 } else q)
/-- Addresses of the two delta directories (Table 08-1). -/
def deltaDirs (hdr : Nat) : List Nat := [hdrF hdr 24 8, hdrF hdr 32 8]
/-- Whether bytes of a delta directory can be read: they pass their checks and lie in a Larder segment (R216). -/
def State.deltaReads (s : State) (c a n : Nat) : Bool := s.canRead c a n && s.inLarder c a
/-- Stage 0: the header is here; a bad one ends the search (R217, R244, R245). -/
def State.stHeader (s : State) (c : Nat) (r : Srch) : State :=
  let d := r.d
  let h := s.memRead c (sIndex d) 128
  let hdr := leNat h.1
  let bad := !s.canRead c (sIndex d) 128 || h.2 || hdrBad d hdr || (r.lead.isSome && r.nLists != hdrF hdr 4 4)
  let qs := if r.lead.isNone then s.readQueries c d else r.qs
  let s := (s.noteRead c (sIndex d) 128 9).keepDrop c (sIndex d) 128
  let s := if r.lead.isNone then (s.noteRead c (sQueries d) (sQCount d * sQStride d) 9).keepDrop c (sQueries d) (sQCount d * sQStride d) else s
  if bad then
    match r.lead with
    | some p => (s.reportTo c p (dSeq d) [1]).searchDone c stIndexBad
    | none => s.searchDone c stIndexBad
  else
    let n := hdrF hdr 4 4
    let s := s.updSrch c (fun r => { r with stage := 1, hdr := hdr, nLists := n, qs := qs })
    let s := s.keepWant c (hdrF hdr 16 8) (32 * n)
    let s := (deltaDirs hdr).foldl (fun (s : State) a => if s.deltaReads c a 64 then s.keepWant c a 64 else s) s
    if r.lead.isNone then
      let s := s.keepWant c (hdrF hdr 8 8) (n * sCode d / 8)
      if sDenseEn d then s.keepWant c (sDense d) (sQCount d * rrBytes hdr) else s
    else s
/-- The delta directory that a package selects (R221). -/
def State.pickDelta (s : State) (c : Nat) (hdr : Nat) : Option Nat :=
  let pin := s.pinnedAt c (hdrF hdr 16 8)
  (deltaDirs hdr).find? (fun a => s.deltaReads c a 64 &&
    (let x := leNat (s.memRead c a 8).1; bitOf x 32 && x % 2 ^ 32 == pin))
/-- COUNT of every entry of a delta directory (R222). -/
def State.deltaCounts (s : State) (c hdr a : Nat) : List Nat :=
  (List.range (hdrF hdr 4 4)).map (fun l => leNat (s.memRead c (a + 64 + 32 * l + 16) 4).1)
/-- Lists in the order of rank for a code (R233). -/
def rankLists (code n q : Nat) (cents : List Byte) : List Nat :=
  (sortBy (fun a b => decide (a.1 < b.1) || (a.1 == b.1 && decide (a.2 ≤ b.2)))
    ((List.range n).map (fun l => (hamming code q (leNat ((cents.drop (l * code / 8)).take (code / 8))), l)))).map (·.2)
/-- A query of the lead at the start: its status, rank, limit and first lists (R228, R230, R233). -/
def State.prepQuery (s : State) (c : Nat) (r : Srch) (cents : List Byte) (i : Nat) (q : SQ) : SQ :=
  let n := r.nLists
  let a := sDense r.d + i * rrBytes r.hdr
  let st := if q.status = 1 ∨ q.bad r.d r.hdr then 1
    else if q.rerank ≠ 0 ∧ s.canRead c a (rrBytes r.hdr) = false then 2 else 0
  if st ≠ 0 then { q with status := st }
  else
    let limit := min (if q.widen then q.f 12 2 else q.f 10 2) n
    let rank := (rankLists (sCode r.d) n (q.code (sCode r.d)) cents).take limit
    let now := rank.take (min (q.f 10 2) limit)
    { q with rank := rank, now := now, probed := now.length,
             dense := if q.rerank = 0 then [] else (s.memRead c a (rrBytes r.hdr)).1 }
/-- Stage 1: centroids, dense vectors and the directory are here; the first round begins. -/
def State.stObjects (s : State) (c : Nat) (r : Srch) : State :=
  let n := r.nLists
  let hdr := r.hdr
  let qs := if r.lead.isNone then
      let cents := (s.memRead c (hdrF hdr 8 8) (n * sCode r.d / 8)).1
      r.qs.zipIdx.map (fun q => s.prepQuery c r cents q.2 q.1)
    else r.qs
  let delta := s.pickDelta c hdr
  let s := if r.lead.isNone then
      let s := (s.noteRead c (hdrF hdr 8 8) (n * sCode r.d / 8) 9).keepDrop c (hdrF hdr 8 8) (n * sCode r.d / 8)
      if sDenseEn r.d then
        (s.noteRead c (sDense r.d) (sQCount r.d * rrBytes hdr) 9).keepDrop c (sDense r.d) (sQCount r.d * rrBytes hdr)
      else s
    else s
  match delta with
  | none => (s.updSrch c (fun r => { r with qs := qs })).beginRound c
  | some a => (s.updSrch c (fun r => { r with qs := qs, delta := some (a, []), stage := 7 })).keepWant c (a + 64) (32 * n)
/-- Stage 7: the entries of the selected delta directory are here; their COUNTs are read, once, and the first round begins
(R222). -/
def State.stDelta (s : State) (c : Nat) (r : Srch) : State :=
  match r.delta with
  | none => s.beginRound c
  | some (a, _) =>
    let counts := s.deltaCounts c r.hdr a
    ((s.noteRead c a (64 + 32 * r.nLists) 9).updSrch c (fun r => { r with delta := some (a, counts) })).beginRound c
/-- Queries that widen, given the totals of the round (R233, R240). -/
def SQ.more (q : SQ) : Bool := q.status == 0 && q.widen && decide (q.total < q.k) && decide (q.probed < q.rank.length)
/-- The next lists of a widening query, or none. -/
def SQ.next (q : SQ) : SQ :=
  if q.more then
    let now := (q.rank.drop q.probed).take (max (q.f 10 2) 1)
    { q with now := now, probed := q.probed + now.length, widened := true }
  else { q with now := [] }
/-- Program address of the re-rank vector of an item, when it has one (R224). -/
def rrAddr (h id : Nat) : Option Nat :=
  if hdrF h 72 8 ≤ id ∧ id < hdrF h 72 8 + hdrF h 80 8 then some (hdrF h 64 8 + (id - hdrF h 72 8) * rrBytes h) else none
/-- Vectors that re-rank gathers here. -/
def Srch.vectors (r : Srch) : List Nat :=
  r.qs.flatMap (fun q => if q.rerank = 0 then [] else q.best.filterMap (fun e => rrAddr r.hdr e.id))
/-- Begin re-rank: gather the vectors. -/
def State.beginRerank (s : State) (c : Nat) : State :=
  match s.srch.find? c with
  | none => s
  | some r =>
    let s := s.updSrch c (fun r => { r with stage := 4 })
    r.vectors.foldl (fun s a => if s.canRead c a (rrBytes r.hdr) then s.keepWant c a (rrBytes r.hdr) else s) s
/-- Stage 3 at the lead: every report of the round is in (R233, R240). -/
def State.stDecide (s : State) (c : Nat) (r : Srch) : State :=
  if r.qs.any SQ.more then (s.updSrch c (fun r => { r with qs := r.qs.map SQ.next })).beginRound c
  else
    let s := s.askPeers c [c]
    s.beginRerank c
/-- Score of a vector against a query's dense vector (R238). -/
def rrScore (h : Nat) (x y : List Byte) : Nat :=
  let n := hdrF h 88 2
  let fmt := hdrF h 90 1 % 4
  if fmt = 2 then
    let ex (l : List Byte) (i : Nat) := opVal 9 (leNat ((l.drop (2 * i)).take 2))
    (List.range (n / 16)).foldl (fun acc st =>
      let p := (List.range 16).map (fun k => (pack32 rne (FV.mul (ex x (16 * st + k)) (ex y (16 * st + k))).1).1)
      (fadd rne acc (sumTree rne 4 p).1).1) 0
  else
    let f := if fmt = 0 then 7 else 8
    let ex (l : List Byte) (i : Nat) := opVal f (leNat ((l.drop i).take 1))
    (List.range ((n + 255) / 256)).foldl (fun acc b =>
      let blk := (List.range (min 256 (n - 256 * b))).foldl (fun (blk : Blk) k =>
        blk.addProduct (ex x (256 * b + k)) (ex y (256 * b + k)) 127 127) Blk.zero
      blk.close f f acc) 0
/-- Re-rank one query here: its best K by score, discarded candidates, and whether one had no vector (R238, R243). -/
def State.rerankQuery (s : State) (c : Nat) (r : Srch) (q : SQ) : SQ × Nat :=
  if q.rerank = 0 then ({ q with final := q.best.take q.k }, 0)
  else
    q.best.foldl (fun (x : SQ × Nat) e =>
      match rrAddr r.hdr e.id with
      | none => ({ x.1 with indexErr := true }, x.2 + 1)
      | some a =>
        if s.canRead c a (rrBytes r.hdr) = false then ({ x.1 with indexErr := true }, x.2 + 1)
        else
          let v := s.memRead c a (rrBytes r.hdr)
          if v.2 then ({ x.1 with poison := true }, x.2)
          else ({ x.1 with final := sInsert true q.k x.1.final { e with score := rrScore r.hdr v.1 q.dense } }, x.2))
      ({ q with final := [] }, 0)
/-- A query's marks in a report. -/
def SQ.marks (q : SQ) : Nat := b2n q.indexErr + 2 * b2n q.poison
/-- Stage 4: the vectors are here; each query's best K is fixed, and a peer reports (R233, R238). -/
def State.stRerank (s : State) (c : Nat) (r : Srch) : State :=
  let qs := r.qs.map (s.rerankQuery c r)
  let bad := (qs.map (·.2)).sum
  let s := if bad = 0 then s else s.inc rSRCH_BAD_ID 31 0 ((s.setDies c).headD 0) 0 bad
  let s := r.vectors.foldl (fun s a => if s.canRead c a (rrBytes r.hdr) then
      (s.noteRead c a (rrBytes r.hdr) 9).keepDrop c a (rrBytes r.hdr) else s) s
  let s := s.updSrch c (fun r => { r with stage := 5, qs := qs.map (·.1) })
  match r.lead with
  | some p =>
    (s.reportTo c p (dSeq r.d) (2 :: (qs.map (·.1)).flatMap (fun q =>
      [q.marks, q.final.length] ++ q.final.flatMap (fun e => [e.id, e.dist, e.score])))).searchDone c stOK
  | none => s
/-- Bytes of a result block (R231). -/
def resultBlock (d : Vec) (q : SQ) (found : List SEnt) (partial_ : Bool) : List Byte :=
  let ok := q.status == 0
  let fs := if ok then found else []
  let flags := b2n (ok && q.widened) + 2 * b2n (ok && q.indexErr) + 4 * b2n (ok && q.poison) + 8 * b2n partial_
  leBytes 8 (q.f 0 8) ++ leBytes 2 fs.length ++ leBytes 1 q.status ++ leBytes 1 flags ++ leBytes 2 q.probed ++ leBytes 2 0 ++
    leBytes 4 (if ok then min q.total 0xFFFFFFFF else 0) ++ leBytes 12 0 ++
    (List.range (sKMax d)).flatMap (fun i => match fs.drop i with
      | e :: _ => leBytes 8 e.id ++ leBytes 2 e.dist ++ leBytes 2 0 ++ leBytes 4 e.score
      | [] => leBytes 8 (2 ^ 64 - 1) ++ leBytes 2 0xFFFF ++ leBytes 2 0 ++ leBytes 4 0xFF800000)
/-- Fill an extent with bytes that the manual leaves open. -/
def State.leaveOpen (s : State) (c addr n : Nat) : State :=
  (s.hubWrite c addr ((List.range n).map (Config.leftByte s.nonce))).tick
/-- Stage 5 at the lead: every report is in; merge in stripe order and write the result blocks (R239). -/
def State.stMerge (s : State) (c : Nat) (r : Srch) : State :=
  let order := if sScope r.d then s.stripe (s.compOf c) else [s.self]
  let part := decide (r.failed ≠ [])
  let s := r.qs.zipIdx.foldl (fun s q =>
    let ls := order.map (fun p => if p = s.self then q.1.final else (r.reports.getD p []).getD q.2 [])
    s.hubWrite c (sResults r.d + q.2 * sRStride r.d)
      (resultBlock r.d q.1 (sMerge (q.1.rerank ≠ 0) q.1.k ls) part)) s
  s.searchDone c (if part then stPeer else stOK)
/-- Whether what a stage reads is here. -/
def State.stageReady (s : State) (c : Nat) (r : Srch) : Bool :=
  match r.stage with
  | 0 => s.hubHere c (sIndex r.d) 128 && (r.lead.isSome || s.hubHere c (sQueries r.d) (sQCount r.d * sQStride r.d))
  | 1 =>
    s.hubHere c (hdrF r.hdr 16 8) (32 * r.nLists) && (r.lead.isSome ||
      (s.hubHere c (hdrF r.hdr 8 8) (r.nLists * sCode r.d / 8) &&
        (!sDenseEn r.d || s.hubHere c (sDense r.d) (sQCount r.d * rrBytes r.hdr)))) &&
      (deltaDirs r.hdr).all (fun a => !s.deltaReads c a 64 || s.hubHere c a 64)
  | 3 => r.lead.isNone && r.waiting.isEmpty
  | 4 => r.vectors.all (fun a => !s.canRead c a (rrBytes r.hdr) || s.hubHere c a (rrBytes r.hdr))
  | 5 => r.lead.isNone && r.waiting.isEmpty
  | 7 => (match r.delta with | some (a, _) => s.hubHere c (a + 64) (32 * r.nLists) | none => true)
  | _ => false
/-- Advance a search by one stage when it can. -/
def State.searchStep (s : State) (c : Nat) : State :=
  match s.srch.find? c with
  | none => s
  | some r =>
    if !s.stageReady c r then s
    else
      match r.stage with
      | 0 => s.stHeader c r
      | 1 => s.stObjects c r
      | 3 => s.stDecide c r
      | 4 => s.stRerank c r
      | 5 => s.stMerge c r
      | 7 => s.stDelta c r
      | _ => s
/-- Advance a search as far as it can go without another command. -/
def State.searchPump (s : State) (c : Nat) : State := (List.range 7).foldl (fun s _ => s.searchStep c) s
/-- Advance every running search. -/
def State.searchPumpAll (s : State) : State := s.srch.keys.foldl State.searchPump s
/-- Start a search kernel (R214, R233). -/
def State.searchStart (s : State) (c : Nat) (q : QDesc) : State :=
  let lead := q.fwd.map (·.1)
  let qs := match q.fwd with
    | some f => f.2.2.map (fun x => SQ.ofRaw (leNat x.raw) x.dense x.lists)
    | none => []
  let n := match q.fwd with | some f => f.2.1 | none => 0
  let r : Srch := { d := q.d, lead := lead, nLists := n, stage := 0, hdr := 0, delta := none, qs := qs, queued := [],
                    running := [], dieBest := [], waiting := [], failed := [], reports := [], kept := [], tombs := [] }
  let s := ({ s with srch := s.srch.put c r }).keepWant c (sIndex q.d) 128
  let s := if lead.isNone then s.keepWant c (sQueries q.d) (sQCount q.d * sQStride q.d) else s
  s.searchPump c

/-! ### Commands -/

/-- The first queued batch of a die. -/
def Srch.nextOf (r : Srch) (die : Nat) : Option SBatch := r.queued.find? (fun b => b.die = die)
/-- Remove a batch from a list. -/
def dropBatch (b : SBatch) : List SBatch → List SBatch
  | [] => []
  | x :: xs => if x = b then xs else x :: dropBatch b xs
/-- Bytes of a batch's piece. -/
def SBatch.len (b : SBatch) (code : Nat) : Nat := (b.count + 15) / 16 * blockBytes code
/-- LIST_BATCH_ISSUE (R234): the next batch of a die goes to its lowest idle Active region, or wakes one.  A search names no
idle state, so the region goes back to the die default (R54). -/
def execListBatchIssue (die : Fin 8) (ctx : BitVec 12) (s : State) : Host.Outcome State Fault Refusal :=
  let c := ctx.toNat
  let rs := s.setRegions die.val c
  s.live (match s.srch.find? c with
    | none => s
    | some r =>
      match r.nextOf die.val with
      | none => s
      | some b =>
        match rs.find? (fun g => s.activeRgn g && !r.running.has g && !s.rgnBusy g) with
        | some g =>
          let s := (s.updSrch c (fun r => { r with queued := dropBatch b r.queued, running := r.running.put g b })).updRgn g
            (fun x => { x with idleSel := 0 })
          s.keepWant c b.addr (b.len (sCode r.d))
        | none =>
          if rs.any s.wakingRgn then s
          else match rs.find? (fun g => !s.activeRgn g) with | some g => s.askWake g | none => s)
/-- Entry `e` of a piece: code, attribute word, item id (R220). -/
def pieceEntry (code base : Nat) (bs : List Byte) (e : Nat) : Nat × Nat × Nat :=
  let blk := bs.drop (e / 16 * blockBytes code)
  let i := e % 16
  (leNat ((blk.drop (i * code / 8)).take (code / 8)), leNat ((blk.drop (2 * code + 8 * i)).take 8),
   (base + leNat ((blk.drop (2 * code + 128 + 4 * i)).take 4)) % 2 ^ 64)
/-- Whether an item is deleted (R223). -/
def State.deleted (s : State) (c h id : Nat) : Bool :=
  let base := hdrF h 48 8
  if base ≤ id ∧ id < base + hdrF h 56 8 then
    bitOf (leNat (s.memRead c (hdrF h 40 8 + (id - base) / 8) 1).1) ((id - base) % 8)
  else false
/-- Scan one entry for one query: its matched count, its list and discarded candidates (R236). -/
def State.scanEntry (s : State) (c : Nat) (r : Srch) (q : SQ) (acc : Nat × List SEnt × Nat) (e : Nat × Nat × Nat) :
    Nat × List SEnt × Nat :=
  if filterPass q.filter e.2.1 ∧ s.deleted c r.hdr e.2.2 = false then
    if e.2.2 = 2 ^ 64 - 1 then (acc.1 + 1, acc.2.1, acc.2.2 + 1)
    else (acc.1 + 1, sInsert false q.kh acc.2.1 ⟨e.2.2, hamming (sCode r.d) (q.code (sCode r.d)) e.1, 0⟩, acc.2.2)
  else acc
/-- Scan a piece for one query and merge into the die's running list (R236, R237). -/
def State.scanQuery (s : State) (c die : Nat) (b : SBatch) (bs : List Byte) (i : Nat) : State :=
  match s.srch.find? c with
  | none => s
  | some r =>
    match r.qs.drop i with
    | [] => s
    | q :: _ =>
      let x := ((List.range b.count).map (pieceEntry (sCode r.d) b.base bs)).foldl (s.scanEntry c r q) (0, [], 0)
      let k := die * 2 ^ 16 + i
      let s := s.updSrch c (fun r => { r with
        qs := r.qs.zipIdx.map (fun p => if p.2 = i then { p.1 with matched := p.1.matched + x.1 } else p.1)
        dieBest := r.dieBest.put k (sMerge false q.kh [r.dieBest.getD k [], x.2.1]) })
      if x.2.2 = 0 then s else s.inc rSRCH_BAD_ID 31 0 die 0 x.2.2
/-- Pieces of the tombstone bitmap, of at most 64 bytes, that the entries of a list piece need and other packages hold (R223). -/
def State.tombParts (s : State) (c : Nat) (r : Srch) (b : SBatch) (bs : List Byte) : List (Nat × Nat) :=
  let h := r.hdr
  let base := hdrF h 48 8
  let bytes := (hdrF h 56 8 + 7) / 8
  let lines := ((List.range b.count).filterMap (fun e =>
    let id := (pieceEntry (sCode r.d) b.base bs e).2.2
    if base ≤ id ∧ id < base + hdrF h 56 8 then some ((id - base) / 8 / 64) else none)).eraseDups
  (lines.map (fun l => (hdrF h 40 8 + 64 * l, min 64 (bytes - 64 * l)))).filter (fun p => !(s.hubParts c p.1 p.2).isEmpty)
/-- LIST_BATCH_END (R235 to R237, R243): the batch of a region ends once its piece, and the tombstones of its
entries, have been read. -/
def execListBatchEnd (die : Fin 8) (rgn : Fin 128) (s : State) : Host.Outcome State Fault Refusal :=
  let g := die.val * 128 + rgn.val
  s.live (match s.srch.findKey? (fun _ r => r.running.has g) with
    | none => s
    | some c =>
      match s.srch.find? c with
      | none => s
      | some r =>
        match r.running.find? g with
        | none => s
        | some b =>
          let n := b.len (sCode r.d)
          if !s.hubHere c b.addr n then s
          else
            let x := s.memRead c b.addr n
            let ts := if x.2 then [] else (r.tombs.find? g).getD (s.tombParts c r b x.1)
            if !ts.all (fun p => s.hubHere c p.1 p.2) then
              if r.tombs.has g then s
              else ts.foldl (fun (s : State) p => s.keepWant c p.1 p.2) (s.updSrch c (fun r => { r with tombs := r.tombs.put g ts }))
            else
              let s := s.updSrch c (fun r => { r with running := r.running.del g, tombs := r.tombs.del g })
              let s := (s.noteRead c b.addr n 9).keepDrop c b.addr n
              let s := (s.inc rSRCH_BATCHES 63 0 die.val).inc rSRCH_ROWS 63 0 die.val 0 (n / 64)
              let s := s.updRgn g (fun y => { y with idleAt := s.count })
              let s := if x.2 then
                  (s.updSrch c (fun r => { r with qs := r.qs.zipIdx.map (fun p =>
                    if b.qs.contains p.2 then { p.1 with poison := true } else p.1) })).inc rSRCH_POISON 31 0 die.val
                else b.qs.foldl (fun s i => s.scanQuery c die.val b x.1 i) s
              if r.tombs.has g then ts.foldl (fun (s : State) p => s.keepDrop c p.1 p.2) s else s)
/-- SEARCH_ROUND_END (R237): the die lists merge into the package lists and the matched counts are reported. -/
def execSearchRoundEnd (ctx : BitVec 12) (s : State) : Host.Outcome State Fault Refusal :=
  let c := ctx.toNat
  s.live (match s.srch.find? c with
    | none => s
    | some r =>
      if r.stage = 2 ∧ r.queued = [] ∧ r.running = [] then
        let qs := r.qs.zipIdx.map (fun p => { p.1 with
          best := sMerge false p.1.kh (p.1.best :: (List.range 8).map (fun d => r.dieBest.getD (d * 2 ^ 16 + p.2) []))
          total := p.1.total + p.1.matched })
        let s := s.updSrch c (fun r => { r with stage := 3, qs := qs, dieBest := [] })
        match r.lead with
        | some p => s.reportTo c p (dSeq r.d) (0 :: r.qs.map (·.matched))
        | none => s.searchPump c
      else s)
/-- A peer has failed: the lead goes on without it (R244). -/
def State.peerFailed (s : State) (c peer : Nat) : State :=
  (s.updSrch c (fun r => { r with waiting := r.waiting.del peer, failed := r.failed ++ [peer] })).searchPump c
/-- SEARCH_PEER_REPLY (R244): a report accepted in time is taken; a late one, or one of an earlier search, is discarded and
counted. -/
def execSearchPeerReply (ctx : BitVec 12) (peer : BitVec 16) (reply : PeerReply) (s : State) :
    Host.Outcome State Fault Refusal :=
  let c := ctx.toNat
  let p := peer.toNat
  s.live (match s.srch.find? c with
    | none => s.inc rSRCH_LATE 31 0
    | some r =>
      if dSeq r.d ≠ reply.seq.toNat then s.inc rSRCH_LATE 31 0
      else
      match r.waiting.find? p with
      | none => s.inc rSRCH_LATE 31 0
      | some due =>
        if (match due with | some e => decide (e < s.count) | none => false) then (s.inc rSRCH_LATE 31 0).peerFailed c p
        else if reply.bad then s.peerFailed c p
        else
          let s := s.updSrch c (fun r => { r with
            waiting := r.waiting.del p
            qs := r.qs.zipIdx.map (fun x =>
              let m : Nat := match reply.best with
                | some l => ((l.map (·.1.toNat)).getD x.2 0)
                | none => 0
              { x.1 with total := x.1.total + (if reply.best.isSome then 0 else reply.matched.getD x.2 0)
                         indexErr := x.1.indexErr || bitOf m 0
                         poison := x.1.poison || bitOf m 1 })
            reports := match reply.best with
              | some l => r.reports.put p (l.map (fun y => y.2.map (fun e => ⟨e.id.toNat, e.dist.toNat, e.score.toNat⟩)))
              | none => r.reports })
          s.searchPump c)
/-- SEARCH_PEER_TIMEOUT (R244). -/
def execSearchPeerTimeout (ctx : BitVec 12) (peer : BitVec 16) (s : State) : Host.Outcome State Fault Refusal :=
  let c := ctx.toNat
  let p := peer.toNat
  s.live (match (s.srch.find? c).bind (fun r => r.waiting.find? p) with
    | some (some e) => (s.untilDue e).peerFailed c p
    | _ => s)
/-- A forwarded descriptor as a peer keeps it: its own package gives it no completion ring. -/
def fwdDesc (d : Vec) : Vec := d &&& ~~~ (0xFF0000 : BitVec 512)
/-- SEARCH_FORWARD (R215, R226, R233): a forwarded batch is checked and enters the context's queue; a later message of the
running search starts its next round, or asks for the last report when it names no query. -/
def execSearchForward (src : BitVec 16) (ctx : BitVec 12) (d : BitVec 512) (nLists : Nat) (queries : List QueryFwd)
    (s : State) : Host.Outcome State Fault Refusal :=
  let c := ctx.toNat
  let x := s.ctx c
  let again := match s.srch.find? c with
    | some r => r.lead == some src.toNat && r.stage == 3 && r.d == fwdDesc d
    | none => false
  s.live (if again then
      if queries = [] then (s.beginRerank c).searchPump c
      else (s.updSrch c (fun r => { r with qs := r.qs.zipIdx.map (fun q =>
        match queries.drop q.2 with | y :: _ => { q.1 with now := y.lists } | [] => { q.1 with now := [] }) })).beginRound c
    else if x.st = .unset ∨ x.st = .halted ∨ x.cnt = 0 ∨ (s.peerCheck c d).isSome then s.reportTo c src.toNat (dSeq d) [1]
    else s.enqueue c { op := 2, seq := 0, d := fwdDesc d, sys := false, status := none, post := none,
                       fwd := some (src.toNat, nLists, queries) })
/-- SEARCH_ABORT (R245): the search that a lead forwarded under a SEQ ends with ABORTED; one that still waits leaves the queue
(DESIGN CHOICE, log entry 98). -/
def execSearchAbort (m : AbortMsg) (s : State) : Host.Outcome State Fault Refusal :=
  let c := m.ctx.toNat
  let mine (q : QDesc) : Bool := (match q.fwd with | some f => f.1 == m.src.toNat | none => false) && dSeq q.d == m.seq.toNat
  s.live (
    let s := s.updCtx c (fun x => { x with queue := x.queue.filter (fun q => !mine q) })
    match (s.ctx c).kernel with
    | some k => if mine k.q then s.abortKernel c 5 none else s
    | none => s)

end Sys2Proof.Machine
end

