-- ==== Sys2Proof/Machine/Embed.lean ====
section
/-! DEFINITION. Embedding tables (R247 to R269): TABLE_SET, gathers and scatters, strict batches, prefetch, and the
migration of hot rows. -/

namespace Sys2Proof.Machine

/-! ### Versions and returns (R249, R268, R393) -/

/-- Whether an operation on a slot is queued or running in its context. -/
def State.tableBusy (s : State) (c t : Nat) : Bool :=
  let on (q : QDesc) : Bool := decide (3 ≤ q.op ∧ q.op ≤ 6) && decide (fieldOf q.d 16 1 % 64 = t) && q.status.isNone
  (s.ctx c).queue.any on || (match (s.ctx c).kernel with | some k => on k.q | none => false)
/-- Whether two TABLE_SETs differ only in MIGRATE_EN, IMB_RATIO and MIG_MAX (R249). -/
def sameTable (a b : Vec) : Bool :=
  decide (tSeg a = tSeg b ∧ tShard a = tShard b ∧ tFormat a = tFormat b ∧ tRowBytes a = tRowBytes b ∧ tRows a = tRows b ∧
    tRange a = tRange b ∧ tBase a = tBase b ∧ tSpare a = tSpare b)
/-- Ownership version of a slot. -/
def State.tVer (s : State) (c t : Nat) : Nat := (((s.ctx c).tables.find? t).map (·.ver)).getD 0
/-- Set it. -/
def State.setVer (s : State) (c t v : Nat) : State :=
  s.updCtx c (fun x => { x with tables := x.tables.upd t (fun y => { y with ver := v % 2 ^ 32 }) })
/-- Ownership version of a row (R393). -/
def ETab.rowVer (e : ETab) (x : Nat) : Nat := e.vers.getD x 0
/-- Rows take an ownership version (R393). -/
def State.rowsVer (s : State) (c t v : Nat) (rows : List Nat) : State :=
  s.updEtab c t (fun e => { e with vers := rows.foldl (fun m x => m.put x v) e.vers })
/-- The version v + 1 that a sender offers rows with: above its own and that of every row (R393). -/
def State.nextVer (s : State) (c t : Nat) (rows : List Nat) : Nat :=
  rows.foldl (fun v x => max v ((s.etab c t).rowVer x)) (s.tVer c t) + 1
/-- The coordinator learns that what a package was ordered to move or return is over (R264). -/
def State.orderOver (s : State) (c t p : Nat) : State :=
  s.updEtab c t (fun e => { e with order := e.order.filter (fun o => o.1 != p) })
/-- A move or return has ended here, or did not start: the coordinator hears of it (DESIGN CHOICE, log entry 99). -/
def State.migOver (s : State) (c t ver : Nat) : State :=
  match s.table? c t with
  | none => s
  | some d =>
    if s.tPkg c d 0 = s.self then s.orderOver c t s.self else s.send (.msg (s.tPkg c d 0) 27 [c, t, ver])
/-- Return the rows held here to their homes: the offer of R268. -/
def State.returnRows (s : State) (c t home : Nat) (rows : List Nat) : State :=
  if rows = [] ∨ (s.etab c t).mig.isSome then s
  else
    let v := s.nextVer c t rows
    (s.updEtab c t (fun e => { e with mig := some ⟨home, v, rows, [], 0, true, 0⟩ })).send (.msg home 21 ([c, t, v] ++ rows))
/-- Rows held here go back to their homes, one home at a time, once MIGRATE_EN is clear (R268). -/
def State.returnHeld (s : State) (c t : Nat) (d : Vec) : State :=
  if tMigEn d then s
  else
    let rows := ((s.etab c t).held.filter (fun h => h.2.2)).map Prod.fst
    let p := s.tPkg c d (s.tHome c d (rows.headD 0)).1
    s.returnRows c t p (rows.filter (fun x => decide (s.tPkg c d (s.tHome c d x).1 = p)))
/-! ### Operations (Table 09-2) -/

def eTab (d : Vec) : Nat := fieldOf d 16 1 % 64
def ePool (d : Vec) : Nat := bits (fieldOf d 16 1) 7 6
def ePerBag (d : Vec) : Bool := bitOf (fieldOf d 17 1) 0
def eOutFmt (d : Vec) : Bool := bitOf (fieldOf d 17 1) 1
def eBagged (d : Vec) : Bool := bitOf (fieldOf d 17 1) 2
def eN (d : Vec) : Nat := fieldOf d 20 4
def eBags (d : Vec) : Nat := if eBagged d then fieldOf d 24 4 else eN d
def eNext (d : Vec) : Nat := fieldOf d 28 4
def eIndices (d : Vec) : Nat := fieldOf d 32 8
def eOffsets (d : Vec) : Nat := fieldOf d 40 8
def eData (d : Vec) : Nat := fieldOf d 48 8
def eNextIdx (d : Vec) : Nat := fieldOf d 56 8
/-- Bytes of one item at DATA (R252). -/
def eItem (op : Nat) (t d : Vec) : Nat :=
  if op = 3 ∨ op = 5 then tRowBytes t else if op = 6 then tU t else if eOutFmt d then tRowBytes t else tU t
/-- Items at DATA (R252). -/
def eItems (op : Nat) (d : Vec) : Nat := if op = 4 ∨ (op = 6 ∧ ePerBag d) then eBags d else eN d
/-- Checks of an operation at queue time, step 2 onward (R253); none queues it. -/
def State.embCheck (s : State) (c op : Nat) (d : Vec) : Option Nat :=
  let t? := s.table? c (eTab d)
  let gather := op = 3 ∨ op = 4
  if 2 ^ 24 < eN d ∨ (eBagged d ∧ 2 ^ 24 < eBags d) ∨ (gather ∧ 2 ^ 24 < eNext d) ∨ eIndices d % 8 ≠ 0 ∨
      (eBagged d ∧ eOffsets d % 4 ≠ 0) ∨ eData d % 16 ≠ 0 ∨ (op = 4 ∧ (eBagged d = false ∨ ePool d = 3)) ∨
      ((op = 4 ∨ op = 6) ∧ (match t? with | some t => tFormat t == 0 | none => false) = true) then some stMalformed
  else
    match t? with
    | none => some stBounds
    | some t =>
      let shard := (s.tCap c t + tSpare t) * tRowBytes t
      match firstStatus [s.descCheck c (eIndices d) (8 * eN d) permR,
          if eBagged d then s.descCheck c (eOffsets d) (4 * eBags d) permR else none,
          s.descCheck c (eData d) (eItems op d * eItem op t d) (if gather then permW else permR),
          s.descCheck c (tAddr t 0) shard (if gather then permR else permW)] with
      | some e => some e
      | none => if ((s.ctx c).cnt = 0 ∨ (s.ctx c).dieMask = 0) then some stTooLarge else none
/-- Whether an operation is a no-operation (R253). -/
def embNop (d : Vec) : Bool := eN d == 0 || (eBagged d && eBags d == 0)

/-! ### Bags and faults (R251, R254, R255) -/

/-- Entry `b` of OFFSETS, with N after the last. -/
def offAt (offs : List Nat) (n b : Nat) : Nat := offs.getD b n
/-- The first offset entry at fault (R254). -/
def badOffset (offs : List Nat) (n : Nat) : Option Nat :=
  leastBelow offs.length (fun b =>
    (b == 0 && offAt offs n 0 != 0) || (b != 0 && decide (offAt offs n b < offAt offs n (b - 1))) || decide (n < offAt offs n b))
/-- (first, count) of bag `b`. -/
def bagOf (bagged : Bool) (offs : List Nat) (n b : Nat) : Nat × Nat :=
  if bagged then
    let lo := offAt offs n b
    let hi := min (offAt offs n (b + 1)) n
    (lo, hi - lo)
  else (b, 1)
/-- The first faulting position of a bag. -/
def bagFault (idx : List Nat) (rows : Nat) (bag : Nat × Nat) : Option Nat :=
  ((List.range bag.2).map (fun i => bag.1 + i)).find? (fun i => decide (rows ≤ idx.getD i 0))
/-- The bags carried out, and the detail word of the fault that ends them (R254, R255). -/
def embBags (d : Vec) (rows : Nat) (idx offs : List Nat) : List (Nat × Nat) × Option Nat :=
  let n := eN d
  let nb := eBags d
  let stop := if eBagged d then (badOffset offs n).getD nb else nb
  let bags := (List.range stop).map (bagOf (eBagged d) offs n)
  match leastBelow stop (fun b => (bagFault idx rows (bags.getD b (0, 0))).isSome) with
  | some b =>
    let p := (bagFault idx rows (bags.getD b (0, 0))).getD 0
    let kind := if idx.getD p 0 = 2 ^ 64 - 1 then 1 else 0
    (bags.take b, some (p % 2 ^ 24 + b % 2 ^ 24 * 2 ^ 24 + eTab d * 2 ^ 48 + kind * 2 ^ 54))
  | none =>
    if stop < nb then
      (bags, some (offAt offs n stop % 2 ^ 24 + stop % 2 ^ 24 * 2 ^ 24 + eTab d * 2 ^ 48 + 2 * 2 ^ 54))
    else (bags, none)

/-! ### Elements (R256, R257) -/

/-- Element `i` of a row as FP32, or as INT32 for integer formats. -/
def rowElem (f : Nat) (row : List Byte) (i : Nat) : Nat :=
  let w := fmtBytes f
  let x := leNat ((row.drop (w * i)).take w)
  match f with
  | 2 => (pack32 rne (bf16.decode x)).1
  | 3 => (pack32 rne (fp16.decode x)).1
  | 4 => (pack32 rne (e4m3.decode x)).1
  | 5 => (pack32 rne (e5m2.decode x)).1
  | 6 => ofS 32 (toS 8 x)
  | _ => x
/-- An FP32 result in a table format, to nearest even (Table 04-6). -/
def toFmt (f x : Nat) : Nat :=
  match f with
  | 2 => mstElem 0x9 rne x
  | 3 => mstElem 0xA rne x
  | 4 => mstElem 0x7 rne x
  | 5 => mstElem 0x8 rne x
  | 6 => (fToInt 8 rne x).1
  | 7 => (fToInt 32 rne x).1
  | _ => x
/-- An INT32 result in an integer format, saturating. -/
def intFmt (f x : Nat) : Nat := if f = 6 then ofS 8 (max (-128) (min 127 (toS 32 x))) else x
/-- One pooled element of a bag (R256): pool 0 sum, 1 mean, 2 max. -/
def poolElem (f pool : Nat) (xs : List Nat) : Nat :=
  match xs with
  | [] => 0
  | x0 :: rest =>
    if fmtInt f then
      let sum := xs.foldl (fun a x => (a + x) % 2 ^ 32) 0
      if pool = 0 then sum
      else if pool = 1 then ndiv (nOfInt (toS 32 sum)) (nOfInt xs.length)
      else rest.foldl (fun a x => if toS 32 a ≤ toS 32 x then x else a) x0
    else if pool = 2 then rest.foldl (fminmax true) x0
    else
      let sum := xs.foldl nadd 0
      if pool = 0 then sum else ndiv sum (nOfInt xs.length)
/-- One pooled row (R252, R256). -/
def poolRow (t d : Vec) (rows : List (List Byte)) : List Byte :=
  let f := tFormat t
  let w := fmtBytes f
  (List.range (tRowBytes t / w)).flatMap (fun i =>
    let v := poolElem f (ePool d) (rows.map (fun r => rowElem f r i))
    if eOutFmt d then leBytes w (if fmtInt f && ePool d != 1 then intFmt f v else toFmt f v) else leBytes 4 v)
/-- A row after one update row (R257). -/
def addRow (t : Vec) (row upd : List Byte) : List Byte :=
  let f := tFormat t
  let w := fmtBytes f
  (List.range (tRowBytes t / w)).flatMap (fun i =>
    let u := leNat ((upd.drop (4 * i)).take 4)
    if fmtInt f then leBytes w (rowElem f row i + u) else leBytes w (toFmt f (nadd (rowElem f row i) u)))

/-! ### Where a row is served (R248, R265) -/

/-- Package and program address at which this package reads or updates a row: the holder of a redirected row of its own. -/
def State.rowAt (s : State) (c t : Nat) (d : Vec) (x : Nat) : Nat × Nat :=
  let h := s.tHome c d x
  let p := s.tPkg c d h.1
  if p = s.self then
    match (s.etab c t).redirects.find? x with
    | some r => if r.st = 0 then (p, tAddr d h.2) else (r.peer, tAddr d (s.tCap c d + r.slot))
    | none => (p, tAddr d h.2)
  else (p, tAddr d h.2)
/-- Parts of a row read from another package: key, offset, bytes. -/
def rowParts (dest c addr n : Nat) : List (Nat × Nat × Nat) :=
  (splits4K (n / 4096 + 2) addr 0 n).map (fun k => ((dest + 1) * 2 ^ 96 + hubKey c (addr + k.1) k.2, k.1, k.2))
/-- Begin to read a row. -/
def State.rowWant (s : State) (c t : Nat) (d : Vec) (x : Nat) : State :=
  let a := s.rowAt c t d x
  if a.1 = s.self then s.hubWant c a.2 (tRowBytes d)
  else
    (rowParts a.1 c a.2 (tRowBytes d)).foldl (fun s p =>
      match s.gly.hub.find? p.1 with
      | some r => { s with gly := { s.gly with hub := s.gly.hub.put p.1 { r with waiters := r.waiters + 1 } } }
      | none =>
        let s := { s with gly := { s.gly with hub := s.gly.hub.put p.1 ⟨1, none⟩ } }
        s.request (s.mkReq 0x01 a.1 0 c (a.2 + p.2.1) p.2.2 [] 0 (.hub p.1))) s
/-- Whether a row has come. -/
def State.rowHere (s : State) (c t : Nat) (d : Vec) (x : Nat) : Bool :=
  let a := s.rowAt c t d x
  if a.1 = s.self then s.hubHere c a.2 (tRowBytes d)
  else (rowParts a.1 c a.2 (tRowBytes d)).all (fun p =>
    match s.gly.hub.find? p.1 with | some r => r.got.isSome | none => false)
/-- The row and whether it is poisoned. -/
def State.rowRead (s : State) (c t : Nat) (d : Vec) (x : Nat) : List Byte × Bool :=
  let a := s.rowAt c t d x
  if a.1 = s.self then s.memRead c a.2 (tRowBytes d)
  else
    let ps := (rowParts a.1 c a.2 (tRowBytes d)).map (fun p =>
      match s.gly.hub.find? p.1 with
      | some { got := some (bs, bad), .. } => (bs ++ List.replicate (p.2.2 - bs.length) 0, bad)
      | _ => (List.replicate p.2.2 0, false))
    ((ps.map (·.1)).flatten, ps.any (·.2))
/-- Let go of a row. -/
def State.rowDrop (s : State) (c t : Nat) (d : Vec) (x : Nat) : State :=
  let a := s.rowAt c t d x
  if a.1 = s.self then s.hubDrop c a.2 (tRowBytes d)
  else
    (rowParts a.1 c a.2 (tRowBytes d)).foldl (fun s p =>
      match s.gly.hub.find? p.1 with
      | some r => { s with gly := { s.gly with hub := if r.waiters ≤ 1 then s.gly.hub.del p.1
                                                      else s.gly.hub.put p.1 { r with waiters := r.waiters - 1 } } }
      | none => s) s
/-! ### Applying at the owner (R258 to R260) -/

/-- Answer who sent an update. -/
def State.ackUpd (s : State) (a : Option (Fin 17 × ReqHdr)) (code : Nat) : State :=
  match a with
  | none => s
  | some (l, h) => if code = 0 then s.respond l h 0x41 0 false [] else s.nackReq l h code
/-- Write a row to its place at the other package of a migration, in requests of at most 4 KiB (R266). -/
def State.rowSend (s : State) (c t peer addr : Nat) (bs : List Byte) (poison : Bool) : State :=
  (splits4K (bs.length / 4096 + 2) addr 0 bs.length).foldl (fun (s : State) k =>
    s.request { s.mkReq 0x02 peer 0 c (addr + k.1) k.2 ((bs.drop k.1).take k.2) 0 (.hubW (4096 + c * 64 + t)) with
      poison := poison }) s
/-- Where the receiver of a migration keeps a row: its spare slot, or for a return its home row. -/
def State.migAddr (s : State) (c : Nat) (d : Vec) (m : Mig) (x : Nat) : Nat :=
  if m.back then tAddr d (s.tHome c d x).2 else tAddr d (s.tCap c d + m.slots.getD (m.rows.findIdx (· == x)) 0)
/-- Apply one update or set to a row owned here, and write it through to the receiver of the row while a migration copies it
(R257 to R259, Table 09-3). -/
def State.applyRow (s : State) (c t : Nat) (d : Vec) (u : EUpd) (strict : Bool) : State :=
  let a := s.ownAddr c t d u.row
  let n := tRowBytes d
  let old := s.memRead c a n
  let e := s.etab c t
  let other := match e.lastSrc.find? u.row with | some p => p != u.key.2.2 | none => false
  let s := if !strict && other && (u.set || !fmtInt (tFormat d)) then s.choice c else s
  let bad := old.2 && !u.set
  let new := if bad then old.1 else if u.set then u.data.take n else addRow d old.1 u.data
  let s := if u.set then s else s.noteRead c a n 0x0A
  let s := if bad then s else s.memWrite c a new false
  let s := s.updEtab c t (fun e => { e with gen := (e.gen + 1) % 2 ^ 32, lastSrc := e.lastSrc.put u.row u.key.2.2 })
  match e.mig with
  | some m => if (m.phase = 1 ∨ m.phase = 2) ∧ m.rows.contains u.row then s.rowSend c t m.peer (s.migAddr c d m u.row) new bad else s
  | none => s
/-- Order of strict updates to rows: bag, position, source entry (R260). -/
def EUpd.le (a b : EUpd) : Bool :=
  decide (a.key.1 < b.key.1) || (a.key.1 == b.key.1 && (decide (a.key.2.1 < b.key.2.1) ||
    (a.key.2.1 == b.key.2.1 && decide (a.key.2.2 ≤ b.key.2.2))))
/-- Whether this package is moving a row's ownership away, so that strict updates to it are held (R266). -/
def ETab.leaving (e : ETab) (x : Nat) : Bool :=
  match e.mig with | some m => m.rows.contains x | none => false
/-- Whether every end marker of a strict batch is here (R260). -/
def State.marked (s : State) (c : Nat) (d : Vec) (b : EBatch) : Bool := (List.range (s.tP c d)).all (fun p => b.marks.has p)
/-- Send one update or set to a package as HUB_MSG, one for each 4,064 bytes of its data, and count it (R258, R263). -/
def State.updSend (s : State) (c t dest : Nat) (strict : Bool) (batch : Nat) (u : EUpd) : State :=
  let s := s.updEtab c t (fun e => { e with sent := e.sent.put dest (e.sent.getD dest 0 + 1) })
  (List.range (max 1 ((u.data.length + 4063) / 4064))).foldl (fun (s : State) k =>
    let body := leBytes 2 0x0900 ++ leBytes 1 t ++ leBytes 1 (b2n u.set) ++ leBytes 8 u.row ++ leBytes 4 batch ++
      leBytes 4 u.key.1 ++ leBytes 4 u.key.2.1 ++ leBytes 2 u.key.2.2 ++ leBytes 4 (4064 * k) ++ (u.data.drop (4064 * k)).take 4064
    s.request { s.mkReq 0x50 dest 0 c 0 body.length body 0 (.hubW c) with strict := strict }) s
/-- Forward an update to the package that owns its row; that package answers its source.  One of this package's own goes
as a request of its kernel (R265). -/
def State.updForward (s : State) (c t dest : Nat) (strict : Bool) (batch : Nat) (u : EUpd) : State :=
  match u.ans with
  | some (_, h) => s.send (.msg dest 25 [c, t, u.row, b2n u.set, batch, u.key.1, u.key.2.1, u.key.2.2, h.source.toNat,
      h.tag.toNat, b2n strict, leNat u.data])
  | none => s.updSend c t dest strict batch u
/-- Apply an update of a strict batch whose turn has come, or forward it to the holder of its row (R260, R265). -/
def State.strictRow (s : State) (c t : Nat) (d : Vec) (batch : Nat) (u : EUpd) : State :=
  match (s.etab c t).redirects.find? u.row with
  | some r => if r.st = 0 then (s.applyRow c t d u true).ackUpd u.ans 0 else s.updForward c t r.peer true batch u
  | none => (s.applyRow c t d u true).ackUpd u.ans 0
/-- Apply the strict batches whose end markers are all here, in batch order (R260); one whose timeout has acted is passed
over (R261). -/
def State.strictPump (s : State) (c t : Nat) (d : Vec) : (fuel : Nat) → State
  | 0 => s
  | f + 1 =>
    let e := s.etab c t
    let next := (fun s => (s.updEtab c t (fun e => { e with batches := e.batches.del e.next, next := e.next + 1 })) : State → State)
    match e.batches.find? e.next with
    | none => if e.dead.contains e.next then (next s).strictPump c t d f else s
    | some b =>
      if s.marked c d b && b.upds.all (fun u => !e.leaving u.row) then
        let s := (sortBy EUpd.le b.upds).foldl (fun s u => s.strictRow c t d e.next u) s
        let s := b.marks.foldl (fun s m => s.ackUpd m.2 0) s
        (next s).strictPump c t d f
      else s
/-- Change a strict batch, arming its timeout at its first arrival (R261). -/
def State.updBatch (s : State) (c t n : Nat) (f : EBatch → EBatch) : State :=
  let tmo := s.rd rCTX_EMB_COLL_TMO
  s.updEtab c t (fun e =>
    let b := e.batches.getD n ⟨[], [], if tmo = 0 then none else some (s.count + tmo)⟩
    { e with batches := e.batches.put n (f b) })
/-- The running scatter of a context ends with COLLECTIVE when it is one of a strict batch whose timeout has acted (R261). -/
def State.collAbort (s : State) (c t batch : Nat) : State :=
  match s.emb.runs.find? c with
  | some r => if r.stage = 2 ∧ 5 ≤ r.op ∧ eTab r.d = t ∧ r.batch = batch then s.abortKernel c 4 none else s
  | none => s
/-- The timeout of a strict batch acts: nothing further of it is applied, and every participant ends with COLLECTIVE
(R261). -/
def State.collEnd (s : State) (c t : Nat) (d : Vec) (batch : Nat) : State :=
  match (s.etab c t).batches.find? batch with
  | none => s
  | some b =>
    let s := s.updEtab c t (fun e => { e with batches := e.batches.del batch, dead := e.dead.add batch })
    let s := b.upds.foldl (fun s u => s.ackUpd u.ans 0x07) s
    let s := b.marks.foldl (fun s m => s.ackUpd m.2 0x07) s
    (s.collAbort c t batch).strictPump c t d 8
/-- The timeout of a strict batch with a marker missing acts before anything accepted later (R28, R261). -/
def State.collPast (s : State) (c t : Nat) (d : Vec) (batch : Nat) : State :=
  match (s.etab c t).batches.find? batch with
  | some b =>
    let past := match b.expiry with | some x => decide (x < s.count) | none => false
    if past && !s.marked c d b then s.collEnd c t d batch else s
  | none => s
/-- Whether a strict batch is over at this owner: applied, or its timeout has acted. -/
def ETab.overBatch (e : ETab) (batch : Nat) : Bool := decide (batch < e.next) || e.dead.contains batch
/-- An update, set or strict contribution reaches its owner here. -/
def State.ownerTakes (s : State) (c t : Nat) (d : Vec) (strict : Bool) (batch : Nat) (u : EUpd) : State :=
  if strict then
    let s := s.collPast c t d batch
    if (s.etab c t).overBatch batch then s.ackUpd u.ans 0x07
    else (s.updBatch c t batch (fun b => { b with upds := b.upds ++ [u] })).strictPump c t d 8
  else (s.applyRow c t d u false).ackUpd u.ans 0
/-- An end marker reaches the owner here; one of a batch whose timeout has acted is discarded and counted (R261). -/
def State.ownerMark (s : State) (c t : Nat) (d : Vec) (batch src : Nat) (a : Option (Fin 17 × ReqHdr)) : State :=
  let s := s.collPast c t d batch
  if (s.etab c t).overBatch batch then (s.inc rCTX_EMB_LATE 31 0).ackUpd a 0x07
  else (s.updBatch c t batch (fun b => { b with marks := b.marks.put src a })).strictPump c t d 8
/-- A holder takes a strict update that the home sends on in its turn; while the row is on its way back it waits (R260,
R266, R268). -/
def State.holderTakes (s : State) (c t : Nat) (d : Vec) (batch : Nat) (u : EUpd) : State :=
  if (s.etab c t).leaving u.row then s.updEtab c t (fun e => { e with fwdHeld := e.fwdHeld ++ [(batch, u)] })
  else (s.applyRow c t d u true).ackUpd u.ans 0

/-! ### What operations and prefetches leave (R262) -/

/-- A prefetch lets go of what it asked for and is forgotten (R262). -/
def State.preDrop (s : State) (c t : Nat) : State :=
  match s.emb.pres.find? (c * 64 + t) with
  | none => s
  | some p =>
    let s := match p.rows, s.table? c t with
      | some rows, some d => rows.foldl (fun (s : State) x => s.rowDrop c t d x) s
      | _, _ => if p.want then s.hubDrop c p.addr (8 * p.n) else s
    { s with emb := { s.emb with pres := s.emb.pres.del (c * 64 + t) } }
/-- Staged rows and prefetches of a context are discarded: it is Halted or Unset (R262). -/
def State.preForget (s : State) (c : Nat) : State :=
  let s := (s.emb.pres.keys.filter (fun k => decide (k / 64 = c))).foldl (fun (s : State) k => s.preDrop c (k % 64)) s
  { s with emb := { s.emb with staged := s.emb.staged.del c } }
/-- An operation lets go of what it asked for and is forgotten. -/
def State.embDrop (s : State) (c : Nat) : State :=
  match s.emb.runs.find? c with
  | none => s
  | some r =>
    let d := r.d
    let s := match r.stage, s.table? c (eTab d) with
      | 0, some t =>
        let s := s.hubDrop c (eIndices d) (8 * eN d)
        let s := if eBagged d then s.hubDrop c (eOffsets d) (4 * eBags d) else s
        if r.op ≤ 4 then s else s.hubDrop c (eData d) (eItems r.op d * eItem r.op t d)
      | 1, some t => r.rows.foldl (fun (s : State) x => s.rowDrop c (eTab d) t x) s
      | _, _ => s
    { s with emb := { s.emb with runs := s.emb.runs.del c } }

/-! ### Running an operation -/

/-- Change a running operation. -/
def State.updRun (s : State) (c : Nat) (f : ERun → ERun) : State :=
  { s with emb := { s.emb with runs := s.emb.runs.upd c f } }
/-- The operation of a context's kernel is done. -/
def State.embDone (s : State) (c : Nat) (r : ERun) : State :=
  let s := s.inc rCTX_EMB_OPS 31 0
  let s := if r.fault.isSome then s.inc rCTX_EMB_OPS 63 32 else s
  let st := match r.fault with | some x => (stIndexFault, x) | none => (stOK, 0)
  let s := (s.updKer c (fun k => { k with result := some st })).updRun c (fun r => { r with stage := 6 })
  let vint := match s.table? c (eTab r.d) with | some t => s.pinnedAt c (tAddr t 0) | none => 0
  if (r.op = 3 ∨ r.op = 4) ∧ 0 < eNext r.d then
    let s := s.preDrop c (eTab r.d)
    { s with emb := { s.emb with pres := s.emb.pres.put (c * 64 + eTab r.d) ⟨eNextIdx r.d, eNext r.d, vint, false, none⟩ } }
  else s
/-- Staged rows of a table that a gather may use: those whose generation or vintage still stands; the others are discarded
and counted (R263).  Of another package's generation this package knows that its own updates have advanced it; what else
has is free. -/
def State.checkStaged (s : State) (c t : Nat) (d : Vec) : State :=
  let all := s.emb.staged.getD c []
  let vint := s.pinnedAt c (tAddr d 0)
  let tier := match s.seg? c (tSeg d) with | some g => g.tier | none => 0
  let keep (e : Nat × Staged) : Bool :=
    e.1 / 2 ^ 40 != t ||
      (if tier = 1 then e.2.gen == vint
       else if e.2.from_ = s.self then e.2.gen == (s.etab c t).gen
       else e.2.gen == (s.etab c t).sent.getD e.2.from_ 0 && Config.peerStill (s.nonce + e.2.from_))
  let s := { s with emb := { s.emb with staged := s.emb.staged.put c (all.filter keep) } }
  (s.inc rCTX_PF_STALE 31 0 0 0 (all.filter (fun e => !keep e)).length).tick
/-- The bytes of a row for a gather: staged, or as read. -/
def State.rowFor (s : State) (c t : Nat) (d : Vec) (x : Nat) : List Byte × Bool :=
  match (s.emb.staged.getD c []).find? (t * 2 ^ 40 + x) with
  | some g => (g.data, false)
  | none => s.rowRead c t d x
/-- Write an item at DATA; poison stays poison. -/
def State.putItem (s : State) (c addr : Nat) (bs : List Byte) (bad : Bool) : State :=
  if bad then s.dmaToMem c addr [(bs, true)] else s.hubWrite c addr bs
/-- Positions of the bags carried out, with their bags. -/
def ERun.positions (r : ERun) : List (Nat × Nat) :=
  r.bags.zipIdx.flatMap (fun b => (List.range b.1.2).map (fun i => (b.2, b.1.1 + i)))
/-- Send an update to the home of its row, to the holder of a redirected row of this home, or take it here; strict ones
of this home wait for their turn here (R258, R260, R265). -/
def State.sendUpd (s : State) (c t : Nat) (d : Vec) (strict : Bool) (r : ERun) (bag pos : Nat) (data : List Byte) : State :=
  let x := r.idx.getD pos 0
  let a := s.rowAt c t d x
  let u : EUpd := ⟨none, x, r.op = 5, (bag, pos, s.myEntry c), data⟩
  if a.1 = s.self ∨ (strict ∧ s.tPkg c d (s.tHome c d x).1 = s.self) then s.ownerTakes c t d strict r.batch u
  else s.updSend c t a.1 strict r.batch u
/-- Send this package's end markers of a strict batch to every owner (R260). -/
def State.sendMarks (s : State) (c t : Nat) (d : Vec) (batch : Nat) : State :=
  (s.stripe (s.compOf c)).foldl (fun s p =>
    if p = s.self then s.ownerMark c t d batch (s.myEntry c) none
    else
      let body := leBytes 2 0x0901 ++ leBytes 1 t ++ leBytes 4 batch ++ leBytes 2 (s.myEntry c)
      s.request (s.mkReq 0x50 p 0 c 0 body.length body 0 (.hubW c))) s
/-- Whether scatters of a table are collective (R260). -/
def State.collective (s : State) (c : Nat) (d : Vec) : Bool := s.strict (s.compOf c) && decide (1 < s.tP c d)
/-- Stage 0: the inputs are here (R254); a gather asks for its rows, a scatter sends its updates (R258). -/
def State.embInputs (s : State) (c : Nat) (t d : Vec) (r : ERun) : State :=
  let n := eN d
  let tb := eTab d
  let ib := (s.memRead c (eIndices d) (8 * n)).1
  let idx := (List.range n).map (fun i => leNat ((ib.drop (8 * i)).take 8))
  let ob := if eBagged d then (s.memRead c (eOffsets d) (4 * eBags d)).1 else []
  let offs := if eBagged d then (List.range (eBags d)).map (fun i => leNat ((ob.drop (4 * i)).take 4)) else []
  let b := embBags d (tRows t) idx offs
  let r := { r with idx := idx, bags := b.1, fault := b.2 }
  let s := (s.noteRead c (eIndices d) (8 * n) 0x0A).hubDrop c (eIndices d) (8 * n)
  let s := if eBagged d then (s.noteRead c (eOffsets d) (4 * eBags d) 0x0A).hubDrop c (eOffsets d) (4 * eBags d) else s
  if r.op ≤ 4 then
    let s := s.checkStaged c tb t
    let need := ((r.positions.map (fun p => idx.getD p.2 0)).eraseDups).filter (fun x =>
      !(s.emb.staged.getD c []).has (tb * 2 ^ 40 + x))
    let s := s.updRun c (fun _ => { r with stage := 1, rows := need })
    need.foldl (fun s x => s.rowWant c tb t x) s
  else
    let strict := s.collective c t
    let item := eItem r.op t d
    let data := (s.memRead c (eData d) (eItems r.op d * item)).1
    let s := (s.noteRead c (eData d) (eItems r.op d * item) 0x0A).hubDrop c (eData d) (eItems r.op d * item)
    let r := { r with batch := (s.etab c tb).batch, stage := 2 }
    let s := (s.updRun c (fun _ => r)).updEtab c tb (fun e => { e with batch := e.batch + 1 })
    let s := r.positions.foldl (fun s p =>
      let i := if r.op = 6 ∧ ePerBag d then p.1 else p.2
      s.sendUpd c tb t strict r p.1 p.2 ((data.drop (i * item)).take item)) s
    if !strict then s
    else if (s.etab c tb).dead.contains r.batch then s.abortKernel c 4 none
    else s.sendMarks c tb t r.batch
/-- Stage 1: the rows are here; a gather writes DATA (R256). -/
def State.embRows (s : State) (c : Nat) (t d : Vec) (r : ERun) : State :=
  let tb := eTab d
  let item := eItem r.op t d
  let s := r.rows.foldl (fun s x => if (s.rowAt c tb t x).1 = s.self then
      (s.noteServe c tb x).noteRead c (s.rowAt c tb t x).2 (tRowBytes t) 0x0A else s) s
  let get (x : Nat) := s.rowFor c tb t x
  let s := if r.op = 3 then
      r.positions.foldl (fun s p =>
        let v := get (r.idx.getD p.2 0)
        s.putItem c (eData d + p.2 * item) v.1 v.2) s
    else
      r.bags.zipIdx.foldl (fun s b =>
        let vs := (List.range b.1.2).map (fun i => get (r.idx.getD (b.1.1 + i) 0))
        s.putItem c (eData d + b.2 * item) (poolRow t d (vs.map (·.1))) (vs.any (·.2))) s
  let s := r.rows.foldl (fun s x => s.rowDrop c tb t x) s
  s.updRun c (fun r => { r with stage := 2 })
/-- Whether this package's own part of a strict batch is applied. -/
def State.batchDone (s : State) (c : Nat) (t : Vec) (r : ERun) : Bool :=
  r.op ≤ 4 || !s.collective c t || decide (r.batch < (s.etab c (eTab r.d)).next) && !(s.etab c (eTab r.d)).dead.contains r.batch
/-- Advance a running operation by one stage when it can. -/
def State.embStep (s : State) (c : Nat) : State :=
  match s.emb.runs.find? c with
  | none => s
  | some r =>
    match s.table? c (eTab r.d) with
    | none => if r.stage = 6 then s else s.embDone c r
    | some t =>
      let d := r.d
      match r.stage with
      | 0 =>
        if s.hubHere c (eIndices d) (8 * eN d) && (!eBagged d || s.hubHere c (eOffsets d) (4 * eBags d)) &&
            (r.op ≤ 4 || s.hubHere c (eData d) (eItems r.op d * eItem r.op t d)) then s.embInputs c t d r else s
      | 1 => if r.rows.all (fun x => s.rowHere c (eTab d) t x) then s.embRows c t d r else s
      | 2 => if !s.hubWrites c && s.batchDone c t r then s.embDone c r else s
      | _ => s
/-- Advance every running operation. -/
def State.embPump (s : State) : State :=
  s.emb.runs.keys.foldl (fun s c => (List.range 4).foldl (fun s _ => s.embStep c) s) s
/-- Start an embedding kernel. -/
def State.embStart (s : State) (c : Nat) (q : QDesc) : State :=
  let d := q.d
  let r : ERun := { op := q.op, d := d, stage := 0, batch := 0, idx := [], bags := [], fault := none, rows := [] }
  let s := ({ s with emb := { s.emb with runs := s.emb.runs.put c r } }).hubWant c (eIndices d) (8 * eN d)
  let s := if eBagged d then s.hubWant c (eOffsets d) (4 * eBags d) else s
  let s := match s.table? c (eTab d) with
    | some t => if q.op ≤ 4 then s else s.hubWant c (eData d) (eItems q.op d * eItem q.op t d)
    | none => s
  s.embPump

/-! ### Updates and markers of other packages -/

/-- Link by which this package answers a requester directly. -/
def State.linkTo (s : State) (h : ReqHdr) : Fin 17 :=
  match s.planeTo (hPort h) with | some n => Fin.ofNat 17 n | none => 16
/-- Whether this package owns a row that another package calls home (R265). -/
def ETab.holds (e : ETab) (x : Nat) : Bool := match e.held.find? x with | some (_, o) => o | none => false
/-- A request of this package's own, forwarded elsewhere, comes to its end here without a response: it is forgotten, and
what it read is kept. -/
def State.ownAnswer (s : State) (h : ReqHdr) (data : Option (List Byte × Bool)) : State :=
  let k := h.source.toNat / 2 ^ 17 % 8 * 2 ^ 16 + h.tag.toNat
  match s.gly.reqs.find? k with
  | none => s
  | some r =>
    let s := { s with gly := { s.gly with reqs := s.gly.reqs.del k } }
    match r.use, data with
    | .hub key, some g => { s with gly := { s.gly with hub := s.gly.hub.upd key (fun x => { x with got := some g }) } }
    | _, _ => s
/-- EMB_UPDATE (R258, R260, R265): the home takes an update or set that it owns and every strict one, and forwards another of
a redirected row; a holder takes what it holds, and sends back what it holds no longer. -/
def execEmbUpdate (m : EmbUpd) (s : State) : Host.Outcome State Fault Refusal :=
  let c := m.h.ctx.toNat
  let t := m.tab.toNat
  s.live (if s.mute then s
    else if m.h.vc ≠ 3 then s.nackReq m.l m.h 0x01
    else match s.table? c t with
    | none => s.nackReq m.l m.h 0x06
    | some d =>
      if !s.reqMember m.h then s.nackReq m.l m.h 0x04
      else
        let u : EUpd := ⟨some (m.l, m.h), m.row, m.set, (m.bag, m.pos, m.src), m.data⟩
        let home := s.tPkg c d (s.tHome c d m.row).1
        if home = s.self then
          match (s.etab c t).redirects.find? m.row with
          | some r =>
            if m.h.strict ∨ r.st = 0 then s.ownerTakes c t d m.h.strict m.batch u else s.updForward c t r.peer false m.batch u
          | none => s.ownerTakes c t d m.h.strict m.batch u
        else if (s.etab c t).holds m.row then
          if m.h.strict then s.holderTakes c t d m.batch u else s.ownerTakes c t d false m.batch u
        else s.updForward c t home m.h.strict m.batch u)
/-- END_MARKER (R260, R261). -/
def execEndMarker (l : Fin 17) (h : ReqHdr) (ctx : BitVec 12) (tab : BitVec 6) (batch src : Nat) (s : State) :
    Host.Outcome State Fault Refusal :=
  let c := ctx.toNat
  s.live (if s.mute then s
    else if h.vc ≠ 3 then s.nackReq l h 0x01
    else match s.table? c tab.toNat with
    | none => s.nackReq l h 0x06
    | some d => if !s.reqMember h then s.nackReq l h 0x04 else (s.ownerMark c tab.toNat d batch src (some (l, h))).embPump)
/-- The strict batch whose timeout is due first among those that lack an end marker, with its expiry (R261). -/
def State.collDue (s : State) (c t : Nat) (d : Vec) : Option (Nat × Nat) :=
  let open_ := (s.etab c t).batches.filterMap (fun b => match b.2.expiry with
    | some x => if s.marked c d b.2 then none else some (b.1, x)
    | none => none)
  (sortBy (fun a b => decide (a.2 ≤ b.2)) open_).head?
/-- COLLECTIVE_TIMEOUT (R261): nothing further of the batch is applied, and every participant ends with COLLECTIVE. -/
def execCollectiveTimeout (ctx : BitVec 12) (tab : BitVec 6) (s : State) : Host.Outcome State Fault Refusal :=
  let c := ctx.toNat
  let t := tab.toNat
  s.live (match s.table? c t with
    | none => s
    | some d =>
      match s.collDue c t d with
      | some (b, x) => (s.untilDue x).collEnd c t d b
      | none => s)
/-- Number under which the leader knows the ownership of a row (R394; DESIGN CHOICE, log entry 100). -/
def rowState (c t x : Nat) : Nat := (c * 64 + t) * 2 ^ 40 + x
/-- A request for a row comes back to its home: the leader hears of the dispute between this package, which sent the row,
and its holder (R394). -/
def State.dispute (s : State) (c t x : Nat) : State :=
  match s.leader, (s.etab c t).redirects.find? x with
  | some l, some r => s.send (.msg (s.pod * 64 + l) 30 [rowState c t x, s.pkg, r.peer % 64])
  | _, _ => s
/-- FORWARDED_REQUEST (R265, R268, R394): the holder serves what the home forwarded and answers the source; what it no
longer holds goes back to the home, and a request that comes back is a dispute. -/
def execForwardedRequest (m : EmbUpd) (isRead : Bool) (s : State) : Host.Outcome State Fault Refusal :=
  let c := m.h.ctx.toNat
  let t := m.tab.toNat
  s.live (if s.mute then s
    else match s.table? c t with
    | none => s
    | some d =>
      let e := s.etab c t
      let l := s.linkTo m.h
      let home := s.tPkg c d (s.tHome c d m.row).1
      let own := hPort m.h == s.self
      let mine := e.holds m.row ||
        (home == s.self && !(match e.redirects.find? m.row with | some r => r.st == 1 | none => false))
      let u : EUpd := ⟨if own then none else some (l, m.h), m.row, m.set, (m.bag, m.pos, m.src), m.data⟩
      if mine then
        if isRead then
          let a := s.ownAddr c t d m.row + m.off
          let n := m.h.len.toNat
          let r := s.rowPart (2 ^ 16 + hPort m.h) c a m.off n (tRowBytes d)
          let s := (if m.off = 0 then r.2.noteServe c t m.row else r.2).noteRead c a n 0x0A
          if own then (s.ownAnswer m.h (some r.1)).embPump else s.respond l m.h 0x40 0 r.1.2 r.1.1
        else
          let s := if own then s.ownAnswer m.h none else s
          let s := if m.h.strict then s.holderTakes c t d m.batch u else s.ownerTakes c t d false m.batch u
          if own then s.embPump else s
      else if home = s.self then s.dispute c t m.row
      else if isRead then s.fwdRead home m.h
      else s.updForward c t home m.h.strict m.batch { u with ans := some (l, m.h) })
/-- A read of another package that names a redirected row goes on to the holder, with FWD set (R265), and one that names the
slot of a row which has gone back goes on to its home (R268). -/
def State.forwardRead (s : State) (h : ReqHdr) : Option State :=
  let c := h.ctx.toNat
  match s.shardRow c (hAddr h) with
  | none => none
  | some p =>
    let go (dest : Nat) : Option State :=
      some (s.fwdRead dest h)
    if p.left then go (s.tPkg c p.d (s.tHome c p.d p.row).1)
    else
      match (s.etab c p.tab).redirects.find? p.row with
      | some r => if r.st = 0 then none else go r.peer
      | none => none

/-! ### Prefetch (R262, R263) -/

/-- Bytes staged for a context. -/
def State.stagedBytes (s : State) (c : Nat) : Nat := ((s.emb.staged.getD c []).map (fun e => e.2.data.length)).sum
/-- Rows that the running prefetches of a context will stage (R262). -/
def State.comingBytes (s : State) (c : Nat) : Nat :=
  ((s.emb.pres.filter (fun e => decide (e.1 / 64 = c))).map (fun e => match e.2.rows, s.table? c (e.1 % 64) with
    | some rows, some d => rows.length * tRowBytes d
    | _, _ => 0)).sum
/-- Ask for the indices of a prefetch, once the extent passes the checks of Table 07-5; else it is skipped whole (R262). -/
def State.preWant (s : State) (c t : Nat) (p : Pre) : State :=
  if (s.descCheck c p.addr (8 * p.n) permR).isSome ∨ p.addr % 8 ≠ 0 then
    ({ s with emb := { s.emb with pres := s.emb.pres.del (c * 64 + t) } }).inc rCTX_PF_BAD 31 0 0 0 p.n
  else
    ({ s with emb := { s.emb with pres := s.emb.pres.put (c * 64 + t) { p with want := true } } }).hubWant c p.addr (8 * p.n)
/-- The prefetch's indices are here: ask for the rows that fit (R262). -/
def State.preBegin (s : State) (c t : Nat) (d : Vec) (p : Pre) : State :=
  if s.hubHere c p.addr (8 * p.n) = false then s
  else
    let ib := (s.memRead c p.addr (8 * p.n)).1
    let idx := (List.range p.n).map (fun i => leNat ((ib.drop (8 * i)).take 8))
    let good := idx.filter (fun x => decide (x < tRows d))
    let s := ((s.noteRead c p.addr (8 * p.n) 0x0A).hubDrop c p.addr (8 * p.n)).inc rCTX_PF_BAD 31 0 0 0 (idx.length - good.length)
    let keep := (s.emb.staged.getD c []).filter (fun e => decide (e.1 / 2 ^ 40 ≠ t))
    let s := { s with emb := { s.emb with staged := s.emb.staged.put c keep } }
    let rows := good.eraseDups
    let room := ((s.ctx c).pfPages * 2 ^ 21 - s.stagedBytes c - s.comingBytes c) / tRowBytes d
    let drop := (rows.drop room).length
    let s := if drop = 0 then s
      else (s.inc rCTX_PF_DROP 31 0 0 0 drop).raise { code := 0x0904, sev := 0, comp := s.compOf c, d0 := c, d1 := t, d2 := drop }
    let take := rows.take room
    let s := { s with emb := { s.emb with pres := s.emb.pres.put (c * 64 + t) { p with rows := some take } } }
    take.foldl (fun s x => s.rowWant c t d x) s
/-- The prefetch's rows are here: stage them with their generation or vintage (R263). -/
def State.preEnd (s : State) (c t : Nat) (d : Vec) (rows : List Nat) : State :=
  let tier := match s.seg? c (tSeg d) with | some g => g.tier | none => 0
  let vint := match s.emb.pres.find? (c * 64 + t) with | some p => p.vint | none => 0
  let s := rows.foldl (fun s x =>
    let a := s.rowAt c t d x
    let v := s.rowRead c t d x
    let s := if a.1 = s.self then (s.noteServe c t x).noteRead c a.2 (tRowBytes d) 0x0A else s
    if v.2 then s
    else { s with emb := { s.emb with staged := s.emb.staged.put c ((s.emb.staged.getD c []).put (t * 2 ^ 40 + x)
      ⟨v.1, a.1, if tier = 1 then vint else if a.1 = s.self then (s.etab c t).gen else (s.etab c t).sent.getD a.1 0⟩) } }) s
  s.preDrop c t
/-- PREFETCH (R262): the prefetch of a gather runs, and runs again once the rows it asked for have come. -/
def execPrefetch (ctx : BitVec 12) (tab : BitVec 6) (s : State) : Host.Outcome State Fault Refusal :=
  let c := ctx.toNat
  let t := tab.toNat
  s.live (match s.emb.pres.find? (c * 64 + t), s.table? c t with
    | some p, some d =>
      let s := if p.rows.isNone ∧ p.want = false then s.preWant c t p else s
      let s := match s.emb.pres.find? (c * 64 + t) with
        | some q => if q.rows.isNone then s.preBegin c t d q else s
        | none => s
      match s.emb.pres.find? (c * 64 + t) with
      | some { rows := some rows, .. } => if rows.all (fun x => s.rowHere c t d x) then s.preEnd c t d rows else s
      | _ => s
    | _, _ => s)

/-! ### Hot rows (R264 to R268) -/

/-- Redirect entries of a composition, and of the package (Table 01-6). -/
def State.rdtUsed (s : State) (comp : Nat) : Nat :=
  (s.emb.tabs.map (fun e => if s.compOf (e.1 / 64) = comp then e.2.redirects.length else 0)).sum
/-- Redirect reserve of a composition. -/
def State.rdtRes (s : State) (comp : Nat) : Nat := ((s.partOf comp).map (·.rdtRes)).getD 0
/-- Free redirect entries that a composition can use: its share, then the pool (R33). -/
def State.rdtFree (s : State) (comp : Nat) : Nat :=
  (s.rdtRes comp - s.rdtUsed comp) + poolFree 65536 s.map.comps.keys s.rdtRes s.rdtUsed
/-- Abandon a migration before its commit (R267); updates held for it are taken, and the coordinator hears of its end. -/
def State.migAbandon (s : State) (c t : Nat) (count : Bool) : State :=
  match (s.etab c t).mig with
  | none => s
  | some m =>
    let held := (s.etab c t).fwdHeld
    let s := s.updEtab c t (fun e => { e with
      mig := none
      fwdHeld := []
      redirects := if m.back then e.redirects else e.redirects.filter (fun r => !m.rows.contains r.1) })
    let s := if count then s.inc rCTX_MIG_ABANDON 31 0 else s
    match s.table? c t with
    | some d =>
      let s := held.foldl (fun (s : State) u => (s.applyRow c t d u.2 true).ackUpd u.2.ans 0) s
      (s.strictPump c t d 8).migOver c t m.ver
    | none => s
/-- The home starts a migration: entries in state COPYING, and an offer (steps 2 of Table 09-3). -/
def State.migStart (s : State) (c t dest : Nat) (rows : List Nat) : State :=
  let lost := match (s.etab c t).mig with | some m => decide (m.phase = 3) | none => false
  let s := if lost then s.migAbandon c t true else s
  let e := s.etab c t
  if e.mig.isSome then s
  else if rows = [] then s.migOver c t 0
  else if s.rdtFree (s.compOf c) < rows.length then (s.inc rCTX_RDT_REFUSED 31 0).migOver c t 0
  else
    let v := s.nextVer c t rows
    let s := s.updEtab c t (fun e => { e with
      redirects := rows.foldl (fun m x => m.put x ⟨dest, 0, 0⟩) e.redirects
      mig := some ⟨dest, v, rows, [], 0, false, 0⟩ })
    s.send (.msg dest 21 ([c, t, v] ++ rows))
/-- Every copy is acknowledged: TRANSFER is sent (step 8 of Table 09-3). -/
def State.migPump (s : State) (c t : Nat) : State :=
  match (s.etab c t).mig with
  | some m =>
    if m.phase = 3 then s.migAbandon c t true
    else if m.phase = 1 ∧ s.hubWrites (4096 + c * 64 + t) = false then
      (s.updEtab c t (fun e => { e with mig := some { m with phase := 2 } })).send (.msg m.peer 23 ([c, t, m.ver] ++ m.rows))
    else s
  | none => s
/-- Rows to move: descending count, lower row first, until half the difference or MIG_MAX (R264). -/
def pickRows (half cap : Nat) (rows : List (Nat × Nat)) : List Nat :=
  let l := sortBy (fun a b => decide (b.2 < a.2) || (a.2 == b.2 && decide (a.1 ≤ b.1))) rows
  (l.foldl (fun (x : List Nat × Nat) r =>
    if half ≤ x.2 ∨ cap ≤ x.1.length then x else (x.1 ++ [r.1], x.2 + r.2)) ([], 0)).1
/-- The coordinator decides with every report of the window in, unless a move or return that it ordered is still in
progress: it orders a return of rows whose holder's load has fallen below their home's, or a move (R264, R268). -/
def State.coordinate (s : State) (c t : Nat) (d : Vec) : State :=
  let e := s.etab c t
  let p := s.tP c d
  if (List.range p).all (fun i => e.reports.has i) then
    let n (i : Nat) : Nat := (e.reports.getD i (0, [])).1
    let total := ((List.range p).map n).sum
    let hi := (List.range p).foldl (fun a i => if n a < n i then i else a) 0
    let lo := (List.range p).foldl (fun a i => if n i < n a then i else a) 0
    let rows := pickRows ((n hi - n lo) / 2) (tMigMax d) (e.reports.getD hi (0, [])).2
    let s := s.updEtab c t (fun e => { e with reports := [] })
    let begin (s : State) (mover : Nat) (f : ETab → ETab) : State :=
      s.updEtab c t (fun e => { f e with order := some (mover, 0) })
    match e.order, e.given.find? (fun g => decide (n (g.2.2) < n (g.2.1))) with
    | some _, _ => s
    | none, some g =>
      let mover := s.tPkg c d g.2.2
      let s := begin s mover (fun e => { e with given := e.given.erase g })
      if mover = s.self then s.returnRows c t (s.tPkg c d g.2.1) g.1
      else s.send (.msg mover 22 ([c, t, s.tPkg c d g.2.1] ++ g.1))
    | none, none =>
      if tMigEn d ∧ tImb d ≠ 0 ∧ total * tImb d ≤ n hi * 16 * p ∧ hi ≠ lo ∧ rows ≠ [] then
        let mover := s.tPkg c d hi
        let s := begin s mover (fun e => { e with given := e.given ++ [(rows, hi, lo)] })
        if mover = s.self then s.migStart c t (s.tPkg c d lo) rows
        else s.send (.msg mover 22 ([c, t, s.tPkg c d lo] ++ rows))
      else s
  else s
/-- A window ends for a table (R264): a migration that its receiver has left without an answer for a whole window is
abandoned (R267; DESIGN CHOICE, log entry 101), an order of which nothing was heard for three windows is forgotten, and
held rows go home once MIGRATE_EN is clear (R268). -/
def State.windowAge (s : State) (c t : Nat) (d : Vec) : State :=
  let s := match (s.etab c t).mig with
    | some m =>
      if 1 ≤ m.age then s.migAbandon c t true
      else s.updEtab c t (fun e => { e with mig := some { m with age := m.age + 1 } })
    | none => s
  (s.updEtab c t (fun e => { e with order := match e.order with
    | some (p, k) => if 2 ≤ k then none else some (p, k + 1)
    | none => none })).returnHeld c t d
/-- EMB_WINDOW_END (R264): every 2^24 counts the served rows of each sharded table go to the coordinator. -/
def execEmbWindowEnd (s : State) : Host.Outcome State Fault Refusal :=
  let s' := s.untilDue (s.emb.windowAt + 2 ^ 24)
  let s' := { s' with emb := { s'.emb with windowAt := s'.count } }
  s.live (s'.emb.tabs.foldl (fun s e =>
    let c := e.1 / 64
    let t := e.1 % 64
    match s.table? c t with
    | none => s
    | some d =>
      if s.tP c d ≤ 1 then s
      else
        let s := s.windowAge c t d
        let lead := s.tPkg c d 0
        let free := e.2.sampler.filter (fun x => !e.2.redirects.has x.1 && !e.2.held.has x.1)
        let s := s.updEtab c t (fun e => { e with served := 0, sampler := [] })
        if lead = s.self then
          (s.updEtab c t (fun y => { y with reports := y.reports.put (s.myEntry c) (e.2.served, free) })).coordinate c t d
        else s.send (.msg lead 20 ([c, t, s.myEntry c, e.2.served] ++ free.flatMap (fun x => [x.1, x.2])))) s')
/-- SHARD_COUNT_REPORT (R264). -/
def execShardCountReport (ctx : BitVec 12) (tab : BitVec 6) (src count : Nat) (rows : List (Nat × Nat)) (s : State) :
    Host.Outcome State Fault Refusal :=
  let c := ctx.toNat
  let t := tab.toNat
  s.live (match s.table? c t with
    | none => s
    | some d =>
      if s.tPkg c d 0 ≠ s.self then s
      else (s.updEtab c t (fun e => { e with reports := e.reports.put src (count, rows) })).coordinate c t d)
/-- Free spare slots of a table here, lowest first. -/
def ETab.freeSlots (e : ETab) (d : Vec) : List Nat :=
  (List.range (tSpare d)).filter (fun k => !e.held.any (fun h => h.2.1 == k))
/-- MIGRATION_OFFER (R264, R266, R268): an order of the coordinator to move rows of this home or to return held ones, a
holder's offer to return rows, or a home's offer, which reserves a spare slot for each row and answers READY. -/
def execMigrationOffer (ctx : BitVec 12) (tab : BitVec 6) (peer : Nat) (ver : BitVec 32) (rows : List Nat) (s : State) :
    Host.Outcome State Fault Refusal :=
  let c := ctx.toNat
  let t := tab.toNat
  s.live (match s.table? c t with
    | none => s
    | some d =>
      let e := s.etab c t
      let home := s.tPkg c d (s.tHome c d (rows.headD 0)).1
      if home = s.self then
        if rows.all (fun x => match e.redirects.find? x with | some r => r.peer == peer && r.st != 0 | none => false) ∧ rows ≠ [] then
          let answer := Tx.msg peer 24 ([c, t, ver.toNat] ++ rows.map (fun x => (s.tHome c d x).2))
          if rows.all (fun x => e.rowVer x == ver.toNat) then s.send answer
          else if rows.any (fun x => decide (ver.toNat ≤ e.rowVer x)) then s
          else (s.rowsVer c t ver.toNat rows).send answer
        else s.migStart c t peer (rows.filter (fun x => !e.redirects.has x))
      else if rows.all (fun x => match e.held.find? x with | some (_, o) => o | none => false) ∧ peer = home ∧ rows ≠ [] then
        s.returnRows c t peer rows
      else if rows.all (fun x => e.held.has x && e.rowVer x == ver.toNat) ∧ rows ≠ [] then
        s.send (.msg peer 24 ([c, t, ver.toNat] ++ rows.map (fun x => (e.held.getD x (0, false)).1)))
      else if rows.any (fun x => decide (ver.toNat ≤ e.rowVer x)) then s
      else
        let free := e.freeSlots d
        if free.length < rows.length then s.send (.msg peer 24 [c, t, ver.toNat])
        else
          let s := (s.rowsVer c t ver.toNat rows).updEtab c t (fun e => { e with
            held := (rows.zip free).foldl (fun m x => m.put x.1 (x.2, false)) e.held
            gone := (free.take rows.length).foldl (fun m k => m.del k) e.gone })
          s.send (.msg peer 24 ([c, t, ver.toNat] ++ free.take rows.length)))
/-- MIGRATION_READY (R266, R267): the sender copies each row to its place at the receiver; no slots, no migration. -/
def execMigrationReady (ctx : BitVec 12) (tab : BitVec 6) (peer : Nat) (ver : BitVec 32) (slots : List Nat) (s : State) :
    Host.Outcome State Fault Refusal :=
  let c := ctx.toNat
  let t := tab.toNat
  s.live (match s.table? c t, (s.etab c t).mig with
    | some d, some m =>
      if m.phase = 0 ∧ m.peer = peer ∧ m.ver = ver.toNat then
        if slots.length < m.rows.length then
          let s := s.migAbandon c t false
          if m.back then s else s.inc rCTX_RDT_REFUSED 31 0
        else
          let s := s.updEtab c t (fun e => { e with
            mig := some { m with phase := 1, slots := slots }
            redirects := if m.back then e.redirects
              else (m.rows.zip slots).foldl (fun r x => r.put x.1 ⟨peer, x.2, 0⟩) e.redirects })
          let s := m.rows.foldl (fun s x =>
            let v := s.memRead c (s.ownAddr c t d x) (tRowBytes d)
            (s.noteRead c (s.ownAddr c t d x) (tRowBytes d) 0x0A).rowSend c t peer
              (s.migAddr c d { m with slots := slots } x) v.1 v.2) s
          s.migPump c t
      else s
    | _, _ => s)
/-- Another package's update to a row may have come last before it moved here, so the next one counts as a choice unless it
is a sequence of this package alone: the count may be too high and is never too low (R259). -/
def ETab.newcomers (e : ETab) (rows : List Nat) : ETab :=
  { e with lastSrc := rows.foldl (fun m x => m.put x (2 ^ 32)) e.lastSrc }
/-- TRANSFER (R393): the receiver owns the rows from now on and answers TRANSFER_ACCEPTED; the home that takes rows back keeps
forwarding until the holder's commit. -/
def execTransfer (ctx : BitVec 12) (tab : BitVec 6) (peer : Nat) (ver : BitVec 32) (rows : List Nat) (s : State) :
    Host.Outcome State Fault Refusal :=
  let c := ctx.toNat
  let t := tab.toNat
  s.live (match s.table? c t with
    | none => s
    | some d =>
      if rows.all (fun x => (s.etab c t).rowVer x == ver.toNat) = false then s
      else
        let home := s.tPkg c d (s.tHome c d (rows.headD 0)).1
        let s := s.updEtab c t (fun e =>
          if home = s.self then
            { e.newcomers rows with
              redirects := e.redirects.mapV (fun x r => if rows.contains x then { r with st := 2 } else r) }
          else
            { e.newcomers rows with
              gen := (e.gen + 1) % 2 ^ 32
              held := e.held.mapV (fun x h => if rows.contains x then (h.1, true) else h) })
        s.send (.msg peer 27 [c, t, ver.toNat]))
/-- The rows' ownership has moved away from this home: the migration commits, and the strict updates held for it go to the
holder in their turn (steps 10 and 11 of Table 09-3, R260). -/
def State.migCommit (s : State) (c t : Nat) (d : Vec) (m : Mig) : State :=
  let s := s.updEtab c t (fun e => { e with
    mig := none
    gen := (e.gen + 1) % 2 ^ 32
    redirects := e.redirects.mapV (fun x r => if m.rows.contains x then { r with st := 1 } else r) })
  let s := ((s.setVer c t m.ver).rowsVer c t m.ver m.rows).inc rCTX_MIGRATED 31 0 0 0 m.rows.length
  ((s.strictPump c t d 8).migOver c t m.ver).returnHeld c t d
/-- A holder's return commits: it gives its slots up, tells the home, and sends on what it held for the rows (R268). -/
def State.backCommit (s : State) (c t : Nat) (d : Vec) (m : Mig) : State :=
  let e := s.etab c t
  let slots := m.rows.filterMap (fun x => (e.held.find? x).map (fun h => (h.1, x)))
  let s := s.updEtab c t (fun e => { e with
    mig := none
    gen := (e.gen + 1) % 2 ^ 32
    fwdHeld := []
    held := e.held.filter (fun h => !m.rows.contains h.1)
    gone := slots.foldl (fun g x => g.put x.1 x.2) e.gone })
  let s := ((s.setVer c t m.ver).rowsVer c t m.ver m.rows).send (.msg m.peer 27 [c, t, m.ver])
  let s := e.fwdHeld.foldl (fun (s : State) u => s.updForward c t m.peer true u.1 u.2) s
  (if s.tPkg c d 0 = m.peer then s else s.migOver c t m.ver).returnHeld c t d
/-- TRANSFER_ACCEPTED (R393): the sender commits: a home redirects the rows, a holder gives its slots up and tells the home,
which clears its entries when that commit arrives. -/
def execTransferAccepted (ctx : BitVec 12) (tab : BitVec 6) (peer : Nat) (ver : BitVec 32) (s : State) :
    Host.Outcome State Fault Refusal :=
  let c := ctx.toNat
  let t := tab.toNat
  s.live (match s.table? c t with
    | none => s
    | some d =>
      let s := s.orderOver c t peer
      let gone := (s.etab c t).redirects.filter (fun r => r.2.st == 2 && r.2.peer == peer)
      let s' := if gone = [] then s
        else
          (s.updEtab c t (fun e => { e with
            gen := (e.gen + 1) % 2 ^ 32
            redirects := e.redirects.filter (fun r => !(r.2.st == 2 && r.2.peer == peer)) })).inc rCTX_MIGRATED 63 32 0 0 gone.length
      match (s.etab c t).mig with
      | some m =>
        if m.phase = 2 ∧ m.peer = peer ∧ m.ver = ver.toNat then
          if m.back then s.backCommit c t d m else s.migCommit c t d m
        else s'
      | none => s')

/-! ### Ownership decided by the leader (R267, R394) -/

/-- The leader's decision about a row takes effect at its home and at its holder: an owning home ends the redirect, one that
does not own it redirects, an owning holder serves from its slot, one that does not own gives it up. -/
def State.ownerRow (s : State) (st owner ver : Nat) : State :=
  let c := st / 2 ^ 46
  let t := st / 2 ^ 40 % 64
  let x := st % 2 ^ 40
  match s.table? c t with
  | none => s
  | some d =>
    if 4096 ≤ c then s
    else
      let home := s.tPkg c d (s.tHome c d x).1 == s.self
      let here := owner == s.pkg
      let s := s.updEtab c t (fun e =>
        if home then
          { e with redirects := if here then e.redirects.filter (fun r => r.1 != x)
                                else e.redirects.mapV (fun y r => if y = x then { r with st := 1 } else r) }
        else if here then { e with held := e.held.mapV (fun y h => if y = x then (h.1, true) else h) }
        else { e with held := e.held.filter (fun h => h.1 != x) })
      s.rowsVer c t ver [x]

/-! ### TABLE_SET (R247, R249) -/

/-- TABLE_SET (R247, R249): its status and the state. -/
def State.tableSet (s : State) (c : Nat) (d : Vec) : Nat × State :=
  let t := fieldOf d 18 1 % 64
  let units := fieldOf d 22 2 % 2048
  let g := s.seg? c (tSeg d)
  if tShard d = 3 ∨ 7 < tFormat d ∨ units = 0 ∨ 1024 < units ∨ tRows d = 0 ∨ 65536 < tSpare d ∨
      (1 ≤ tImb d ∧ tImb d ≤ 16) ∨ tMigMax d = 0 ∨ 16384 < tMigMax d ∨
      (tShard d = 1 ∧ tRange d * s.tP c d < tRows d) ∨
      (tMigEn d ∧ tSpare d = 0) ∨
      (match g with | some g => decide (g.placement = 2) || (tMigEn d && g.tier == 1) | none => false) = true then (stMalformed, s)
  else
    match g with
    | none => (stBounds, s)
    | some g =>
      if g.limit < tBase d + (s.tCap c d + tSpare d) * tRowBytes d then (stBounds, s)
      else if s.tableBusy c t then (stBusy, s)
      else
        match s.table? c t with
        | some old =>
          if sameTable old d then
            let s := s.updCtx c (fun x => { x with tables := x.tables.upd t (fun y => { y with d := d }) })
            (stOK, s.returnHeld c t d)
          else if (s.etab c t).redirects ≠ [] then (stState, s)
          else
            let s := s.preDrop c t
            let keep := (s.emb.staged.getD c []).filter (fun e => decide (e.1 / 2 ^ 40 ≠ t))
            let s := { s with emb := { s.emb with staged := s.emb.staged.put c keep } }
            (stOK, (s.updCtx c (fun x => { x with tables := x.tables.put t ⟨d, 0⟩ })).updEtab c t (fun _ => .zero))
        | none => (stOK, (s.updCtx c (fun x => { x with tables := x.tables.put t ⟨d, 0⟩ })).updEtab c t (fun _ => .zero))

end Sys2Proof.Machine
end

