-- ==== Sys2Proof/Machine/Sha.lean ====
section
/-! DEFINITION. SHA-256 (FIPS 180-4), as the manual names it for extent and vintage hashes, signed images and choices
(R181, R404), over numbers of 32 bits that are lanes of wider ones. -/

namespace Sys2Proof.Machine

/-- Cut a number to 32 bits. -/
def low32 (x : Nat) : Nat := x % 2 ^ 32
/-- A 32-bit number turned right by `n`. -/
def turn (n x : Nat) : Nat := low32 ((x * (2 ^ 32 + 1)) >>> n)
/-- Three turns of a number, joined by exclusive or. -/
def turn3 (a b c x : Nat) : Nat := turn a x ^^^ turn b x ^^^ turn c x
/-- The 64 round constants, eight to a 256-bit number, the first in its highest lane. -/
def shaRows : List Nat :=
  [0x428a2f9871374491b5c0fbcfe9b5dba53956c25b59f111f1923f82a4ab1c5ed5,
   0xd807aa9812835b01243185be550c7dc372be5d7480deb1fe9bdc06a7c19bf174,
   0xe49b69c1efbe47860fc19dc6240ca1cc2de92c6f4a7484aa5cb0a9dc76f988da,
   0x983e5152a831c66db00327c8bf597fc7c6e00bf3d5a7914706ca635114292967,
   0x27b70a852e1b21384d2c6dfc53380d13650a7354766a0abb81c2c92e92722c85,
   0xa2bfe8a1a81a664bc24b8b70c76c51a3d192e819d6990624f40e3585106aa070,
   0x19a4c1161e376c082748774c34b0bcb5391c0cb34ed8aa4a5b9cca4f682e6ff3,
   0x748f82ee78a5636f84c878148cc7020890befffaa4506cebbef9a3f7c67178f2]
/-- The `n` lanes of a number, highest first. -/
def lanes32 : (n x : Nat) → List Nat
  | 0, _ => []
  | n + 1, x => low32 (x >>> (32 * n)) :: lanes32 n x
/-- The chaining value before the first block: eight lanes. -/
def shaSeed : Nat := 0x6a09e667bb67ae853c6ef372a54ff53a510e527f9b05688c1f83d9ab5be0cd19
/-- The number that bytes spell, the most significant first. -/
def beNat (bs : List Byte) : Nat := bs.foldl (fun n b => n * 256 + b.toNat) 0
/-- The message schedule, newest first: `n` words more than the sixteen of the block. -/
def schedule : (n : Nat) → List Nat → List Nat
  | 0, w => w
  | n + 1, w =>
    let x := w.getD 14 0
    let y := w.getD 1 0
    schedule n (low32 (w.getD 15 0 + w.getD 6 0 + (turn 7 x ^^^ turn 18 x ^^^ x / 2 ^ 3) + (turn 17 y ^^^ turn 19 y ^^^ y / 2 ^ 10)) :: w)
/-- The eight working variables. -/
structure ShaVars where
  a : Nat
  b : Nat
  c : Nat
  d : Nat
  e : Nat
  f : Nat
  g : Nat
  h : Nat
/-- One round, `kw` being the sum of its constant and its word of the schedule. -/
def ShaVars.round (v : ShaVars) (kw : Nat) : ShaVars :=
  let choose := v.g ^^^ (v.e &&& (v.f ^^^ v.g))
  let most := (v.a &&& v.b) ||| (v.c &&& (v.a ||| v.b))
  let t := v.h + kw + turn3 6 11 25 v.e + choose
  ⟨low32 (t + turn3 2 13 22 v.a + most), v.a, v.b, v.c, low32 (v.d + t), v.e, v.f, v.g⟩
/-- The working variables as eight lanes. -/
def ShaVars.list (v : ShaVars) : List Nat := [v.a, v.b, v.c, v.d, v.e, v.f, v.g, v.h]
/-- The working variables that eight lanes hold. -/
def ShaVars.ofNat (x : Nat) : ShaVars :=
  let l (i : Nat) : Nat := low32 (x >>> (32 * (7 - i)))
  ⟨l 0, l 1, l 2, l 3, l 4, l 5, l 6, l 7⟩
/-- Compress one block of 64 bytes into the chaining value. -/
def shaStep (h : Nat) (block : List Byte) : Nat :=
  let v := ShaVars.ofNat h
  let w := (schedule 48 (lanes32 16 (beNat block)).reverse).reverse
  let kw := List.zipWith (· + ·) (shaRows.flatMap (lanes32 8)) w
  (List.zipWith (· + ·) v.list (kw.foldl ShaVars.round v).list).foldl (fun n x => n * 2 ^ 32 + low32 x) 0
/-- Compress `n` blocks. -/
def shaRun : (n : Nat) → Nat → List Byte → Nat
  | 0, h, _ => h
  | n + 1, h, bs => shaRun n (shaStep h (bs.take 64)) (bs.drop 64)
/-- A message with its end mark, zeros and length in bits: whole blocks. -/
def shaMsg (m : List Byte) : List Byte :=
  m ++ 0x80#8 :: (List.replicate ((119 - m.length % 64) % 64) 0#8 ++ (leBytes 8 (8 * m.length)).reverse)
/-- SHA-256 of a message as a number whose most significant byte is the digest's first. -/
def shaNat (m : List Byte) : Nat := let p := shaMsg m; shaRun (p.length / 64) shaSeed p
/-- SHA-256 of a message: 32 bytes. -/
def sha256 (m : List Byte) : List Byte := (leBytes 32 (shaNat m)).reverse

end Sys2Proof.Machine
end

