-- ==== Sys2Proof/Machine/Publish.lean ====
section
/-! DEFINITION. Vintages and the publish path: what a publish or counter descriptor is checked for when it is consumed, and
what the hub does when it runs it (R164, R166, R179 to R185). -/

namespace Sys2Proof.Machine

/-! ### Fields (Table 06-8) -/

/-- VINTAGE. -/
def pVint (d : Vec) : Nat := fieldOf d 16 4
/-- INDEX. -/
def pIndex (d : Vec) : Nat := fieldOf d 20 4
/-- SOURCE, HASH_DEST and FIRST. -/
def pAddr (d : Vec) : Nat := fieldOf d 24 8
/-- FROM_VINTAGE. -/
def pFrom (d : Vec) : Nat := fieldOf d 24 4
/-- FROM_INDEX. -/
def pFromIdx (d : Vec) : Nat := fieldOf d 28 4
/-- SEGMENT of COUNTER_READ. -/
def pSeg (d : Vec) : Nat := fieldOf d 16 1 % 16
/-- CLEAR. -/
def pClear (d : Vec) : Bool := bitOf (fieldOf d 16 1) 4
/-- COUNT. -/
def pCount (d : Vec) : Nat := fieldOf d 32 4
/-- DEST. -/
def pDest (d : Vec) : Nat := fieldOf d 40 8

/-! ### Vintages and extents (R164, R172, R179, R185) -/

/-- Key of a vintage: composition tag and number. -/
def vintKey (comp num : Nat) : Nat := comp * 2 ^ 32 + num
/-- A vintage. -/
def State.vint? (s : State) (comp num : Nat) : Option Vint := s.cel.vints.find? (vintKey comp num)
/-- Change a vintage. -/
def State.updVint (s : State) (k : Nat) (f : Vint → Vint) : State := { s with cel := { s.cel with vints := s.cel.vints.upd k f } }
/-- Extents of a stripe set (R172). -/
def State.celHalf (s : State) : Nat := max 1 (s.celD / 2)
/-- Stripe sets that every slot's module holds. -/
def State.celSets (s : State) : Nat :=
  ((List.range s.celN).map s.slotSets).foldl min (2 ^ 22)
/-- Cellar extents charged to a composition, those of consumed descriptors included (Table 06-4). -/
def State.celUsed (s : State) (comp : Nat) : Nat :=
  (s.cel.exts.filter (fun e => e.2.comp = comp)).length +
    ((s.cel.vints.filter (fun v => v.2.comp = comp)).map (fun v => v.2.coming)).sum
/-- Cellar extent quota of a composition; the system has none (Table 06-4). -/
def State.celQuota (s : State) (comp : Nat) : Nat :=
  if comp = 0 then 2 ^ 40 else ((s.partOf comp).map (·.cellar)).getD 0
/-- Stripe sets a vintage still takes for `n` further extents of its own. -/
def Vint.setsFor (v : Vint) (half n : Nat) : Nat := (v.own + v.coming + n + half - 1) / half - v.sets.length
/-- Whether `n` further extents of a vintage find stripe sets (R164). -/
def State.setsFit (s : State) (k n : Nat) : Bool :=
  let need := (s.cel.vints.map (fun v => v.2.setsFor s.celHalf (if v.1 = k then n else 0))).sum
  decide (s.cel.setsUsed.length + need ≤ s.celSets)
/-- Failed slots (R176). -/
def State.celFailed (s : State) : Nat :=
  ((List.range s.celN).filter (fun n => !((s.slot n).1 == 1 || (s.slot n).1 == 3))).length
/-- Whether a segment binds a vintage (R180, R196). -/
def State.vintBound (s : State) (comp num : Nat) : Bool :=
  s.ctxs.any (fun e => s.compOf e.1 == comp && e.2.segs.any (fun g => g.2.tier == 1 && g.2.present && g.2.vintage == num))
/-- A free stripe set; which one is left open (R164). -/
def State.pickSet (s : State) : Nat :=
  let from_ := Config.allocPick s.nonce % max 1 s.celSets
  match (List.range (s.celSets - from_)).find? (fun i => !s.cel.setsUsed.contains (from_ + i)) with
  | some i => from_ + i
  | none => (leastBelow s.celSets (fun i => !s.cel.setsUsed.contains i)).getD 0
/-- Place one more extent of a vintage: the next place of its last stripe set, or the first of a new one. -/
def State.takeExt (s : State) (k : Nat) (v : Vint) : Nat × State :=
  let half := s.celHalf
  if v.own % half = 0 then
    let set := s.pickSet
    let e := set * half
    (e, ({ s with cel := { s.cel with setsUsed := s.cel.setsUsed.add set, exts := s.cel.exts.put e ⟨v.comp, 1, false, 0⟩ } }.updVint
      k (fun v => { v with own := v.own + 1, sets := v.sets ++ [set] })).tick)
  else
    let e := v.sets.getLastD 0 * half + v.own % half
    (e, { s with cel := { s.cel with exts := s.cel.exts.put e ⟨v.comp, 1, false, 0⟩ } }.updVint k (fun v => { v with own := v.own + 1 }))
/-- Trim a stripe set on every slot that a module serves (R185). -/
def State.trimSet (s : State) (set : Nat) : State :=
  (List.range s.celN).foldl (fun s n =>
    if (s.slot n).1 = 1 ∨ (s.slot n).1 = 3 then s.celTrim (s.slot n).2 (256 * set) 256 else s) s
/-- A vintage lets go of an extent: the last one frees it, and the last of a stripe set returns and trims the set (R185). -/
def State.dropExt (s : State) (trim : Bool) (e : Nat) : State :=
  let x := s.cext e
  if !s.cel.exts.has e then s
  else if 1 < x.refs then s.updCext e (fun x => { x with refs := x.refs - 1 })
  else
    let s := { s with cel := { s.cel with exts := s.cel.exts.del e } }
    let set := e / s.celHalf
    if (List.range s.celHalf).any (fun i => s.cel.exts.has (set * s.celHalf + i)) then s
    else
      let s := { s with cel := { s.cel with setsUsed := s.cel.setsUsed.rem set } }
      if trim then s.trimSet set else s
/-- Free a vintage: its slot returns, and so do the extents no other vintage references (Table 06-7). -/
def State.freeVint (s : State) (k : Nat) : State :=
  match s.cel.vints.find? k with
  | none => s
  | some v =>
    let unwritten := v.area.map Prod.fst
    let s := { s with cel := { s.cel with vints := s.cel.vints.del k } }
    (v.exts ++ v.pads).foldl (fun s e => s.dropExt (!unwritten.contains e) e) s
/-- A kernel or a waiting share lets go of a vintage; a Retiring one without pins is freed (R180, Table 06-7). -/
def State.unpinVint (s : State) (k : Nat) : State :=
  let s := s.updVint k (fun v => { v with pins := v.pins - 1 })
  match s.cel.vints.find? k with
  | some v => if v.st = 2 ∧ v.pins = 0 then s.freeVint k else s
  | none => s

/-! ### Checks at queue time (R182, Table 06-8) -/

/-- Whether a vintage takes further publish descriptors. -/
def Vint.takes (v : Vint) : Bool := v.st == 0 && !v.closing
/-- Check a publish or counter descriptor at its consumption, and make the allocations that go with it (R164, R182). -/
def State.pubTake (s : State) (c op : Nat) (d : Vec) : Nat × State :=
  let comp := s.compOf c
  let k := vintKey comp (pVint d)
  let v? := s.cel.vints.find? k
  let used := s.celUsed comp
  if op = 0x16 then
    if pCount d = 0 then (stOK, s)
    else if pAddr d % 2 ^ 21 ≠ 0 then (stMalformed, s)
    else
      match s.seg? c (pSeg d) with
      | none => (stBounds, s)
      | some g =>
        if g.limit ≤ pAddr d + (pCount d - 1) * 2 ^ 21 then (stBounds, s)
        else ((s.larderCheck c (pDest d) (4 * pCount d) permW).getD stOK, s)
  else if !s.hasCellar then (stNoCellar, s)
  else if op = 0x10 then
    if pVint d ≤ s.cel.opened.getD comp 0 ∧ s.cel.opened.has comp then (stState, s)
    else if comp ≠ 0 ∧ ((s.partOf comp).map (·.vintages)).getD 0 ≤ (s.cel.vints.filter (fun v => v.2.comp = comp)).length then
      (stQuota, s)
    else if 64 ≤ s.cel.vints.length ∨ 4 ≤ (s.cel.vints.filter (fun v => v.2.st = 0)).length then (stNoSpace, s)
    else
      let v : Vint := { comp := comp, num := pVint d, st := 0, exts := [], pads := [], hashes := [], area := [], sets := [],
                        hash := 0, pins := 0, acks := 0, ending := 0, own := 0, coming := 0, planned := 0, closing := false,
                        bad := false }
      (stOK, { s with cel := { s.cel with vints := s.cel.vints.put k v, opened := s.cel.opened.put comp (pVint d) } })
  else
    match v? with
    | none => (stState, s)
    | some v =>
      if op = 0x11 then
        if !v.takes || decide (pIndex d ≠ v.planned) then (stState, s)
        else
          match s.larderCheck c (pAddr d) (2 ^ 21) permR with
          | some e => (e, s)
          | none =>
            if s.celQuota comp ≤ used then (stQuota, s)
            else if !s.setsFit k 1 then (stNoSpace, s)
            else if 3 ≤ s.celFailed then (stMedia, s)
            else (stOK, s.updVint k (fun v => { v with coming := v.coming + 1, planned := v.planned + 1 }))
      else if op = 0x12 then
        if !v.takes || decide (pIndex d ≠ v.planned) then (stState, s)
        else
          match s.vint? comp (pFrom d) with
          | none => (stState, s)
          | some f =>
            if f.st = 0 then (stState, s)
            else if f.exts.length ≤ pFromIdx d then (stBounds, s)
            else
              (stOK, (s.updVint (vintKey comp (pFrom d)) (fun f => { f with pins := f.pins + 1 })).updVint k (fun v =>
                { v with planned := v.planned + 1 }))
      else if op = 0x13 then
        let pads := (s.celHalf - (v.own + v.coming) % s.celHalf) % s.celHalf
        if !v.takes then (stState, s)
        else
          match s.larderCheck c (pAddr d) 40 permW with
          | some e => (e, s)
          | none =>
            if s.celQuota comp < used + pads then (stQuota, s)
            else (stOK, s.updVint k (fun v => { v with coming := v.coming + pads, closing := true }))
      else if op = 0x14 then
        if !v.takes then (stState, s) else (stOK, s.updVint k (fun v => { v with closing := true }))
      else if v.st ≠ 1 then (stState, s)
      else if s.vintBound comp (pVint d) then (stBound, s)
      else (stOK, s.updVint k (fun v => { v with st := 2 }))

/-! ### Writing a stripe set (R173, R183) -/

/-- Data sector `l` of a stripe set from its extents' bytes. -/
def setSector (exts : List (List Byte)) (l : Nat) : List Byte :=
  ((exts.getD (l / 512) []).drop (l % 512 * 4096)).take 4096
/-- Sector of a row at a row position: data, P or Q. -/
def rowSector (d : Nat) (exts : List (List Byte)) (row pos : Nat) : List Byte :=
  let ds := (List.range d).map (fun j => setSector exts (row * d + j))
  if pos < d then ds.getD pos [] else if pos = d then parityP ds else parityQ ds
/-- Write a full stripe set of a vintage to every slot a module serves, row by row; with three failed slots nothing is written
and its extents are poisoned (R173, R176, R183). -/
def State.writeSet (s : State) (k set : Nat) (exts : List (List Byte)) : State :=
  if 3 ≤ s.celFailed then (List.range 256).foldl (fun s r => s.poisonRow set r) s
  else (List.range 256).foldl (fun s row => (List.range (s.celD + 2)).foldl (fun s pos =>
    let n := stripeSlot s.celN set row pos
    if (s.slot n).1 = 1 ∨ (s.slot n).1 = 3 then
      (s.celWrite (s.slot n).2 (stripeSector set row) (rowSector s.celD exts row pos) (k + 1)).updVint k (fun v =>
        { v with acks := v.acks + 1 })
    else s) s) s
/-- Write the vintage's stripe set when all its extents are held (R183). -/
def State.flushSet (s : State) (k : Nat) : State :=
  match s.cel.vints.find? k with
  | none => s
  | some v =>
    if v.area.length = s.celHalf then
      (s.updVint k (fun v => { v with area := [] })).writeSet k (v.sets.getLastD 0) (v.area.map Prod.snd)
    else s

/-! ### Running (R166, R183, R184) -/

/-- The hub-order descriptor that the hub runs next in a context. -/
def State.hubFront (s : State) (c : Nat) : Option QDesc := (s.ctx c).queue.find? (fun q => isHubOp q.op)
/-- A hub-order descriptor leaves its queue and completes. -/
def State.hubDone (s : State) (c : Nat) (q : QDesc) (r : Result) : State :=
  (s.updCtx c (fun x => { x with queue := dropFirst (fun y => decide (y = q)) x.queue, hubOn := false })).complete c q r
/-- Mark the first hub-order descriptor begun. -/
def State.hubBegin (s : State) (c : Nat) : State := s.updCtx c (fun x => { x with hubOn := true })
/-- PUBLISH_EXTENT reads its source, once, and holds it in the publish area (R183, R418). -/
def State.runExtent (s : State) (c k : Nat) (q : QDesc) : State :=
  let fail (s : State) (st : Nat) := (s.updVint k (fun v =>
    { v with coming := v.coming - 1, planned := v.exts.length })).hubDone c q { status := st }
  match s.cel.vints.find? k with
  | none => s.hubDone c q { status := stState }
  | some v =>
    if v.st ≠ 0 ∨ v.ending ≠ 0 ∨ v.exts.length ≠ pIndex q.d then fail s stState
    else
      let s := if (s.ctx c).hubOn then s else (s.asOf c q.segs (fun s => s.hubWant c (pAddr q.d) (2 ^ 21))).hubBegin c
      let v' := s.seen c q.segs
      if !v'.hubHere c (pAddr q.d) (2 ^ 21) then s
      else
        let r := v'.memRead c (pAddr q.d) (2 ^ 21)
        let s := s.asOf c q.segs (fun s => (s.noteRead c (pAddr q.d) (2 ^ 21) 0x0B).hubDrop c (pAddr q.d) (2 ^ 21))
        if r.2 || decide (3 ≤ s.celFailed) then fail s stMedia
        else
          let (e, s) := s.takeExt k v
          let s := s.updVint k (fun v => { v with
            coming := v.coming - 1
            exts := v.exts ++ [e]
            hashes := v.hashes ++ [leNat (sha256 r.1)]
            area := v.area ++ [(e, r.1)] })
          (s.flushSet k).hubDone c q { status := stOK }
/-- PUBLISH_SHARE adds a reference to an existing extent (R183). -/
def State.runShare (s : State) (c comp k : Nat) (q : QDesc) : State :=
  let fk := vintKey comp (pFrom q.d)
  match s.cel.vints.find? k, s.cel.vints.find? fk with
  | some v, some f =>
    if v.st ≠ 0 ∨ v.ending ≠ 0 ∨ v.exts.length ≠ pIndex q.d then
      ((s.updVint k (fun v => { v with planned := v.exts.length })).unpinVint fk).hubDone c q { status := stState }
    else
      let e := f.exts.getD (pFromIdx q.d) 0
      let s := (s.updCext e (fun x => { x with refs := x.refs + 1 })).updVint k (fun v =>
        { v with exts := v.exts ++ [e], hashes := v.hashes ++ [f.hashes.getD (pFromIdx q.d) 0] })
      (s.unpinVint fk).hubDone c q { status := stOK }
  | _, _ => (s.unpinVint fk).hubDone c q { status := stState }
/-- One padding extent of zeros (R184). -/
def State.padOne (s : State) (k : Nat) : State :=
  match s.cel.vints.find? k with
  | none => s
  | some v =>
    let (e, s) := s.takeExt k v
    s.updVint k (fun v => { v with
      coming := v.coming - 1
      pads := v.pads ++ [e]
      area := v.area ++ [(e, List.replicate (2 ^ 21) 0)] })
/-- The contexts whose running seal or abort is of a vintage. -/
def State.endingCtx (s : State) (k : Nat) : Option (Nat × QDesc) :=
  (s.ctxs.filterMap (fun e => match s.hubFront e.1 with
    | some q => if e.2.hubOn && (q.op == 0x13 || q.op == 0x14) && vintKey (s.compOf e.1) (pVint q.d) == k then some (e.1, q) else none
    | none => none)).head?
/-- Every acknowledgement of an ending vintage is here: it becomes Sealed with its hash written, or is freed (R184). -/
def State.endVint (s : State) (k : Nat) : State :=
  match s.cel.vints.find? k, s.endingCtx k with
  | some v, some (c, q) =>
    if v.ending = 0 ∨ v.acks ≠ 0 then s
    else if v.ending = 2 then (s.freeVint k).hubDone c q { status := stOK }
    else
      let s := if v.ending = 3 then s else
        let h := sha256 (v.hashes.flatMap (leBytes 32))
        (s.asOf c q.segs (fun s => s.hubWrite c (pAddr q.d) (h ++ leBytes 8 v.exts.length))).updVint k (fun v => { v with ending := 3, hash := leNat h })
      if s.hubWrites c then s
      else (s.updVint k (fun v => { v with st := 1, ending := 0, closing := false, area := [] })).hubDone c q { status := stOK }
  | _, _ => s
/-- PUBLISH_SEAL fills and writes the last stripe set, and waits for every WRITE_ACK (R184). -/
def State.runSeal (s : State) (c k : Nat) (q : QDesc) : State :=
  match s.cel.vints.find? k with
  | none => s.hubDone c q { status := stState }
  | some v =>
    if v.ending ≠ 0 then s.endVint k
    else
      let pads := (s.celHalf - v.own % s.celHalf) % s.celHalf
      let s := (List.range pads).foldl (fun s _ => s.padOne k) s
      let s := (s.flushSet k).hubBegin c
      (s.updVint k (fun v => { v with ending := 1 })).endVint k
/-- PUBLISH_ABORT discards the publish area, waits for writes outstanding, trims and frees (R184). -/
def State.runAbort (s : State) (c k : Nat) (q : QDesc) : State :=
  match s.cel.vints.find? k with
  | none => s.hubDone c q { status := stState }
  | some v =>
    if v.ending ≠ 0 then s.endVint k
    else ((s.hubBegin c).updVint k (fun v => { v with ending := 2 })).endVint k
/-- Larder page or Cellar extent that a 2 MiB piece of a segment's offsets counts on; pieces of an interleaved segment name
its pages die by die (DEDUCED, log entry 61). -/
def State.counterAt (s : State) (c gi piece : Nat) : Option (Nat × Nat) :=
  let own := match s.rootOf c (gi * 2 ^ 60) with
    | some (oc, og, o) => (s.seg? oc og).map (fun (x : Seg) => { x with base := x.base + o })
    | none => none
  match own with
  | none => none
  | some g =>
    let comp := s.compOf c
    let vext (o : Nat) := match s.cel.vints.find? (vintKey comp g.vintage) with
      | some v => (v.exts[o]?).map (fun e => (1, e))
      | none => none
    let page (die idx : Nat) := (g.pages.find? (pageKey die idx)).map (fun p => (0, die * 2 ^ 17 + p))
    let b := g.base / 2 ^ 21 + piece
    if g.placement = 2 then
      let l := s.stripe comp
      if l.getD (b % max 1 l.length) 0 ≠ s.self then none
      else
        let o := b / max 1 l.length
        if g.tier = 1 then vext o else page (o % 8) (o / 8)
    else if g.tier = 1 then vext b
    else if g.placement = 1 then page (b % 8) (b / 8)
    else page g.die b
/-- Value of a counter; pieces without one read as zero. -/
def State.counterVal (s : State) : Option (Nat × Nat) → Nat
  | some (0, p) => s.lcount.getD p 0
  | some (_, e) => (s.cext e).counter
  | none => 0
/-- Clear a counter. -/
def State.counterClear (s : State) : Option (Nat × Nat) → State
  | some (0, p) => { s with lcount := s.lcount.put p 0 }
  | some (_, e) => s.updCext e (fun x => { x with counter := 0 })
  | none => s
/-- COUNTER_READ copies, and clears, the counters (R166), and completes when what it wrote to other packages is there. -/
def State.runCounters (s : State) (c : Nat) (q : QDesc) : State :=
  let s := if (s.ctx c).hubOn then s else
    let ps := (List.range (pCount q.d)).map (fun i => (s.seen c q.segs).counterAt c (pSeg q.d) (pAddr q.d / 2 ^ 21 + i))
    let bs := ps.flatMap (fun p => leBytes 4 (s.counterVal p))
    let s := if pClear q.d then ps.foldl State.counterClear s else s
    (s.asOf c q.segs (fun s => s.hubWrite c (pDest q.d) bs)).hubBegin c
  if s.hubWrites c then s else s.hubDone c q { status := stOK }
/-- Run a publish or counter descriptor (R166, R183, R184). -/
def State.pubRun (s : State) (c : Nat) (q : QDesc) : State :=
  let comp := s.compOf c
  let k := vintKey comp (pVint q.d)
  match q.op with
  | 0x10 => s.hubDone c q { status := stOK }
  | 0x11 => s.runExtent c k q
  | 0x12 => s.runShare c comp k q
  | 0x13 => s.runSeal c k q
  | 0x14 => s.runAbort c k q
  | 0x15 =>
    let s := match s.cel.vints.find? k with
      | some v => if v.pins = 0 then s.freeVint k else s
      | none => s
    s.hubDone c q { status := stOK }
  | _ => s.runCounters c q

end Sys2Proof.Machine
end

