-- ==== Sys2Proof/Machine/Service.lean ====
section
/-! DEFINITION. Queue pairs in error, intake rings, post areas and reply sends (R270 to R280, R358, R371, R399). -/

namespace Sys2Proof.Machine

/-! ### Charge records that wait for the ledger (R399) -/

/-- Composition, sequence number and FINAL flag of a charge record (Table 15-7). -/
def chargeComp (b : List Byte) : Nat := leNat ((b.drop 4).take 4)
/-- SEQ of a charge record. -/
def chargeSeqOf (b : List Byte) : Nat := leNat (b.take 4)
/-- FINAL of a charge record. -/
def chargeFinal (b : List Byte) : Bool := bitOf (leNat ((b.drop 11).take 1)) 0
/-- Keep an unwritten record: the newest of each composition, and every FINAL one, in ascending SEQ (R399). -/
def State.chargeKeep (s : State) (b : List Byte) : State :=
  let e := (chargeComp b, chargeSeqOf b, chargeFinal b, b)
  let newer := s.map.chargeHeld.any (fun h => h.1 == e.1 && !h.2.2.1 && decide (e.2.1 < h.2.1))
  if newer && !chargeFinal b then s
  else
    let l := s.map.chargeHeld.filter (fun h => h.1 ≠ e.1 || h.2.2.1 || chargeFinal b)
    { s with map := { s.map with chargeHeld := sortBy (fun x y => decide (x.2.1 ≤ y.2.1)) (l ++ [e]) } }
/-- Write one record to the ledger; none when it cannot be written. -/
def State.chargeWrite (s : State) (b : List Byte) : Option State :=
  match s.map.ledger with
  | none => none
  | some (qp, key, va, l) =>
    (s.qpSend qp 0 (.write key (va + 512 * (chargeSeqOf b % 2 ^ l))) .ledger b).map (·.inc rCMP_CHARGE 31 0)
/-- Write the records held, in ascending SEQ, as far as the ledger works. -/
def State.chargeFlush (s : State) : State :=
  let hs := s.map.chargeHeld
  hs.foldl (fun s h => match s.chargeWrite h.2.2.2 with
    | some s' => s'
    | none => { s with map := { s.map with chargeHeld := s.map.chargeHeld ++ [h] } })
    { s with map := { s.map with chargeHeld := [] } }

/-! ### Queue pairs in error (R358, R371, R209, R280) -/

/-- SVC_SEND number `k` of a context completes (R280). -/
def State.svcDone (s : State) (c k : Nat) (ok : Bool) : State :=
  match (s.ctx c).sends.find? k with
  | none => s
  | some q =>
    let s := s.updCtx c (fun x => { x with sends := x.sends.del k })
    let s := if ok then s.inc rCTX_SVC_SENDS 31 0 else s.inc rCTX_SVC_SENDS 63 32
    s.complete c q { status := if ok then stOK else stSendErr }
/-- A message that will never be acknowledged: what it carried is held again, counted or completed. -/
def State.msgLost (s : State) (m : QpMsg) : State :=
  match m.use with
  | .cmp c h => s.cmpFailed c h
  | .notify _ => s
  | .fault c qp no =>
    ((s.updCtx c (fun x => { x with ringBad := x.ringBad || x.ringNo == no })).inc rFLT_RING_ERR 31 0).raise
      { code := 0x0900, sev := 2, comp := s.compOf c, d0 := c, d1 := qp }
  | .event => s.inc rEVR_MSG_DROP 31 0
  | .ledger => s.chargeKeep m.data
  | .svc c k => s.svcDone c k false
  | .xpod => s
/-- A queue pair enters the error state: cause and AETH syndrome as QP_ERROR gives them (R358). -/
def State.qpError (s : State) (qp cause syn : Nat) : State :=
  match s.qps.find? qp with
  | none => s
  | some q =>
    if q.err then s
    else
      let s := { s with qps := s.qps.put qp { q with err := true, unacked := [], timer := none, reads := [] } }
      let s := s.raise { code := 0x0502, sev := 2, comp := q.comp, d0 := qp, d1 := cause * 256 + syn }
      q.unacked.foldl State.msgLost s

/-! ### Host READs (R198, R418) -/

/-- Answer a host READ whose bytes are all here; poisoned ones fail the queue pair (R418). -/
def State.hostServe (s : State) (h : HostRead) : State :=
  let r := (s.hostSeen h.ctx h.segs).memRead h.ctx h.addr h.len
  let s := s.asHost h.ctx h.segs (fun s => (s.noteRead h.ctx h.addr h.len 8).hubDrop h.ctx h.addr h.len)
  let s := { s with eth := { s.eth with hostReads := s.eth.hostReads.erase h } }
  match s.qps.find? h.qp with
  | none => s
  | some q =>
    if q.err then s
    else if r.2 then (s.send (.nak h.qp h.psn 0x63)).qpError h.qp 0 0x63
    else s.send (.readRsp h.qp h.psn r.1)
/-- The first host READ that may be answered: the oldest of its queue pair, with its bytes here. -/
def State.hostReady (s : State) : Option HostRead :=
  s.eth.hostReads.find? (fun h => (s.eth.hostReads.find? (fun g => g.qp == h.qp)) == some h &&
    (s.hostSeen h.ctx h.segs).hubHere h.ctx h.addr h.len)
/-! ### Detaches (R315) -/

/-- Lines that the tracker shows the agent of an attachment holding in its segment. -/
def State.heldLines (s : State) (a : Attach) : Assoc Trk :=
  s.home.trk.filter (fun e => decide (e.2.ctx = a.ctx ∧ e.2.seg = a.seg ∧ e.2.port = a.port ∧ e.2.agent = a.agent))
/-- Recall the lines that an agent holds in a segment, but for those whose recall is under way. -/
def State.recallFrom (s : State) (a : Attach) : State :=
  (s.heldLines a).foldl (fun s e =>
    if s.home.txns.any (fun t => t.2.line == e.1 && t.2.act == .recall) then s
    else s.txnNew e.1 (s.compOf a.ctx) a.ctx a.seg e.2.off true .recall s.home.nextTxn) s
/-- A detach is done: the agent is no longer attached, which leaves the mask without its port when no other agent of the
port is, DETACHED tells it so, and the descriptor completes. -/
def State.detachEnd (s : State) (x : Leaving) : State :=
  let a := x.at_
  let s := { s with home := { s.home with leaving := s.home.leaving.erase x } }
  let s := if s.home.attach.contains a then
      let s := { s with home := { s.home with attach := s.home.attach.erase a } }
      let s := if s.isAttached a.port a.agent then s
        else { s with home := { s.home with leases := s.home.leases.del (a.port * 16 + a.agent) } }
      s.hubMsg a.port 0x0C01 (s.compOf a.ctx) a.ctx
        (leBytes 2 a.ctx ++ leBytes 1 a.seg ++ leBytes 1 a.agent ++ leBytes 4 (s.compOf a.ctx))
    else s
  s.complete x.win x.q { status := stOK }
/-- Each detach ends once the tracker shows the agent holding nothing in the segment; until then its lines are recalled. -/
def State.detachPump (s : State) : State :=
  s.home.leaving.foldl (fun s x => if s.heldLines x.at_ = [] then s.detachEnd x else s.recallFrom x.at_) s
/-- A detach begins (R315). -/
def State.detachBegin (s : State) (w : Nat) (q : QDesc) (a : Attach) : State :=
  { s with home := { s.home with leaving := s.home.leaving ++ [(⟨w, q, a⟩ : Leaving)] } }.detachPump
/-- Answer the host READs whose bytes have come, in order on each queue pair, write the arrival words whose slots are
performed, and go on with the detaches under way. -/
def State.hostPump (s : State) : State :=
  let s := s.eth.hostReads.foldl (fun (s : State) _ => match s.hostReady with | some h => s.hostServe h | none => s) s
  (s.ctxs.keys.foldl State.arrivals s).detachPump

/-! ### Where a count, a ring or an area may lie (R270, R276) -/

/-- A unit of this package in a context's region set. -/
def State.flagUnit (s : State) (c loc : Nat) : Bool :=
  decide (loc / 2 ^ 20 = s.self) && s.unitOk (loc % 2 ^ 20) && s.inRegionSet c (loc % 2 ^ 20)
/-- Whether a context runs a persistent kernel. -/
def State.persists (s : State) (c : Nat) : Bool :=
  match (s.ctx c).kernel with | some k => k.q.op == 1 && dPersist k.q.d | none => false
/-- Whether any context binds a queue pair to an intake ring, and which (R270). -/
def State.intakeOf (s : State) (qp : Nat) : Option Nat := s.ctxs.findKey? (fun _ x => x.intakes.has qp)

/-! ### Intake rings (R270 to R275) -/

/-- SLOT_UNITS of SVC_INTAKE. -/
def iUnits (d : Vec) : Nat := fieldOf d 20 1 % 128
/-- SLOT_LOG2. -/
def iLog2 (d : Vec) : Nat := fieldOf d 21 1 % 32
/-- FLAG_UNIT and CUNIT: a 36-bit locator. -/
def locAt (d : Vec) (i : Nat) : Nat := fieldOf d i 5 % 2 ^ 36
/-- FLAG_OFF and COFF: a 14-bit Shelf offset. -/
def offAt14 (d : Vec) (i : Nat) : Nat := fieldOf d i 2 % 2 ^ 14
/-- An intake binding ends: the frames placed and perhaps unanswered are reported, and the arrival words of frames whose
slots are still being written stay owed (R272, R275). -/
def State.intakeEnd (s : State) (c qp : Nat) : State :=
  match (s.ctx c).intakes.find? qp with
  | none => s
  | some i =>
    let owed := if i.told < i.n then [(fieldOf i.d 40 5, fieldOf i.d 46 2 % 2 ^ 14, i.told, i.n - i.told)] else []
    (s.updCtx c (fun x => { x with intakes := x.intakes.del qp, owed := x.owed ++ owed })).raise
      { code := 0x0903, sev := 0, comp := s.compOf c, d0 := c + qp * 2 ^ 32, d1 := min i.f i.n, d2 := i.n - 1 }
/-- SVC_INTAKE (R270): its status and the state. -/
def State.svcIntake (s : State) (tc : Nat) (d : Vec) : Nat × State :=
  let qp := fieldOf d 18 2 % 2 ^ 14
  let enable := bitOf (fieldOf d 22 1) 0
  let ring := fieldOf d 24 8
  let freed := fieldOf d 32 8
  let units := iUnits d
  if !enable then
    match s.intakeOf qp with
    | some c => if s.compOf? c = s.compOf? tc then (stOK, s.intakeEnd c qp) else (stBounds, s)
    | none => (stBounds, s)
  else if units = 0 ∨ 64 < units ∨ iLog2 d < 6 ∨ 16 < iLog2 d ∨ offAt14 d 46 % 512 ≠ 0 ∨ 15872 < offAt14 d 46 ∨
      ring % 64 ≠ 0 ∨ freed % 8 ≠ 0 then (stMalformed, s)
  else
    let mine := match s.qps.find? qp with | some q => q.comp == s.compOf tc | none => false
    match firstStatus [s.larderCheck tc ring (64 * units * 2 ^ iLog2 d) permW, s.larderCheck tc freed 8 permR,
        if s.flagUnit tc (locAt d 40) && mine then none else some stBounds] with
    | some e => (e, s)
    | none =>
      if !s.persists tc then (stState, s)
      else if (s.intakeOf qp).isSome then (stBusy, s)
      else if 16 ≤ (s.ctx tc).intakes.length then (stState, s)
      else
        let s := s.updCtx tc (fun x => { x with intakes := x.intakes.put qp ⟨qp, d, 0, 0, 0⟩ })
        (stOK, s.takeFreed tc (4 + qp))
/-- Whether a frame finds its slot free: F is the lesser of FREED and the frames placed (R273). -/
def Intake.room (i : Intake) : Bool := decide (i.n < min i.f i.n + 2 ^ iLog2 i.d)
/-- Place a frame: its slot, and its arrival word once the slot is performed (R271, R272). -/
def State.placeFrame (s : State) (c qp : Nat) (i : Intake) (imm : Nat) (data : List Byte) : State :=
  let slot := fieldOf i.d 24 8 + 64 * iUnits i.d * (i.n % 2 ^ iLog2 i.d)
  let s := s.hubWrite c slot (leBytes 4 data.length ++ leBytes 4 imm ++ leBytes 8 s.count ++ data)
  let s := s.updCtx c (fun x => { x with intakes := x.intakes.upd qp (fun i => { i with n := i.n + 1 }) })
  (s.arrivals c).inc rCTX_SVC_FRAMES 63 0
/-- What becomes of a SEND that a queue pair receives: 0 placed or empty, 1 receiver not ready, 2 invalid request (R271,
R273, R274). -/
def State.takeFrame (s : State) (qp : Nat) (imm : Option (BitVec 32)) (data : List Byte) : Nat × State :=
  match s.intakeOf qp with
  | none => (1, s.inc rCTX_SVC_RNR 31 0)
  | some c =>
    match (s.ctx c).intakes.find? qp with
    | none => (1, s)
    | some i =>
      if data = [] then (0, s)
      else if 64 * iUnits i.d - 16 < data.length then (2, s.inc rCTX_SVC_OVERSIZE 31 0)
      else if i.room then (0, s.placeFrame c qp i (match imm with | some x => x.toNat | none => 0) data)
      else (1, s.inc rCTX_SVC_RNR 31 0)
/-- A SEND that a queue pair has received whole, with its first and last PSN: acknowledged, or answered by receiver not
ready, after which it comes again, or by an invalid request, which fails the queue pair (R271, R273, R274). -/
def State.intake (s : State) (qp first last : Nat) (imm : Option (BitVec 32)) (data : List Byte) : State :=
  match s.takeFrame qp imm data with
  | (0, s) => { s with qps := s.qps.upd qp (fun q => { q with rqPsn := (last + 1) % 2 ^ 24 }) }.send (.ack qp last)
  | (1, s) => s.send (.nak qp first 0x20)
  | (_, s) => (s.send (.nak qp first 0x61)).qpError qp 0 0x61
/-- INTAKE_FRAME (R271 to R274): the last packet of a SEND is accepted on a bound queue pair. -/
def execIntakeFrame (qp : BitVec 14) (imm : Option (BitVec 32)) (data : List (BitVec 8)) (s : State) :
    Host.Outcome State Fault Refusal :=
  s.live (match s.qps.find? qp.toNat with
    | some q =>
      if (s.intakeOf qp.toNat).isNone ∨ q.err then s
      else s.intake qp.toNat q.rqPsn ((q.rqPsn + q.packets data.length - 1) % 2 ^ 24) imm data
    | none => s)

/-! ### Post areas (R276 to R279) -/

/-- AREA_NO and ENABLE of SVC_POST. -/
def aNo (d : Vec) : Nat := fieldOf d 20 1 % 4
/-- DEST of SVC_POST. -/
def aDest (d : Vec) : Nat := fieldOf d 18 2 % 4096
/-- SVC_POST (R276): its status and the state. -/
def State.svcPost (s : State) (tc : Nat) (d : Vec) : Nat × State :=
  let area := fieldOf d 24 8
  let cring := fieldOf d 32 8
  let cfreed := fieldOf d 40 8
  let dest := aDest d
  if !bitOf (fieldOf d 20 1) 2 then
    (stOK, s.updCtx tc (fun x => { x with posts := x.posts.upd (aNo d) (fun p => { p with on := false }) }))
  else if offAt14 d 54 % 512 ≠ 0 ∨ 15872 < offAt14 d 54 ∨ area % 65536 ≠ 0 ∨ cring % 64 ≠ 0 ∨ cfreed % 8 ≠ 0 then
    (stMalformed, s)
  else
    let fit := s.flagUnit tc (locAt d 48) && decide (dest ≠ tc ∧ s.compOf? dest = s.compOf? tc ∧ (s.compOf? dest).isSome)
    match firstStatus [s.larderCheck tc area 65536 permW, s.larderCheck tc cring (4096 * 32) permW,
        s.larderCheck tc cfreed 8 permR, if fit then none else some stBounds] with
    | some e => (e, s)
    | none =>
      if !s.persists tc then (stState, s)
      else if (match (s.ctx tc).posts.find? (aNo d) with | some p => p.on | none => false) then (stBusy, s)
      else
        let owed := match (s.ctx tc).posts.find? (aNo d) with
          | some p => if p.told < p.m then [(fieldOf p.d 48 5, fieldOf p.d 54 2 % 2 ^ 14, p.told, p.m - p.told)] else []
          | none => []
        let s := s.updCtx tc (fun x => { x with
          posts := x.posts.put (aNo d) ⟨d, true, 0, 0, 0, 0⟩
          owed := x.owed ++ owed })
        (stOK, s.takeFreed tc (2 ^ 20 + aNo d))

/-- Bindings and post areas of a kernel end with it (R275, R276). -/
def State.bindingsEnd (s : State) (c : Nat) : State :=
  let s := (s.ctx c).intakes.keys.foldl (fun (s : State) q => (s.intakeEnd c q).inc rCTX_SVC_ENDED 31 0) s
  s.updCtx c (fun x => { x with posts := x.posts.mapV (fun _ (p : Post) => { p with on := false }) })

/-! ### Reply sends (R280) -/

/-- TARGET of SVC_SEND, LENGTH and SOURCE. -/
def sdTarget (d : Vec) : Nat := fieldOf d 16 2 % 4096
/-- LENGTH. -/
def sdLen (d : Vec) : Nat := fieldOf d 28 4
/-- SOURCE. -/
def sdSource (d : Vec) : Nat := fieldOf d 32 8
/-- QP. -/
def sdQp (d : Vec) : Nat := fieldOf d 18 2 % 2 ^ 14
/-- Check SVC_SEND at its queue time (R280). -/
def State.sendCheck (s : State) (c : Nat) (d : Vec) : Option Nat :=
  let comp := s.compOf? c
  let bound := match s.intakeOf (sdQp d) with | some b => s.compOf? b == comp | none => false
  if 2 ^ 24 < sdLen d then some stMalformed
  else
    firstStatus [if s.compOf? (sdTarget d) == comp && bound then none else some stBounds,
      s.larderCheck (sdTarget d) (sdSource d) (sdLen d) permR]
/-- Start an SVC_SEND: its source is read, and the SEND goes out; a poisoned source fails the queue pair (R280, R418). -/
def State.svcStart (s : State) (c : Nat) (q : QDesc) : State :=
  let tc := sdTarget q.d
  let n := sdLen q.d
  if 64 ≤ (s.ctx c).sends.length then s
  else
    let s := if (s.ctx c).hubOn then s
      else (s.asOf tc q.segs (fun s => s.hubWant tc (sdSource q.d) n)).updCtx c (fun x => { x with hubOn := true })
    let v := s.seen tc q.segs
    if !v.hubHere tc (sdSource q.d) n then s
    else
      let r := v.memRead tc (sdSource q.d) n
      let s := s.asOf tc q.segs (fun s => (s.noteRead tc (sdSource q.d) n).hubDrop tc (sdSource q.d) n)
      let k := (s.ctx c).sendNo
      let s := s.updCtx c (fun x => { x with
        queue := dropFirst (fun y => decide (y = q)) x.queue
        hubOn := false
        sends := x.sends.put k q
        sendNo := k + 1 })
      if r.2 then (s.qpError (sdQp q.d) 4 0).svcDone c k false
      else
        let imm := if bitOf (fieldOf q.d 20 1) 0 then some (fieldOf q.d 24 4) else none
        match s.qpSend (sdQp q.d) (s.compOf c) (.send imm) (.svc c k) r.1 with
        | some s' => s'
        | none => s.svcDone c k false
/-- SVC_SEND_ACK (R280): the acknowledgement of the whole message has been accepted. -/
def execSvcSendAck (ctx : BitVec 12) (k : Nat) (s : State) : Host.Outcome State Fault Refusal :=
  let c := ctx.toNat
  s.live (match s.qps.findKey? (fun _ q => q.unacked.head?.any (fun m => m.use == .svc c k)) with
    | some n =>
      ({ s with qps := s.qps.upd n (fun q => { q with unacked := q.unacked.drop 1, retries := 0, rnrs := 0 }) }).svcDone c k true
    | none => s)

end Sys2Proof.Machine
end

