-- ==== Sys2Proof/Machine/CellarRows.lean ====
section
/-! DEFINITION. The Cellar's commands: module messages and timeouts, rebuild and scrub, the Larder scrubber, and the release
of Larder pages (R162, R168 to R178, R194). -/

namespace Sys2Proof.Machine

/-! ### Tags, slots and spares (R171, R172, R176) -/

/-- One write of a vintage is durable, or will never be. -/
def State.ackVint (s : State) (vint : Nat) : State :=
  if vint = 0 then s
  else (s.updVint (vint - 1) (fun v => { v with acks := v.acks - 1 })).endVint (vint - 1)
/-- Forget a tag of a channel; what waits for one goes out. -/
def State.dropTag (s : State) (ch tag : Nat) : State :=
  ({ s with cel := { s.cel with tags := s.cel.tags.del (ch * 1024 + tag) } }).celSend ch
/-- A channel's link has left Up and discarded what it carried: WRITEs and TRIMs without a reply are sent again when it is back,
and READs time out (R171, R283; DESIGN CHOICE, log entry 62). -/
def State.celBack (s : State) (ch : Nat) : State :=
  let again := s.cel.tags.filter (fun e => e.2.ch == ch && e.2.kind != 0)
  { s with cel := { s.cel with
    tags := s.cel.tags.filter (fun e => !(e.2.ch == ch && e.2.kind != 0))
    stale := again.foldl (fun st e => st.add e.1) s.cel.stale
    unsent := again.map Prod.snd ++ s.cel.unsent } }
/-- Give a tag up before its reply has come: the reply is late (R28, R171). -/
def State.loseTag (s : State) (ch tag : Nat) : State :=
  ({ s with cel := { s.cel with tags := s.cel.tags.del (ch * 1024 + tag), stale := s.cel.stale.add (ch * 1024 + tag) } }).celSend ch
/-- Whether a slot has lost the sectors of a stripe set: it failed, or its spare holds none yet (R175, R176). -/
def State.slotLost (s : State) (n set : Nat) : Bool :=
  (s.slot n).1 == 2 || ((s.slot n).1 == 3 && decide (s.cel.cursor ≤ set))
/-- Extents of rows with three or more unreadable positions are poisoned (R176). -/
def State.poisonLost (s : State) : State :=
  s.cel.exts.foldl (fun s e =>
    let set := e.1 / s.celHalf
    if 3 ≤ ((List.range s.celN).filter (fun n => s.slotLost n set)).length ∧ e.2.poisoned = false then
      (s.updCext e.1 (fun x => { x with poisoned := true })).raise
        { code := 0x0107, sev := 2, comp := e.2.comp, oper := 0x0B, d0 := e.2.comp, d1 := e.1 }
    else s) s
/-- A present module that serves no slot becomes the hot spare when none is ready (R172, R175). -/
def State.findSpare (s : State) : State :=
  if !s.hasCellar || decide ((s.slot 16).1 = 4) then s
  else
    match leastBelow 17 (fun c => s.chanPresent c && !(s.chan c).failed &&
        !(List.range s.celN).any (fun n => (s.slot n).2 == c && ((s.slot n).1 == 1 || (s.slot n).1 == 3))) with
    | some c => (s.setSlot 16 4 c).tryRebuild
    | none => s

/-! ### The rebuild (R175, R177) -/

/-- Row position that a slot holds (R173). -/
def State.slotPos (s : State) (n set row : Nat) : Nat := (n + s.celN * (set + row) - set - row) % max 1 s.celN
/-- Key of the row position that the rebuild is at. -/
def State.rbKey (s : State) (n : Nat) : Nat := rebuildKey s.cel.cursor s.cel.rbRow (s.slotPos n s.cel.cursor s.cel.rbRow)
/-- The rebuild's row is done: its sector, when there is one, goes to the spare, and the rebuild is at the next row; the last one of
the last set makes the slot healthy (R175). -/
def State.rebuildNext (s : State) (n : Nat) (v : Option (List Byte)) : State :=
  let s := match v with
    | some bs => s.celWrite (s.slot n).2 (stripeSector s.cel.cursor s.cel.rbRow) bs 0
    | none => s
  let s := { s with cel := { s.cel with fetch := s.cel.fetch.del (s.rbKey n) } }
  if s.cel.rbRow < 255 then { s with cel := { s.cel with rbRow := s.cel.rbRow + 1 } }
  else if s.cel.cursor + 1 < s.celSets then { s with cel := { s.cel with rbRow := 0, cursor := s.cel.cursor + 1 } }
  else
    let sets := s.celSets
    let s := { s with cel := { s.cel with rbRow := 0, rbGoal := 0, cursor := 0, rebuild := none } }
    ((s.setSlot n 1 (s.slot n).2).raise { code := 0x0601, sev := 0, d0 := n, d1 := sets }).tryRebuild.findSpare
/-- Go on with the rebuild within this period's share (R177). -/
def State.rebuildPump : Nat → State → State
  | 0, s => s
  | fuel + 1, s =>
    match s.cel.rebuild with
    | none => s
    | some n =>
      match s.cel.fetch.find? (s.rbKey n) with
      | some f =>
        match f.got with
        | none => s
        | some v => State.rebuildPump fuel (s.rebuildNext n v)
      | none =>
        if s.cel.cursor < s.cel.rbGoal then State.rebuildPump fuel (s.startRecon (s.rbKey n) false []) else s
/-- Steps that this period's share may still take. -/
def State.rebuildFuel (s : State) : Nat := 512 * (s.cel.rbGoal + 1 - s.cel.cursor)

/-! ### The scrubber (R178) -/

/-- The scrubber goes to the next row. -/
def State.scrubNext (s : State) : State :=
  if s.cel.scRow < 255 then { s with cel := { s.cel with scrub := none, scRow := s.cel.scRow + 1 } }
  else { s with cel := { s.cel with scrub := none, scRow := 0, scLeft := s.cel.scLeft - 1,
                                    scrubCursor := (s.cel.scrubCursor + 1) % max 1 s.celSets } }
/-- Read the row that the scrubber is at; a row with a position that cannot be read is not checked (DESIGN CHOICE, log entry
62). -/
def State.scrubStart (s : State) : State :=
  let set := s.cel.scrubCursor
  let ps := s.rowReads set s.cel.scRow []
  if ps.length < s.celN then s.scrubNext
  else ps.foldl (fun s p => s.rowRead1 scrubKey set s.cel.scRow p) { s with cel := { s.cel with scrub := some [] } }
/-- Go on with the scrub within this period's share. -/
def State.scrubPump : Nat → State → State
  | 0, s => s
  | fuel + 1, s =>
    if s.cel.scLeft = 0 ∨ s.cel.scrub.isSome = true then s else State.scrubPump fuel s.scrubStart
/-- A position of the row under check is here: with the last one P and Q are checked; a wrong sector is rewritten and reported,
and a row without one that the syndromes identify poisons its extents (R178). -/
def State.scrubGot (s : State) (pos : Nat) (bs : List Byte) : State :=
  match s.cel.scrub with
  | none => s
  | some r =>
    let r := r.put pos bs
    let set := s.cel.scrubCursor
    let row := s.cel.scRow
    if r.length < s.celN then { s with cel := { s.cel with scrub := some r } }
    else (match rowVerdict s.celD r with
      | none => s
      | some none => s.poisonRow set row
      | some (some (p, v)) =>
        let sl := stripeSlot s.celN set row p
        (s.celWrite (s.slot sl).2 (stripeSector set row) v 0).raise { code := 0x0602, sev := 1, oper := 0, d0 := set, d1 := row, d2 := sl }
      ).scrubNext
/-- A position of the row under check cannot be read: the row is left, and the sector is reconstructed and written back
(R175). -/
def State.scrubMiss (s : State) (pos : Nat) : State :=
  if s.cel.scrub.isNone then s
  else (s.startRecon (repairKey s.cel.scrubCursor s.cel.scRow pos) true [pos]).scrubNext
/-- A READ will bring nothing. -/
def State.readMiss (s : State) (t : CTag) : State := if t.fkey = scrubKey then s.scrubMiss t.pos else s.celMiss t.fkey t.pos
/-- A READ brought its sector. -/
def State.readGot (s : State) (t : CTag) (bs : List Byte) : State := if t.fkey = scrubKey then s.scrubGot t.pos bs else s.celGot t.fkey t.pos bs
/-- Whoever waits for sectors looks again. -/
def State.sectorPump (s : State) : State :=
  let s := State.rebuildPump s.rebuildFuel s
  let s := State.scrubPump (256 * s.cel.scLeft) s
  s.celPump.searchPumpAll.embPump.hostPump

/-! ### Failed modules (R170, R175, R176) -/

/-- The requests a failed module will never answer: its reads are served by reconstruction, its writes are waited for no
longer. -/
def State.tagsLost (s : State) (ch : Nat) : State :=
  let lost := (s.cel.tags.vals ++ s.cel.unsent).filter (fun t => t.ch == ch)
  let s := { s with cel := { s.cel with
    tags := s.cel.tags.filter (fun e => decide (e.2.ch ≠ ch))
    unsent := s.cel.unsent.filter (fun t => t.ch != ch) } }
  lost.foldl (fun s t => if t.kind = 0 then s.readMiss t else if t.kind = 1 then s.ackVint t.vint else s) s
/-- Identity of a module as a partner report gives it. -/
def CChan.ident64 (c : CChan) : Nat := c.modId % 2 ^ 64
/-- A channel's module is declared failed, and departs as a partner (R170, R175, R376). -/
def State.chanFailed (s : State) (ch cause : Nat) : State :=
  if (s.chan ch).failed || !(s.chan ch).ident then s
  else
    let id := (s.chan ch).ident64
    ((s.moduleFailed ch cause).partnerDeparts 2 ch id noPartner).poisonLost.tagsLost ch |>.sectorPump
/-- The layout that Cellar discovery chooses from the modules present: 17 make the normal one, 9 to 16 the reduced one, and
one of them is the spare (R172, R460, CEL_CFG). -/
def State.celDiscover (s : State) : State :=
  let ps := (List.range 17).filter (fun c => s.chanPresent c && !(s.chan c).failed)
  let mode := if 17 ≤ ps.length then 1 else if 9 ≤ ps.length then 2 else 0
  let n := if mode = 1 then 16 else if mode = 2 then 8 else 0
  let s := s.setFld rCEL_CFG 1 0 mode
  let s := ((ps.take n).zipIdx).foldl (fun s p => s.setSlot p.2 1 p.1) s
  s.findSpare

/-- Modules that serve a slot of the saved layout and are missing at a start are failed slots (R460). -/
def State.celMissing (s : State) : State :=
  ((List.range 17).filter (fun c => !s.chanPresent c && (List.range 17).any (fun n => (s.slot n).2 == c &&
      ((s.slot n).1 % 2 == 1 || (s.slot n).1 == 4)))).foldl
    (fun (s : State) c => (s.moduleFailed c 0).poisonLost) s

/-! ### Module messages (R168 to R171) -/

/-- IDENT (R170): the module becomes present, and arrives as a partner. -/
def execIdent (ch : Fin 17) (id : BitVec 256) (sectors : BitVec 64) (_version : BitVec 16) (s : State) :
    Host.Outcome State Fault Refusal :=
  let c := ch.val
  let x := s.chan c
  s.live (if !x.up then s
    else if x.ident && !x.failed && decide (x.modId = id.toNat) then s
    else
      let s := if x.ident && !x.failed then s.chanFailed c 0
        else if !x.failed && decide (x.modId ≠ id.toNat) && decide (x.modId ≠ 0) then (s.moduleFailed c 0).poisonLost else s
      let s := s.updChan c (fun x => { x with
        ident := true
        failed := false
        modId := id.toNat
        sectors := sectors.toNat
        statusAt := s.count
        tmos := [] })
      ((s.partnerArrives 2 c (id.toNat % 2 ^ 64) noPartner).findSpare))
/-- The header of a reply: what it repeats of its command, STATUS and BAD_INDEX (Table 06-5). -/
def replyHdr (e : CelEcho) (status bad : BitVec 8) : CelHdr := ⟨status, e.tag, e.sector, e.count, bad⟩
/-- What a reply's header repeats of its command. -/
def echoOf (h : CelHdr) : CelEcho := ⟨h.tag, h.sector, h.count⟩
/-- Sectors that a reply carries (Table 06-6). -/
def celSectors (h : CelHdr) (op : Nat) : Nat :=
  if op ≠ 0x11 then 0 else if h.status = 0 then h.count.toNat else if h.status = 1 then h.bad.toNat else 0
/-- Whether a reply is malformed: a COUNT or TAG out of Table 06-5, a BAD_INDEX beyond the sectors, or other sectors than it
says. -/
def celFlawed (h : CelHdr) (op : Nat) (data : List Byte) : Bool :=
  h.count == 0 || decide (256 < h.count.toNat) || decide (1024 ≤ h.tag.toNat) ||
    (op == 0x11 && h.status == 1 && decide (h.count.toNat ≤ h.bad.toNat)) || decide (data.length ≠ 4096 * celSectors h op)
/-- ERROR answers a malformed message; its SECTOR carries the first 5 bytes of the offending header (Table 06-6). -/
def State.celError (s : State) (ch op : Nat) (h : CelHdr) : State :=
  s.celPush ch 0x3F 0 (leNat (leBytes 1 op ++ leBytes 1 h.status.toNat ++ leBytes 2 h.tag.toNat ++ leBytes 1 h.sector.toNat)) 1 []
/-- Whether a reply comes under a tag that was given up; the tag may then be used again. -/
def State.wasStale (s : State) (k : Nat) : Bool := s.cel.stale.contains k && !s.cel.tags.has k
/-- A late reply under a tag that was given up has come. -/
def State.unstale (s : State) (k : Nat) : State := { s with cel := { s.cel with stale := s.cel.stale.rem k } }
/-- READ_DATA (R168, R171, R174, R175). -/
def execReadData (ch : Fin 17) (e : CelEcho) (status bad : BitVec 8) (data : List (BitVec 8)) (s : State) :
    Host.Outcome State Fault Refusal :=
  let h := replyHdr e status bad
  let c := ch.val
  let tag := h.tag.toNat
  s.live (if celFlawed h 0x11 data then s.celError c 0x11 h
    else match s.cel.tags.find? (c * 1024 + tag) with
    | some t =>
      if t.kind ≠ 0 ∨ t.ch ≠ c then s.inc rCEL_RD_LATE 31 0
      else if (match t.expiry with | some x => decide (x < s.count) | none => false) then s.inc rCEL_RD_LATE 31 0
      else
        let s := s.dropTag c tag
        if h.status = 0 ∧ data.length = 4096 then (s.readGot t data).sectorPump
        else if h.status = 3 then (s.chanFailed c 2).readMiss t |>.sectorPump
        else (s.readMiss t).sectorPump
    | none => (s.unstale (c * 1024 + tag)).inc rCEL_RD_LATE 31 0)
/-- WRITE_ACK (R183, R184): a write that the module did not make durable fails the module (DESIGN CHOICE, log entry 62). -/
def execWriteAck (ch : Fin 17) (e : CelEcho) (status : BitVec 8) (s : State) : Host.Outcome State Fault Refusal :=
  let h := replyHdr e status 0
  let c := ch.val
  let tag := h.tag.toNat
  s.live (if celFlawed h 0x21 [] then s.celError c 0x21 h
    else match s.cel.tags.find? (c * 1024 + tag) with
    | some t =>
      if t.kind ≠ 1 then s
      else
        let s := (s.dropTag c tag).ackVint t.vint
        if h.status = 0 then s else s.chanFailed c 2
    | none => s.unstale (c * 1024 + tag))
/-- TRIM_ACK (R168, R170): a module that reports FAILED is failed. -/
def execTrimAck (ch : Fin 17) (h : CelHdr) (s : State) : Host.Outcome State Fault Refusal :=
  let c := ch.val
  let tag := h.tag.toNat
  s.live (if celFlawed h 0x29 [] then s.celError c 0x29 h
    else match s.cel.tags.find? (c * 1024 + tag) with
    | some t =>
      if t.kind ≠ 2 then s
      else
        let s := s.dropTag c tag
        if h.status = 3 then s.chanFailed c 2 else s
    | none => s.unstale (c * 1024 + tag))
/-- STATUS (R170). -/
def execStatus (ch : Fin 17) (st health spare : BitVec 8) (temp : BitVec 16) (s : State) :
    Host.Outcome State Fault Refusal :=
  let c := ch.val
  s.live (if !(s.chan c).ident then s
    else
      let s := s.updChan c (fun x => { x with
        statusAt := s.count
        health := health.toNat
        spare := spare.toNat
        temp := temp.toNat })
      if st = 3 then s.chanFailed c 2 else s)
/-- ERROR (R168): the request whose header it names will have no reply; a read is served by reconstruction (DESIGN CHOICE,
log entry 62). -/
def execError (ch : Fin 17) (hdr : BitVec 40) (s : State) : Host.Outcome State Fault Refusal :=
  let c := ch.val
  let op := hdr.toNat % 256
  let tag := bits hdr.toNat 31 16
  s.live (match s.cel.tags.find? (c * 1024 + tag) with
    | some t =>
      if 1024 ≤ tag then s
      else if t.kind = 0 ∧ op = 0x10 then ((s.dropTag c tag).readMiss t).sectorPump
      else if t.kind = 1 ∧ op = 0x20 then (s.dropTag c tag).ackVint t.vint
      else if t.kind = 2 ∧ op = 0x28 then s.dropTag c tag
      else s
    | none => s)
/-- CELLAR_READ_TIMEOUT (R170, R171): the read is served by reconstruction; 16 in 2^25 counts fail the module. -/
def execCellarReadTimeout (ch : Fin 17) (tag : BitVec 16) (s : State) : Host.Outcome State Fault Refusal :=
  let c := ch.val
  s.live (match s.cel.tags.find? (c * 1024 + tag.toNat) with
    | some t =>
      match t.expiry with
      | none => s
      | some due =>
        if t.kind ≠ 0 ∨ 1024 ≤ tag.toNat then s
        else
          let s := (s.untilDue due).loseTag c tag.toNat
          let recent := s.count :: ((s.chan c).tmos.filter (fun x => decide (s.count < x + 2 ^ 25)))
          let s := s.updChan c (fun x => { x with tmoCount := bump 16 x.tmoCount 1, tmos := recent.take 16 })
          let s := s.readMiss t
          (if 16 ≤ recent.length then s.chanFailed c 3 else s).sectorPump
    | none => s)
/-- CELLAR_STATUS_TIMEOUT (R170): four consecutive periods without a STATUS. -/
def execCellarStatusTimeout (ch : Fin 17) (s : State) : Host.Outcome State Fault Refusal :=
  let c := ch.val
  s.live (if s.chanPresent c && !(s.chan c).failed then (s.untilDue ((s.chan c).statusAt + 2 ^ 24)).chanFailed c 1 else s)
/-- CELLAR_LINK_DOWN_TIMEOUT (R170): the link of a present module has been down for 2^22 counts. -/
def execCellarLinkDownTimeout (ch : Fin 17) (s : State) : Host.Outcome State Fault Refusal :=
  let c := ch.val
  s.live (if (s.chan c).ident && !(s.chan c).up && !(s.chan c).failed then
      (s.untilDue ((s.chan c).downAt + 2 ^ 22)).chanFailed c 0
    else s)

/-! ### Rebuild and scrub (R162, R175 to R178) -/

/-- REBUILD_PERIOD (R175, R177): a period begins, in which RATE stripe sets are reconstructed onto the spare. -/
def execRebuildPeriod (s : State) : Host.Outcome State Fault Refusal :=
  let rate := s.fld rCEL_REBUILD 15 0
  s.live (if s.cel.rebuild.isNone ∨ rate = 0 then s
    else
      let s := s.untilDue (s.cel.periodAt + 2 ^ 16)
      ({ s with cel := { s.cel with rbGoal := min s.celSets (s.cel.cursor + rate), periodAt := s.count } }).sectorPump)
/-- CELLAR_SCRUB_PERIOD (R178): a period begins, in which RATE stripe sets are read and checked.  What the
scrubber finds comes with the sectors that the modules send, so the row's operand carries nothing. -/
def execCellarScrubPeriod (_found : Unit) (s : State) : Host.Outcome State Fault Refusal :=
  let rate := s.fld rCEL_SCRUB 15 0
  s.live (if rate = 0 ∨ s.hasCellar = false ∨ s.celSets = 0 then s
    else
      let s := s.untilDue (s.cel.scrubAt + 2 ^ 16)
      ({ s with cel := { s.cel with scrubAt := s.count, scLeft := rate } }).sectorPump)
/-- Bytes of a die's Larder (Table 06-3). -/
abbrev dieBytes : Nat := 98304 * 2 ^ 21
/-- Counts that a patrol pass takes (LRD_CFG): SCRUB_INTERVAL × 2^32, 0 counting as 1. -/
def State.patrolTime (s : State) (d : Nat) : Nat := max 1 (s.fld rLRD_CFG 31 24 d) * 2 ^ 32
/-- Count at which the line at a die's cursor is due: the lines of a pass are spread evenly over its interval (DESIGN CHOICE,
log entry 96). -/
def State.patrolDue (s : State) (d : Nat) : Nat :=
  s.hlt.patrol.getD d 0 + s.fld rLRD_SCRUB_STAT 37 0 d * s.patrolTime d / dieBytes
/-- LARDER_SCRUB (R162): when it is due, the scrubber reads the line at the die's cursor, which lies on its stack; the command
says what it finds there, besides an error that lies there already. -/
def execLarderScrub (die : Fin 8) (stack : Fin 2) (ce ue : Bool) (s : State) : Host.Outcome State Fault Refusal :=
  let d := die.val
  let cur := s.fld rLRD_SCRUB_STAT 37 0 d
  s.live (if s.fld rLRD_CFG 0 0 d = 0 ∨ bits cur 8 8 ≠ stack.val then s
    else
      let s := s.untilDue (s.patrolDue d)
      let key := d * 2 ^ 38 + cur
      let s := (if ue then s.lineLost key 1 0 else if ce then (s.lineFixed key 0 (Config.draw s.nonce % 36)).tick else s).meet (.line (key / 64)) 0 1
      if cur + 64 < dieBytes then s.setFld rLRD_SCRUB_STAT 37 0 (cur + 64) d
      else
        let s := (s.setFld rLRD_SCRUB_STAT 37 0 0 d).inc rLRD_SCRUB_STAT 63 48 d
        s.updHlt (fun h => { h with patrol := h.patrol.put d (h.patrol.getD d 0 + s.patrolTime d) }))

/-! ### Releasing pages (R194, R390) -/

/-- Accesses that were checked against an old entry and are not yet performed: write-buffer entries, loads, DMA transfers,
host and remote requests, and queued hub-order descriptors whose segments named the page (R194, R201). -/
def State.accessOpen (s : State) (page : Nat) : Bool :=
  s.ctxs.any (fun e => e.2.queue.any (fun q => match q.segs with | some g => segsName g page | none => false)) ||
  s.eth.hostReads.any (fun h => segsName h.segs page) ||
  s.units.any (fun e => e.2.wb.any (fun w => !w.done) ||
    e.2.th.toList.any (fun th => !th.loads.isEmpty || th.dma.toList.any (·.isSome))) ||
  !s.home.txns.isEmpty || !s.gly.celWait.isEmpty || !s.gly.behind.isEmpty || s.qps.any (fun q => !q.2.reads.isEmpty)
/-- Zero a page, free it and return it to its quota; region caches let go of its lines first (R194, R390). -/
def State.pageFree (s : State) (page : Nat) : State :=
  let s := s.cacheDropPage page
  { s.mend (Spot.inPage page) with
           larder := Memory.zero s.larder (page * 2 ^ 21) (2 ^ 21)
           lpois := s.lpois.filter (fun l => decide (l / 2 ^ 15 ≠ page))
           lcount := s.lcount.del page
           pageOwner := s.pageOwner.del page
           map := { s.map with freeing := s.map.freeing.filter (fun f => decide (f.1 ≠ page)) } }
/-- PAGE_RELEASE (R194): a released page is zeroed and freed once every access checked before has been performed. -/
def execPageRelease (die : Fin 8) (page : BitVec 17) (s : State) : Host.Outcome State Fault Refusal :=
  let p := die.val * 2 ^ 17 + page.toNat
  s.live (if s.map.freeing.any (fun f => f.1 == p && !s.map.draining.contains f.2) && !s.accessOpen p then s.pageFree p else s)

end Sys2Proof.Machine
end

