-- ==== Sys2Proof/Machine/Control.lean ====
section
/-! DEFINITION. Control descriptors: contexts, segments, fault service, coherent attachments, queue pairs, keys and
completion rings (R187 to R212, R313, R315, R360 to R363, R370, R371). -/

namespace Sys2Proof.Machine

/-- What a control descriptor answers: status, DETAIL, state. -/
abbrev Ctl := Nat × Nat × State
/-- Refused with a status, with nothing changed. -/
def State.no (s : State) (st : Nat) : Ctl := (st, 0, s)
/-- Done. -/
def State.yes (s : State) : Ctl := (stOK, 0, s)
/-- TARGET, CONTEXT: a context number at bytes 16–17. -/
def cTarget (d : Vec) : Nat := fieldOf d 16 2 % 4096
/-- SEGMENT beside CONTEXT. -/
def cSeg (d : Vec) : Nat := fieldOf d 16 2 / 4096
/-- A target is a context of the window's composition, or any assigned one from the window of context 0 (R188). -/
def State.ctlTarget (s : State) (w tgt : Nat) : Bool :=
  (s.compOf? tgt).isSome && (w == 0 || s.compOf? w == s.compOf? tgt)

/-! ### Contexts (R189, R190) -/

/-- Regions of a range on the dies of a mask, as `die · 128 + region`. -/
def maskRgns (mask first cnt : Nat) : List Nat :=
  ((List.range 8).filter (bitOf mask)).flatMap (fun d => (List.range cnt).map (fun i => d * 128 + first + i))
/-- Whether a context's region set has a region. -/
def Ctx.hasRgn (x : Ctx) (r : Nat) : Bool := bitOf x.dieMask (r / 128) && decide (x.first ≤ r % 128 ∧ r % 128 < x.first + x.cnt)
/-- Prefetch staging pages that a context may still take (R189). -/
def State.pfLeft (s : State) (tgt : Nat) : Nat :=
  let comp := s.compOf tgt
  if comp = 0 then
    8192 - (s.map.comps.vals.map (fun x => ((x.parts.find? s.pkg).map (·.pfPages)).getD 0)).sum
  else
    (((s.partOf comp).map (·.pfPages)).getD 0) -
      ((s.ctxs.filter (fun e => e.1 ≠ tgt && s.compOf e.1 == comp && e.2.st != .unset)).map (fun e => e.2.pfPages)).sum
/-- Write every open record of a context to its ring, in ascending FAULT_ID (R209). -/
def State.rewriteRing (s : State) (c : Nat) : State :=
  let rs := sortBy (fun a b => decide (a.2.gen * 4096 + a.1 ≤ b.2.gen * 4096 + b.1))
    (s.flt.recs.filter (fun e => e.2.ctx = c))
  rs.foldl (fun s e => s.ringWrite c e.1 e.2.rec512) s
/-- CONTEXT_SET (R189). -/
def State.ctxSet (s : State) (w : Nat) (d : Vec) : Ctl :=
  let t := cTarget d
  let mask := fieldOf d 18 1
  let first := fieldOf d 19 1 % 128
  let cnt := fieldOf d 20 1
  let pages := fieldOf d 22 2
  let va := fieldOf d 40 8
  let qp := fieldOf d 28 2 % 2 ^ 14
  let key := fieldOf d 32 4
  let x := s.ctx t
  let comp := s.compOf t
  let rs := maskRgns mask first cnt
  if !s.ctlTarget w t then s.no stBounds
  else if 128 < cnt ∨ 8192 < pages ∨ va % 64 ≠ 0 ∨ s.nRgn < first + cnt then s.no stMalformed
  else if rs.any (fun r => s.rgnComp r != (if comp = 0 then none else some comp) ||
      s.ctxs.any (fun e => e.1 != t && e.2.hasRgn r)) then s.no stBounds
  else if s.pfLeft t < pages then s.no stQuota
  else if x.st = .running ∧ (x.dieMask ≠ mask ∨ x.first ≠ first ∨ x.cnt ≠ cnt ∨ x.pfPages ≠ pages) then s.no stBusy
  else
    let ring := x.ringQp ≠ qp ∨ x.ringKey ≠ key ∨ x.ringVa ≠ va
    let s := s.updCtx t (fun x => { x with
      st := if x.st = .unset then .idle else x.st
      nextSeq := if x.st = .unset then 0 else x.nextSeq
      dieMask := mask
      first := first
      cnt := cnt
      pfPages := pages
      svcTmo := fieldOf d 24 4
      ringQp := qp
      ringKey := key
      ringVa := va
      ringBad := if ring then false else x.ringBad
      ringNo := if ring then x.ringNo + 1 else x.ringNo })
    let s := if x.st = .unset then s.wr rREPRO_CHOICES t 0 0 else s
    (if ring then s.rewriteRing t else s).yes
/-- CONTEXT_RESET (R190). -/
def State.ctxReset (s : State) (w : Nat) (d : Vec) : Ctl :=
  let t := cTarget d
  if !s.ctlTarget w t then s.no stBounds
  else if (s.ctx t).st = .halted then (s.updCtx t (fun x => { x with st := .idle })).yes
  else s.yes
/-- CONTEXT_ABORT (R190). -/
def State.ctxAbort (s : State) (w : Nat) (d : Vec) : Ctl :=
  let t := cTarget d
  if !s.ctlTarget w t then s.no stBounds
  else (s.abortKernel t 1 none).yes

/-! ### Segments (R191 to R196) -/

/-- Whether an entry is the source of an alias. -/
def State.aliased (s : State) (c gi : Nat) : Bool :=
  s.ctxs.any (fun e => e.2.segs.any (fun g => g.2.src == some (c, gi)))
/-- Whether a segment key opens an entry. -/
def State.keyed (s : State) (c gi : Nat) : Bool :=
  s.keys.any (fun k => !k.2.window && !k.2.control && k.2.ctx == c && k.2.seg == gi)
/-- Whether a segment key of an entry reaches beyond a limit (R363). -/
def State.keyBeyond (s : State) (c gi limit : Nat) : Bool :=
  s.keys.any (fun k => !k.2.window && !k.2.control && k.2.ctx == c && k.2.seg == gi && decide (limit < k.2.win + k.2.len))
/-- Whether any agent is attached to an entry (R315). -/
def State.attachedTo (s : State) (c gi : Nat) : Bool := s.home.attach.any (fun a => a.ctx == c && a.seg == gi)
/-- Release pages: they are zeroed and freed once earlier accesses have been performed (R194). -/
def State.releasePages (s : State) (comp : Nat) (ps : Assoc Nat) : State :=
  { s with map := { s.map with freeing := s.map.freeing ++ ps.map (fun e => (e.1 / 2 ^ 40 * 2 ^ 17 + e.2, comp)) } }
/-- Delete an entry: its pages are released (R194). -/
def State.segDrop (s : State) (c gi : Nat) : State :=
  match s.seg? c gi with
  | none => s
  | some g =>
    let s := s.releasePages (s.compOf c) g.pages
    let s := { s with map := { s.map with revoked := s.map.revoked.filter (fun r => !(r.1 == c && r.2.1 == gi)) } }
    (s.updCtx c (fun x => { x with segs := x.segs.del gi })).recheckFreed
/-- CONTEXT_FREE (R190). -/
def State.ctxFree (s : State) (w : Nat) (d : Vec) : Ctl :=
  let t := cTarget d
  let x := s.ctx t
  if !s.ctlTarget w t then s.no stBounds
  else if t = 0 then s.no stState
  else if x.st = .running ∨ x.segs.any (fun g => s.aliased t g.1 || s.keyed t g.1 || s.attachedTo t g.1) = true then s.no stBusy
  else
    let s := x.segs.keys.foldl (fun s g => s.segDrop t g) s
    let s := s.preForget t
    (s.updCtx t (fun x => { x with
      st := .unset
      dieMask := 0
      first := 0
      cnt := 0
      pfPages := 0
      svcTmo := 0
      ringQp := 0
      ringKey := 0
      ringVa := 0
      ringBad := false })).yes
/-- Page-list keys that a Larder segment needs on this package: one die page for each 2 MiB of a one-die segment, and the
pages that 4 KiB interleaving reaches for the others (R156, R194). -/
def State.needPages (s : State) (comp : Nat) (g : Seg) : List Nat :=
  let first := g.base / 2 ^ 21
  let blocks := (List.range ((g.limit + 2 ^ 21 - 1) / 2 ^ 21)).map (fun i => (first + i, min (2 ^ 21) (g.limit - i * 2 ^ 21)))
  let dies (n : Nat) := List.range (min 8 ((n + 4095) / 4096))
  if g.placement = 0 then blocks.map (fun b => pageKey g.die b.1)
  else if g.placement = 1 then (blocks.flatMap (fun b => (dies b.2).map (fun d => pageKey d (b.1 / 8)))).eraseDups
  else
    let l := s.stripe comp
    let p := max 1 l.length
    let mine := blocks.filter (fun b => l.getD (b.1 % p) 0 == s.self && decide (l ≠ []))
    (mine.flatMap (fun b => (dies b.2).map (fun d => pageKey d (b.1 / p / 8)))).eraseDups
/-- Pages that compositions may be assigned, per die (R159). -/
abbrev pagesPerDie : Nat := 96768
/-- A free page of a die; which one is left open (R159). -/
def State.pickPage (s : State) (die : Nat) : Nat :=
  let o := Config.allocPick s.nonce % pagesPerDie
  match (List.range pagesPerDie).find? (fun i => !s.pageOwner.has (die * 2 ^ 17 + (o + i) % pagesPerDie)) with
  | some i => (o + i) % pagesPerDie
  | none => 0
/-- Assign one page to a page-list key of a composition: it reads as zero, and its counter is zero (R165, R194). -/
def State.takePage (s : State) (comp key : Nat) : Nat × State :=
  let die := key / 2 ^ 40
  let p := s.pickPage die
  let page := die * 2 ^ 17 + p
  (p, { s with pageOwner := s.pageOwner.put page comp, lcount := s.lcount.del page }.tick)
/-- Assign pages to keys, collecting the page list. -/
def State.takePages (s : State) (comp : Nat) (keys : List Nat) : Assoc Nat × State :=
  keys.foldl (fun (x : Assoc Nat × State) k => let r := x.2.takePage comp k; (x.1.put k r.1, r.2)) ([], s)
/-- Free pages of a die. -/
def State.freePages (s : State) (die : Nat) : Nat :=
  pagesPerDie - (s.pageOwner.filter (fun e => decide (e.1 / 2 ^ 17 = die))).length
/-- Whether every die has the pages that keys need (R194). -/
def State.pagesFit (s : State) (keys : List Nat) : Bool :=
  (List.range 8).all (fun d => decide ((keys.filter (fun k => decide (k / 2 ^ 40 = d))).length ≤ s.freePages d))
/-- The entry that SEG_SET describes, without pages (Table 07-3). -/
def segOf (d : Vec) : Seg :=
  let b := fieldOf d 18 1
  let p := fieldOf d 19 1
  { tier := b % 4, placement := bits b 3 2, die := bits b 6 4, present := bitOf b 7, r := bitOf p 0, w := bitOf p 1,
    a := bitOf p 2, c := bitOf p 3, cohMode := bits p 4 4,
    src := if bitOf (fieldOf d 22 1) 0 then some (fieldOf d 20 2 % 4096, fieldOf d 20 2 / 4096) else none,
    base := fieldOf d 24 8, limit := fieldOf d 32 8, vintage := fieldOf d 40 4, pages := [] }
/-- SEG_SET's field checks (R192). -/
def segBad (t gi : Nat) (g : Seg) : Bool :=
  decide (1 < g.tier ∨ g.base % 2 ^ 21 ≠ 0 ∨ 2 ^ 60 < g.base + g.limit) ||
  (g.tier == 1 && (g.w || g.a || g.c || decide (g.placement < 2))) || (g.tier == 0 && g.placement == 3) || (g.c && !g.w) ||
  (match g.src with | some r => g.tier == 1 || decide (r = (t, gi)) | none => false)
/-- Whether a change narrows an entry (R193). -/
def narrows (old new : Seg) : Bool :=
  decide (new.limit < old.limit) || (old.r && !new.r) || (old.w && !new.w) || (old.a && !new.a) || (old.present && !new.present)
/-- Whether a change touches what SEG_SET may not change on a defined entry (R193). -/
def refixes (old new : Seg) : Bool :=
  decide (old.tier ≠ new.tier ∨ old.placement ≠ new.placement ∨ old.die ≠ new.die ∨ old.c ≠ new.c ∨
    old.cohMode ≠ new.cohMode ∨ old.base ≠ new.base ∨ old.src ≠ new.src) ||
  (old.tier == 1 && old.present && decide (old.vintage ≠ new.vintage))
/-- Rules on the source of an alias (R195, R315). -/
def State.aliasBad (s : State) (comp : Nat) (g : Seg) : Option Nat :=
  match g.src with
  | none => none
  | some (c, gi) =>
    match s.seg? c gi with
    | none => some stBounds
    | some h =>
      if s.compOf? c ≠ some comp ∨ h.tier ≠ 0 ∨ h.present = false ∨ h.limit < g.base + g.limit ∨
          (g.r && !h.r || g.w && !h.w || g.a && !h.a || g.c && !h.c) = true ∨ g.placement ≠ h.placement ∨ g.die ≠ h.die then
        some stBounds
      else if s.attachedTo c gi then some stBusy
      else none
/-- Bytes from offset 0 of this package's part that a Cellar entry needs (R196). -/
def State.cellarNeed (s : State) (comp : Nat) (g : Seg) : Nat :=
  if g.placement = 2 then
    let l := s.stripe comp
    let p := max 1 l.length
    let blocks := (g.base + g.limit + 2 ^ 21 - 1) / 2 ^ 21
    2 ^ 21 * ((List.range blocks).filter (fun k => l.getD (k % p) 0 == s.self)).length
  else g.base + g.limit
/-- Binding a vintage: it must be Sealed, sound (R460) and the composition's, and hold what the entry covers
(R196). -/
def State.bindCheck (s : State) (comp : Nat) (g : Seg) (vint : Nat) : Option Nat :=
  match s.vint? comp vint with
  | some v => if v.st ≠ 1 ∨ v.bad then some stState else if 2 ^ 21 * v.exts.length < s.cellarNeed comp g then some stSize else none
  | none => some stState
/-- A Cellar segment that becomes present while a kernel of its context runs is pinned for that kernel (R180, R204). -/
def State.latePin (s : State) (c gi : Nat) (g : Seg) : State :=
  match (s.ctx c).kernel with
  | none => s
  | some k =>
    if g.tier ≠ 1 ∨ g.present = false ∨ (k.pins.getD gi none).isSome then s
    else
      let key := vintKey (s.compOf c) g.vintage
      (s.updCtx c (fun x => { x with kernel := some { k with pins := k.pins.set gi (some key) } })).updVint key
        (fun v => { v with pins := v.pins + 1 })
/-- SEG_SET (R191 to R196). -/
def State.segSet (s : State) (w : Nat) (d : Vec) : Ctl :=
  let t := cTarget d
  let gi := cSeg d
  let comp := s.compOf t
  let g := segOf d
  let old := s.seg? t gi
  if !s.ctlTarget w t then s.no stBounds
  else if g.limit = 0 then s.yes
  else if (s.ctx t).st = .unset then s.no stState
  else if segBad t gi g then s.no stMalformed
  else if g.tier = 1 ∧ s.hasCellar = false then s.no stNoCellar
  else if t = 0 ∧ g.placement = 2 then s.no stState
  else if (match old with | some o => refixes o g | none => false) then s.no stState
  else if (match old with
      | some o => narrows o g && (decide ((s.ctx t).st = CState.running) || s.aliased t gi || s.attachedTo t gi)
      | none => false) then s.no stBusy
  else if s.keyBeyond t gi g.limit then s.no stBusy
  else
    match s.aliasBad comp g with
    | some e => s.no e
    | none =>
      match if g.tier = 1 ∧ g.present = true then s.bindCheck comp g g.vintage else none with
      | some e => s.no e
      | none =>
        let have_ : Assoc Nat := match old with | some o => o.pages | none => []
        let want := if g.tier = 0 ∧ g.present = true ∧ g.src = none then s.needPages comp g else []
        let add := want.filter (fun k => !have_.has k)
        let keep := have_.filter (fun e => want.contains e.1)
        let drop := have_.filter (fun e => !want.contains e.1)
        if s.quotaLeft comp < add.length then s.no stQuota
        else if !s.pagesFit add then s.no stNoSpace
        else
          let (new, s) := s.takePages comp add
          let s := s.releasePages comp drop
          let pages := new.foldl (fun (m : Assoc Nat) e => m.put e.1 e.2) keep
          let s := s.updCtx t (fun x => { x with segs := x.segs.put gi { g with pages := pages } })
          (s.latePin t gi g).recheckFreed.yes
/-- SEG_REBIND (R180, R196). -/
def State.segRebind (s : State) (w : Nat) (d : Vec) : Ctl :=
  let t := cTarget d
  let gi := cSeg d
  let vint := fieldOf d 20 4
  if !s.ctlTarget w t then s.no stBounds
  else if (s.ctx t).st = .unset then s.no stState
  else
    match s.seg? t gi with
    | none => s.no stBounds
    | some g =>
      if g.tier ≠ 1 ∨ g.present = false then s.no stState
      else
        match s.bindCheck (s.compOf t) g vint with
        | some e => s.no e
        | none => (s.updCtx t (fun x => { x with segs := x.segs.put gi { g with vintage := vint } })).yes
/-- SEG_DELETE (R193 to R195, R315, R363). -/
def State.segDelete (s : State) (w : Nat) (d : Vec) : Ctl :=
  let t := cTarget d
  let gi := cSeg d
  if !s.ctlTarget w t then s.no stBounds
  else if (s.ctx t).st = .unset then s.no stState
  else if (s.seg? t gi).isNone then s.no stBounds
  else if (s.ctx t).st = .running ∨ (s.aliased t gi || s.keyed t gi || s.attachedTo t gi) = true then s.no stBusy
  else (s.segDrop t gi).yes

/-! ### Fault service (R206, R210, R211) -/

/-- Threads of a context that are Stalled, as (unit, slot, stall). -/
def State.stallsOf (s : State) (c : Nat) : List (Nat × Nat × Stall) :=
  s.units.flatMap (fun e => (List.range 8).filterMap (fun t =>
    let th := e.2.thr t
    match th.st, th.stall with
    | .stalled, some x => if th.ctx = c then some (e.1, t, x) else none
    | _, _ => none))
/-- Remember the faults that a service timeout closes (R211). -/
def State.noteTimed (s : State) (c : Nat) : State :=
  let ids := (s.flt.recs.filter (fun e => e.2.ctx = c)).map (fun e => e.2.gen * 4096 + e.1)
  { s with flt := { s.flt with timed := s.flt.timed ++ ids } }
/-- A service timeout acts: the kernel ends with ABORTED, cause 2 (R211). -/
def State.serviceTimeout (s : State) (c : Nat) : State := ((s.noteTimed c).abortKernel c 2 none).inc rFLT_TMO_ABORT 31 0
/-- The stalls a RESUME covers. -/
def State.covered (s : State) (d : Vec) : List (Nat × Nat × Stall) :=
  let t := cTarget d
  let id := fieldOf d 20 4
  (s.stallsOf t).filter (fun x =>
    if bitOf (fieldOf d 18 1) 0 then decide (x.2.2.addr / 2 ^ 60 % 16 = bits (fieldOf d 18 1) 7 4)
    else match x.2.2.slotNo with
      | some n => (match s.flt.recs.find? n with | some r => decide (r.gen * 4096 + n = id) | none => false)
      | none => false)
/-- Replay a stalled access: the thread is Ready at the same instruction (R205, R206). -/
def State.replay (s : State) (x : Nat × Nat × Stall) : State :=
  s.updThr x.1 x.2.1 (fun th => { th with st := .ready, stall := none })
/-- RESUME (R206, R211): a timeout that has passed acts first. -/
def State.resume (s : State) (w : Nat) (d : Vec) : Ctl :=
  let t := cTarget d
  let scope := bitOf (fieldOf d 18 1) 0
  if !s.ctlTarget w t then s.no stBounds
  else
    let past := (s.covered d).any (fun x => match x.2.2.expiry with | some e => decide (e < s.count) | none => false)
    let s := if past then s.serviceTimeout t else s
    let cs := s.covered d
    if cs = [] then
      if scope then s.yes
      else if s.flt.timed.contains (fieldOf d 20 4) then (s.inc rFLT_LATE 31 0).no stStale
      else s.no stStale
    else if bitOf (fieldOf d 18 1) 1 then (s.abortKernel t 1 none).yes
    else
      let s := cs.foldl State.replay s
      (s.closeRecs (fun r => cs.any (fun x => x.1 == r.unit && x.2.1 == r.slot))).yes
/-- FAULT_RECORD_DELAYED_POST (R210). -/
def execFaultRecordDelayedPost (s : State) : Host.Outcome State Fault Refusal := s.live s.postWaiting
/-- SERVICE_TIMEOUT (R211). -/
def execServiceTimeout (u : BitVec 20) (t : BitVec 3) (s : State) : Host.Outcome State Fault Refusal :=
  let th := s.thr u.toNat t.toNat
  s.onUnit u.toNat (match th.st, th.stall with
    | .stalled, some x => (match x.expiry with | some e => (s.untilDue e).serviceTimeout th.ctx | none => s)
    | _, _ => s)

/-! ### Coherent attachments (R313, R315) -/

/-- COH_ATTACH (R313, R315): its status, or none while a detach waits for the agent's lines. -/
def State.cohAttach (s : State) (w : Nat) (q : QDesc) : Option Nat × State :=
  let d := q.d
  let t := cTarget d
  let b := fieldOf d 18 1
  let gi := b % 16
  let isPkg := bitOf b 5
  let pod := fieldOf d 20 2 % 1024
  let port := pod * 64 + fieldOf d 22 1 % 64
  let agent := fieldOf d 23 1 % 16
  let comp := s.compOf t
  let listed := match s.map.comps.find? comp with
    | some c => if isPkg then (pod == s.pod && c.parts.has (port % 64)) || c.stripe.contains port
                else c.agents.any (fun a => a % 2 ^ 10 == pod && bits a 15 10 == port % 64 && bits a 19 16 == agent)
    | none => false
  if !s.ctlTarget w t then (some stBounds, s)
  else if 767 < pod ∨ (isPkg = true ∧ agent ≠ 0) then (some stMalformed, s)
  else
    match s.seg? t gi with
    | none => (some stBounds, s)
    | some g =>
      if g.c = false ∨ listed = false then (some stBounds, s)
      else if g.placement = 2 ∨ g.placement = 3 ∨ g.src.isSome = true ∨ s.aliased t gi = true then (some stState, s)
      else
        let me (a : Attach) := a.ctx == t && a.seg == gi && a.port == port && a.agent == agent
        let on := s.home.attach.any me
        let body := leBytes 2 t ++ leBytes 1 gi ++ leBytes 1 agent ++ leBytes 4 comp
        if bitOf b 4 then
          let here := (s.home.attach.filter (fun a => a.ctx = t ∧ a.seg = gi)).length
          let all := (s.home.attach.map (fun a => a.port * 16 + a.agent)).eraseDups
          if on then (some stOK, s)
          else if (if g.cohMode = 0 then 8 else 32) ≤ here ∨ (32 ≤ all.length ∧ !all.contains (port * 16 + agent)) then (some stQuota, s)
          else
            let first := !s.isAttached port agent
            let s := { s with home := { s.home with attach := s.home.attach ++ [(⟨t, gi, port, agent, isPkg⟩ : Attach)] } }
            let s := s.hubMsg port 0x0C00 comp t (body ++ leBytes 1 g.cohMode ++ leBytes 3 0 ++ leBytes 4 s.leaseLen)
            let s := if first then
                { s with home := { s.home with leases := s.home.leases.put (port * 16 + agent) (s.count + s.leaseLen) } }
              else s
            (some stOK, s)
        else
          match s.home.attach.find? me with
          | some a => (none, s.detachBegin w q a)
          | none => (some stOK, s)

/-! ### Queue pairs (R360, R361) -/

/-- Whether a queue pair carries an intake binding, a fault ring or a completion ring (R361). -/
def State.qpCarries (s : State) (qp : Nat) : Bool :=
  s.ctxs.any (fun e => e.2.intakes.has qp || e.2.rings.any (fun r => r.2.set && r.2.qp == qp) ||
    (e.2.ringQp == qp && decide (e.2.ringQp ≠ 0 ∨ e.2.ringKey ≠ 0 ∨ e.2.ringVa ≠ 0)))
/-- Fields of QP_SET out of range, or an empty LOCAL_IP (R361). -/
def State.qpBad (s : State) (d : Vec) : Bool :=
  let port := fieldOf d 21 1 % 16
  let ip := fieldOf d 31 1 % 8
  let pmtu := fieldOf d 22 1 % 8
  decide (pmtu = 0 ∨ 5 < pmtu ∨ 3 < ip) ||
  (if bitOf (fieldOf d 20 1) 2 then s.rd rETH_IP6 port ip == 0 else s.rd rETH_IP4 port ip == 0)
/-- Fields that ACTION 1 may not change: IPV6, PORT, PMTU, REMOTE_QPN, SQ_PSN, LOCAL_IP, RQ_PSN, HOP_LIMIT, REMOTE_IP
(R361). -/
def qpFixed (d : Vec) : List Nat :=
  [bits (fieldOf d 20 1) 2 2, fieldOf d 21 1 % 16, fieldOf d 22 1 % 8, fieldOf d 24 3, fieldOf d 28 3, fieldOf d 31 1 % 8,
   fieldOf d 32 3, fieldOf d 35 1, fieldOf d 44 8, fieldOf d 52 8]
/-- A queue pair as ACTION 0 creates it; its rate starts at the line rate (R359, R361). -/
def newQp (comp ctx : Nat) (d : Vec) : Qp :=
  { comp := comp, ctx := ctx, d := d, err := false, sqPsn := fieldOf d 28 3, rqPsn := fieldOf d 32 3, unacked := [],
    retries := 0, rnrs := 0, timer := none, rate := 65536, lastCut := 0, lastCnp := none, reads := [] }
/-- QP_SET (R360, R361). -/
def State.qpSet (s : State) (w : Nat) (d : Vec) : Ctl :=
  let t := cTarget d
  let qp := fieldOf d 18 2 % 2 ^ 14
  let act := fieldOf d 20 1 % 4
  let comp := s.compOf t
  if !s.ctlTarget w t then s.no stBounds
  else if act ≤ 1 ∧ s.qpBad d = true then s.no stMalformed
  else if act = 0 then
    if comp ≠ 0 ∧ ((s.partOf comp).map (·.qpQuota)).getD 0 ≤ (s.qps.filter (fun q => q.2.comp = comp)).length then s.no stQuota
    else
      match leastBelow 16384 (fun q => !s.qps.has q) with
      | none => s.no stNoSpace
      | some n => (stOK, n, { s with qps := s.qps.put n (newQp comp t d) })
  else
    match s.qps.find? qp with
    | none => s.no stBounds
    | some q =>
      if q.comp ≠ comp then s.no stBounds
      else if act = 1 then
        if qpFixed d ≠ qpFixed q.d then s.no stState else ({ s with qps := s.qps.put qp { q with d := d } }).yes
      else if act = 2 then
        let s := { s with qps := s.qps.put qp { q with
          err := false, unacked := [], timer := none, reads := [], retries := 0, rnrs := 0, sqPsn := fieldOf d 28 3
          rqPsn := fieldOf d 32 3 } }
        (q.unacked.foldl State.msgLost s).yes
      else if s.qpCarries qp then s.no stBusy
      else (q.unacked.foldl State.msgLost { s with qps := s.qps.del qp }).yes

/-! ### Keys (R362, R363) -/

/-- KEY_SET (R362, R363). -/
def State.keySet (s : State) (w : Nat) (d : Vec) : Ctl :=
  let t := cTarget d
  let gi := cSeg d
  let b := fieldOf d 18 1
  let window := bitOf b 0
  let acc := bits b 2 1
  let control := bitOf b 3
  let win := fieldOf d 24 8 % 2 ^ 60
  let len := fieldOf d 32 8 % 2 ^ 60
  let comp := if control then 0 else s.compOf t
  if control = true ∧ (window = true ∨ t ≠ 0) then s.no stMalformed
  else if control = true ∧ w ≠ 0 then s.no stBounds
  else if !s.ctlTarget w t then s.no stBounds
  else if window = true ∧ acc ≠ 2 then s.no stMalformed
  else if window = false ∧ control = false ∧ len = 0 then s.yes
  else if window = false ∧ control = false ∧ (match s.seg? t gi with
      | none => true
      | some g => decide (g.limit < win + len) || (g.tier == 1 && bitOf acc 1)) = true then s.no stBounds
  else if comp ≠ 0 ∧ ((s.partOf comp).map (·.keyQuota)).getD 0 ≤ (s.keys.filter (fun k => k.2.comp = comp)).length then
    s.no stQuota
  else
    match leastBelow 32768 (fun i => !s.keys.has i) with
    | none => s.no stNoSpace
    | some i =>
      let gen := s.keyGen.getD i 0
      let k : Key := { gen := gen, ctx := t, seg := if window || control then 0 else gi, window := window, control := control,
                       acc := acc, win := if window || control then 0 else win,
                       len := if control then 2 ^ 32 else if window then 65536 else len, va := fieldOf d 40 8, comp := comp,
                       revoked := false }
      (stOK, gen * 2 ^ 15 + i, { s with keys := s.keys.put i k, keyGen := s.keyGen.put i ((gen + 1) % 2 ^ 17) })

/-! ### Completion rings (R370, R371) -/

/-- CRING_SET (R370, R371). -/
def State.cringSet (s : State) (w : Nat) (d : Vec) : Ctl :=
  let t := cTarget d
  let b := fieldOf d 18 1
  let r := b % 4
  let log2 := fieldOf d 19 1 % 32
  let qp := fieldOf d 20 2 % 2 ^ 14
  let va := fieldOf d 32 8
  let freed := fieldOf d 40 8
  let freedEn := bitOf b 3
  if !s.ctlTarget w t then s.no stBounds
  else if !bitOf b 2 then (s.updRing t r (fun k => { k with set := false })).yes
  else if log2 < 6 ∨ 16 < log2 ∨ va % 32 ≠ 0 ∨ (freedEn = true ∧ freed % 8 ≠ 0) then s.no stMalformed
  else if !(match s.qps.find? qp with | some q => q.comp == s.compOf t | none => false) then s.no stBounds
  else
    match if freedEn then s.larderCheck t freed 8 permR else none with
    | some e => s.no e
    | none =>
      let s := s.updRing t r (fun _ => (⟨true, qp, fieldOf d 24 4, va, log2, freedEn, freed, 0, 0⟩ : Ring))
      (s.takeFreed t r).yes

end Sys2Proof.Machine
end

