-- ==== Sys2Proof/Machine/Crypto.lean ====
section
/-! DEFINITION. RSASSA-PSS over RSA-3072 with SHA-256, as every signature of the part is verified (R379, R477), and the
signatures the part makes. -/

namespace Sys2Proof.Machine

/-- The `n` bytes of a number, most significant first. -/
def beList (n x : Nat) : List Byte := (leBytes n x).reverse
/-- `b` to the power `e` modulo `n`; the fuel is at least the bits of `e`. -/
def modPow (n b : Nat) : (fuel e : Nat) → Nat
  | 0, _ => 1 % n
  | f + 1, e =>
    if e = 0 then 1 % n
    else
      let h := modPow n b f (e / 2)
      if e % 2 = 1 then h * h % n * b % n else h * h % n
/-- MGF1 with SHA-256: `k` blocks of mask (RFC 8017). -/
def mgf1 (seed : List Byte) (k : Nat) : List Byte := (List.range k).flatMap (fun i => sha256 (seed ++ beList 4 i))
/-- EMSA-PSS verification of an encoded message of 384 bytes, 3,071 bits, with a salt of 32 bytes (RFC 8017). -/
def pssOk (m em : List Byte) : Bool :=
  let db := em.take 351
  let h := (em.drop 351).take 32
  let d := List.zipWith (· ^^^ ·) db (mgf1 h 11)
  let d := match d with | x :: xs => (x &&& 0x7F#8) :: xs | [] => []
  let salt := d.drop 319
  em.getLast? == some 0xBC#8 && decide ((db.headD 0#8).toNat < 128) && (d.take 318).all (· == 0#8) &&
    d[318]? == some 1#8 && sha256 (List.replicate 8 0#8 ++ sha256 m ++ salt) == h
/-- Verify a 384-byte signature over a message under an RSA-3072 public key. -/
def rsaVerify (k : RsaKey) (m sig : List Byte) : Bool :=
  let x := beNat sig
  decide (2 ^ 3071 ≤ k.n ∧ k.n < 2 ^ 3072 ∧ sig.length = 384 ∧ x < k.n) && pssOk m (beList 384 (modPow k.n x 33 k.e))
/-- The digest of a public key: modulus, then exponent, each most significant byte first (R477). -/
def RsaKey.digest (k : RsaKey) : Nat := shaNat (beList 384 k.n ++ beList 4 k.e)
/-- Whether a signature verifies under the fabric key in force (R379, R478). -/
def State.fabricOk (s : State) (m sig : List Byte) : Bool :=
  match s.sec.fabric with | some k => rsaVerify k m sig | none => false
/-- A signature under the device identity key (R398, R484); its value is left open. -/
def signed (m : List Byte) : List Byte := beList 384 (Config.sign 0 m)

end Sys2Proof.Machine
end

