-- ==== Sys2Proof/Machine/Recorder.lean ====
section
/-! DEFINITION. The event recorder's own commands: power-fail flush, token refill, suppression notes, and interrupt leaves
(R449 to R454). -/

namespace Sys2Proof.Machine

/-- Change the recorder. -/
def State.updEvr (s : State) (f : Evr → Evr) : State := { s with evr := f s.evr }
/-- Whether standby supply is present: the recorder and the interrupt tree work (Table 01-3). -/
def State.aon (s : State) : Bool := s.start.mode != .off

/-! ### Power-fail flush (R449, R450) -/

/-- The Carousel slots of the 1,024 most recent records. -/
def Evr.recent (e : Evr) : Assoc Nat :=
  (e.carousel.filter (fun x => decide ((e.seq % 65536 + 65536 - x.1 - 1) % 65536 < 1024)))
/-- PWRFAIL_N_FALL (R449): POWER_FAIL is recorded and the flush starts; a fall during a flush is ignored. -/
def execPwrfailNFall (s : State) : Host.Outcome State Fault Refusal :=
  .next (
    if !s.aon || s.evr.flushing.isSome then s
    else
      let s := s.raise { code := 0x0002, sev := 0, d0 := 0 }
      s.updEvr (fun e => { e with pwrfail := true, flushing := some e.recent }))
/-- POWER_FAIL_FLUSH_DONE (R449): the flush area holds the records copied, and the flush is counted (EVR_FLUSH). -/
def execPowerFailFlushDone (s : State) : Host.Outcome State Fault Refusal :=
  .next (
    match s.evr.flushing with
    | some l =>
      let s := s.updEvr (fun e => { e with flushArea := l, flushing := none })
      (s.inc rEVR_FLUSH 31 0).setFld rEVR_FLUSH 63 32 s.evr.cold
    | none => s)
/-- PWRFAIL_N_RISE (R449). -/
def execPwrfailNRise (s : State) : Host.Outcome State Fault Refusal :=
  .next (
    if s.aon && s.evr.pwrfail then
      (s.updEvr (fun e => { e with pwrfail := false })).raise { code := 0x0002, sev := 0, d0 := 1 }
    else s)
/-- The flush area goes back into the Carousel, RELOADED is written, and SEQ goes on above every record held (R450). -/
def State.reload (s : State) : State :=
  let seqs := (s.evr.flushArea.map Prod.snd ++ s.evr.vault).map (fun r => bits r 319 288)
  let own := s.evr.flushArea.map (fun x => bits x.2 319 288)
  let s := s.updEvr (fun e => { e with
    carousel := e.flushArea
    seq := match seqs.max? with | some m => (m + 1) % 2 ^ 32 | none => 0 })
  s.raise { code := 0x0004, sev := 0, d0 := own.length, d1 := own.min?.getD 0 }

/-! ### Rate limits (R451, R452) -/

/-- Counts between the points at which some bucket may gain a token: RATE is at most 128. -/
abbrev refillStep : Nat := 2 ^ 18
/-- A bucket at count `t`: one token more, at most `cap`, when `t` is a multiple of its period. -/
def refilled (t period cap n : Nat) : Nat := if t % period = 0 then min cap (n + 1) else n
/-- TOKEN_REFILL (R451): at the next multiple of 2^18 counts every bucket whose period divides it gains a token. -/
def execTokenRefill (s : State) : Host.Outcome State Fault Refusal :=
  let t := (s.evr.refillAt / refillStep + 1) * refillStep
  let s' := s.untilDue t
  .next (
    if !s.aon then s
    else s'.updEvr (fun e => { e with
      refillAt := t
      tokens := e.tokens.mapV (fun c n => let br := s.evrRate c; refilled t (2 ^ 25 / br.2) br.1 n)
      subTokens := e.subTokens.mapV (fun k n => let br := s.evrRate (k / 2 ^ 20); refilled t (2 ^ 28 / br.2) (br.1 / 8) n) }))
/-- SUPPRESS_NOTE (R452): 2^25 counts after a code's first suppression since its last record, its count is reported. -/
def execSuppressNote (code : BitVec 16) (s : State) : Host.Outcome State Fault Refusal :=
  .next (
    match s.evr.supp.find? code.toNat with
    | some (n, t) =>
      let s := s.untilDue (t + 2 ^ 25)
      (s.updEvr (fun e => { e with supp := e.supp.del code.toNat })).raise { code := 0x0001, sev := 0, d0 := code.toNat, d1 := n }
    | none => s)

/-! ### The interrupt tree (R453, R454) -/

/-- IRQ_GROUP: the leaves of a group with an unmasked cause (R453). -/
def State.irqGroup (s : State) (g : Nat) : Nat :=
  (List.range 8).foldl (fun m j =>
    if s.rd rIRQ_LEAF g j &&& (2 ^ 32 - 1 - s.rd rIRQ_LEAF_MASK g j) ≠ 0 then m + 2 ^ j else m) 0
/-- IRQ_SUMMARY: the groups with an unmasked cause (R453). -/
def State.irqSummary (s : State) : Nat :=
  (List.range 16).foldl (fun m g =>
    if s.irqGroup g &&& (255 - s.fld rIRQ_GROUP_MASK 7 0 g) ≠ 0 then m + 2 ^ g else m) 0
/-- Whether the package drives IRQ_N low (R454). -/
def State.irqLow (s : State) : Bool :=
  s.fld rIRQ_CFG 5 4 != 1 && s.irqSummary &&& (65535 - s.fld rIRQ_SUMMARY_MASK 15 0) != 0
/-- Clear the leaf bits written 1 (R453). -/
def State.leafWrite (s : State) (g j v : Nat) : State :=
  let x := s.rd rIRQ_LEAF g j
  s.wr rIRQ_LEAF g j (x - (x &&& v))
/-- IRQ_LEAF_WRITE (R453): the groups, the summary and IRQ_N follow from the leaves. -/
def execIrqLeafWrite (g : Fin 16) (j : Fin 8) (v : BitVec 32) (s : State) : Host.Outcome State Fault Refusal :=
  .next (s.leafWrite g.val j.val v.toNat)

end Sys2Proof.Machine
end

