-- ==== Sys2Proof/Machine/Health.lean ====
section
/-! DEFINITION. Known-answer tests, observation, health scores, sparing and region faults, and the reproducibility signatures
(R65, R403, R404, R420 to R427). -/

namespace Sys2Proof.Machine

/-! ### Signatures (R403, R404) -/

/-- ID_DEVICE as read (R3). -/
def State.deviceId (s : State) : Nat := 0x48160110 + b2n s.part.gradeT * 0x1000
/-- Whether a region is absent from the grade or logically retired. -/
def State.rgnOut (s : State) (r : Nat) : Bool := decide (s.nRgn ≤ r % 128) || (s.rgn r).retired
/-- The 256-byte input block of Table 16-2. -/
def State.sigBlock (s : State) (strict : Bool) : List Byte :=
  let mapByte (i : Nat) : Byte :=
    BitVec.ofNat 8 ((List.range 8).foldl (fun m k => if s.rgnOut (8 * i + k) then m + 2 ^ k else m) 0)
  leBytes 4 s.deviceId ++ leBytes 4 s.sec.version ++ leBytes 4 (s.fld rREPRO_DEFAULTS 2 0) ++ leBytes 1 (b2n strict) ++
    leBytes 3 0 ++ (List.range 128).map mapByte ++ List.replicate 112 0
/-- Compute both signatures (R404). -/
def State.signature (s : State) : State :=
  (s.wr rREPRO_SIG_S 0 0 (leNat (sha256 (s.sigBlock true)))).wr rREPRO_SIG_C 0 0 (leNat (sha256 (s.sigBlock false)))
/-- A write of REPRO_DEFAULTS (R404). -/
def State.defaultsWrite (s : State) (v : Nat) : State := (s.wrRw rREPRO_DEFAULTS 0 0 v).signature
/-- REPRO_DEFAULTS_WRITE (R404). -/
def execReproDefaultsWrite (v : BitVec 32) (s : State) : Host.Outcome State Fault Refusal := s.live (s.defaultsWrite v.toNat)

/-! ### Health of a unit (R420 to R423) -/

/-- Counts between tests of a unit (R420, R421, HLT_CFG). -/
def State.katPeriod (s : State) (u : Nat) : Nat :=
  if (s.hunit u).observed then 2 ^ max 24 (s.fld rHLT_CFG 13 8) else 2 ^ max 28 (s.fld rHLT_CFG 5 0)
/-- The count at which a unit's next test falls due: its interval, or 2^24 counts after a change of band (R421). -/
def State.katDue (s : State) (u : Nat) : Nat :=
  let h := s.hunit u
  let t := h.lastAt + s.katPeriod u
  match h.dueBy with | some b => min t b | none => t
/-- Temperature band of a region (Table 17-3). -/
def State.band (s : State) (r : Nat) : Nat := s.hlt.bands.getD r 0
/-- Whether a unit's tests let it leave observation: 512 passes, every perturbation in at least two bands (R421). -/
def HUnit.clears (h : HUnit) : Bool :=
  !h.suspect && decide (512 ≤ h.passes) &&
    (List.range 4).all (fun p => decide (2 ≤ ((List.range 8).filter (fun b => bitOf h.cover (4 * b + p))).length))

/-! ### Known-answer tests (R65, R420, R421) -/

/-- Whether a unit qualifies for a test: no thread, or every thread Waiting for 2^12 counts and no accumulator claimed (R65). -/
def State.katFit (s : State) (u : Nat) : Bool :=
  let x := s.unt u
  let ths := x.th.toList.filter (fun th => decide (th.st ≠ .empty))
  ths.isEmpty || (ths.all (fun th => th.st == .waiting && decide (th.waitAt + 2 ^ 12 ≤ s.count)) &&
    x.acc.toList.all (fun a => a.holder.isNone))
/-- The program and perturbation of a unit's next test: those of R421 in observation; otherwise the program is left open. -/
def State.katPick (s : State) (u : Nat) : Nat × Nat :=
  let h := s.hunit u
  if h.observed then (h.tests % 16, h.tests % 4) else (Config.draw s.nonce % 16, 0)
/-- KAT_SLICE (R65, R420). -/
def execKatSlice (u : BitVec 20) (s : State) : Host.Outcome State Fault Refusal :=
  let n := u.toNat
  if !s.unitOk n then .fault .noSuchUnit
  else s.live (
    if s.fld rHLT_CFG 24 24 = 0 ∨ (s.unt n).kat.isSome ∨ s.katFit n = false then s
    else
      let p := s.katPick n
      (s.updUnt n (fun x => { x with kat := some ⟨s.count, p.1, p.2⟩ })).tick)
/-- A finished test: what it covered, and a pass or a mismatch (R420 to R423). -/
def State.katEnd (s : State) (u : Nat) (k : Kat) (pass : Bool) (firstDiff : Nat) : State :=
  let b := s.band (rgnOf u)
  let s := (s.updUnt u (fun x => { x with kat := none })).inc rHLT_KAT 31 0
  let s := s.updHunit u (fun h => { h with lastAt := s.count, dueBy := none, due := false })
  let mark (h : HUnit) : HUnit := if h.observed then { h with tests := h.tests + 1, cover := h.cover ||| 2 ^ (4 * b + k.pert) } else h
  if pass then
    if !(s.hunit u).observed then s
    else
      let s := s.updHunit u (fun h => { mark h with passes := h.passes + 1, score := min 255 (h.score + 1) })
      if (s.hunit u).clears then
        let s := s.updHunit u (fun h => { h with observed := false })
        (s.raise { code := 0x010B, sev := 3, unit := some u, d0 := (s.hunit u).score, d1 := 0 }).healthSave
      else s
  else
    let s := (s.inc rHLT_KAT 63 32).raise
      { code := 0x010A, sev := 3, unit := some u, oper := 0x0E, d0 := k.prog, d1 := k.pert + 256 * b, d2 := firstDiff }
    let s := s.updHunit u (fun h => { mark h with passes := 0, score := h.score - 64, mism := min 255 (h.mism + 1) })
    (s.observe u).suspectCheck u
/-- KAT_SLICE_END (R420). -/
def execKatSliceEnd (u : BitVec 20) (pass : Bool) (firstDiff : Nat) (s : State) : Host.Outcome State Fault Refusal :=
  let n := u.toNat
  if !s.unitOk n then .fault .noSuchUnit
  else s.live (match (s.unt n).kat with | some k => s.katEnd n k pass firstDiff | none => s)
/-- KAT_INTERVAL (R420): a test falls due; a unit not in observation that does not qualify is counted as overdue. -/
def execKatInterval (u : BitVec 20) (s : State) : Host.Outcome State Fault Refusal :=
  let n := u.toNat
  if !s.unitOk n then .fault .noSuchUnit
  else s.live (
    let s := s.untilDue (s.katDue n)
    let h := s.hunit n
    let s := if !h.observed && !h.due && !s.katFit n then s.inc rHLT_KAT_OVERDUE 31 0 else s
    s.updHunit n (fun h => { h with due := true }))

/-! ### Temperature (R421, R473) -/

/-- A temperature in 0.25 °C steps, signed. -/
def tempOf (t : BitVec 16) : Int := t.toInt
/-- Band of a temperature (Table 17-3). -/
def bandOf (t : Int) : Nat := if t < 140 then 0 else min 7 ((t - 140) / 40 + 1).toNat
/-- The band a region comes to: it changes only 1 °C past a boundary (R421). -/
def nextBand (old : Nat) (t : Int) : Nat :=
  if old < bandOf t then max old (bandOf (t - 4)) else if bandOf t < old then min old (bandOf (t + 4)) else old
/-- TEMPERATURE_BAND_CHANGE (R421): units of the region in observation are due a test within 2^24 counts. -/
def execTemperatureBandChange (die : Fin 8) (rgn : Fin 128) (temp : BitVec 16) (s : State) :
    Host.Outcome State Fault Refusal :=
  let r := die.val * 128 + rgn.val
  if s.nRgn ≤ rgn.val then .fault .noSuchUnit
  else s.live (
    let s := s.updRgn r (fun x => { x with temp := temp.toNat })
    let b := nextBand (s.band r) (tempOf temp)
    if b = s.band r then s
    else
      let by_ (h : HUnit) : HUnit := { h with dueBy := some (match h.dueBy with | some t => min t (s.count + 2 ^ 24) | none => s.count + 2 ^ 24) }
      s.updHlt (fun h => { h with
        bands := h.bands.put r b
        units := h.units.mapV (fun u (x : HUnit) => if rgnOf u = r ∧ x.observed then by_ x else x) }))
/-- Throttle threshold; values above 105 °C count as 105 °C (PWR_THERM_CFG). -/
def State.throttleAt (s : State) : Int := (min 420 (s.fld rPWR_THERM_CFG 9 0) : Nat)
/-- THROTTLE (R473): a region at or above the threshold is throttled until it reads 2 °C below. -/
def execThrottle (die : Fin 8) (rgn : Fin 128) (temp : BitVec 16) (s : State) : Host.Outcome State Fault Refusal :=
  let r := die.val * 128 + rgn.val
  if s.nRgn ≤ rgn.val then .fault .noSuchUnit
  else s.live (
    let s := s.updRgn r (fun x => { x with temp := temp.toNat })
    let set (s : State) (on : Bool) : State := (s.updRgn r (fun x => { x with throttled := on })).raise
      { code := 0x0205, sev := 0, unit := some (r * 1024), d0 := rgn.val, d1 := b2n on }
    if (s.rgn r).throttled then (if tempOf temp ≤ s.throttleAt - 8 then set s false else s)
    else if s.throttleAt ≤ tempOf temp then set s true
    else s)

/-! ### Regions (Table 01-2, R424, R426) -/

/-- REGION_FAULT (R23). -/
def execRegionFault (die : Fin 8) (rgn : Fin 128) (_cause : Nat) (s : State) : Host.Outcome State Fault Refusal :=
  if s.nRgn ≤ rgn.val then .fault .noSuchUnit else s.live (s.regionFail (die.val * 128 + rgn.val))
/-- Whether a replacement may be switched in at a region now: no Running context holds it, or step 6 of a cold start runs
(R424). -/
def State.switchPoint (s : State) (r : Nat) : Bool :=
  (s.start.mode == .starting && s.start.kind == 0 && s.start.step == 6) ||
  (match s.ctxOfRgn r with | some c => decide ((s.ctx c).st ≠ .running) | none => true)
/-- Counts of the window of the cluster cap (R425). -/
abbrev capWindow : Nat := 2 ^ 32
/-- A cap holds back a replacement on a cluster now: 0 the cluster's, 1 the die's; step 6 of a cold start has none (R425). -/
def State.capped (s : State) (u : Nat) : Option Nat :=
  if s.start.mode = .starting then none
  else if (match s.hlt.replAt.find? (u / 16) with | some t => decide (s.count < t + capWindow) | none => false) then some 0
  else if 16 ≤ s.hlt.expelled.getD (u / 2 ^ 17) 0 then some 1
  else none
/-- Report a cap once per cluster or die and window (R425). -/
def State.capReport (s : State) (u cap : Nat) : State :=
  let e : Ev := { code := 0x0110, sev := 3, unit := some u, d0 := cap }
  if cap = 0 then
    match s.hlt.capCl.find? (u / 16) with
    | some t => if s.count < t + capWindow then s
      else (s.updHlt (fun h => { h with capCl := h.capCl.put (u / 16) s.count })).raise e
    | none => (s.updHlt (fun h => { h with capCl := h.capCl.put (u / 16) s.count })).raise e
  else if s.hlt.capDie.contains (u / 2 ^ 17) then s
  else (s.updHlt (fun h => { h with capDie := h.capDie.add (u / 2 ^ 17) })).raise e
/-- A counted replacement begins: it completes within 2^10 counts (R424, R425). -/
def State.replBegin (s : State) (u : Nat) : State :=
  let counted := decide (s.start.mode ≠ .starting)
  s.updHlt (fun h => { h with
    expelled := if counted then h.expelled.put (u / 2 ^ 17) (h.expelled.getD (u / 2 ^ 17) 0 + 1) else h.expelled
    replAt := if counted then h.replAt.put (u / 16) s.count else h.replAt
    replacing := h.replacing.put (rgnOf u) (s.count + 2 ^ 10) })
/-- A suspect that the spares just used leave without any degrades the package (R425). -/
def State.strandedCheck (s : State) : State := if s.hlt.degraded || s.stranded.isEmpty then s else s.degrade
/-- A unit comes in with a zero Shelf and no thread (R47). -/
def State.unitFresh (s : State) (u : Nat) : State :=
  { s.shelfZero u with units := s.units.del u }
/-- The cluster's spare takes a suspect unit's number (R424). -/
def State.spareUnit (s : State) (u : Nat) : State :=
  let s := ((s.replBegin u).unitFresh u).mend (fun p => p == .unitData u || p == .unitCtrl u)
  let s := s.updHunit u (fun _ => { HUnit.reset with spared := true, lastAt := s.count })
  (s.raise { code := 0x010D, sev := 3, unit := some u, d0 := 16 }).strandedCheck.healthSave
/-- A spare region of the die takes a region's number (R424, R426); it comes in Off. -/
def State.spareRegion (s : State) (r : Nat) (counted : Option Nat) : State :=
  let die := r / 128
  let k := s.hlt.spareRgn.getD die 0
  let s := match counted with
    | some u => s.replBegin u
    | none => s.updHlt (fun h => { h with replacing := h.replacing.put r (s.count + 2 ^ 10) })
  let s := { s.mend (Spot.inRgn r) with
    units := s.units.filter (fun e => decide (rgnOf e.1 ≠ r))
    shelf := s.shelf.filter (fun c => decide (rgnOf (c.1 / 2 ^ 14) ≠ r))
    spois := s.spois.filter (fun x => decide (rgnOf (x / 256) ≠ r))
    rcache := s.rcache.del r
    rgns := s.rgns.put r { Rgn.reset with temp := (s.rgn r).temp } }
  let s := s.updHlt (fun h => { h with
    units := h.units.filter (fun e => decide (rgnOf e.1 ≠ r))
    spareRgn := h.spareRgn.put die (k + 1) })
  (s.raise { code := 0x010E, sev := 3, unit := some (r * 1024), d0 := 128 + k }).strandedCheck.healthSave
/-- Switch in a spare for a suspect unit, or a spare region for a suspect's or a failed region (R424 to R426). -/
def State.switchIn (s : State) (u : Nat) (whole : Bool) : State :=
  let r := rgnOf u
  let sick := (s.hunit u).suspect
  if !s.switchPoint r then s
  else if whole && (s.rgn r).failed then
    if s.spareRgns (r / 128) = 0 then s else s.spareRegion r none
  else if !sick then s
  else match s.capped u with
    | some c => s.capReport u c
    | none =>
      if s.spareFree u then (if whole then s else s.spareUnit u)
      else if s.spareRgns (r / 128) = 0 then s
      else if whole then s.spareRegion r (some u) else s
/-- SPARE_SWITCH_IN (R424 to R426): a spare comes in where a switch point, the caps and the spares left allow it; a suspect
unit takes its cluster's spare while that is unused, and a spare region of the die otherwise. -/
def execSpareSwitchIn (die : Fin 8) (rgn : Fin 128) (cl : Fin 64) (unit : Fin 16) (whole : Bool) (s : State) :
    Host.Outcome State Fault Refusal :=
  if s.nRgn ≤ rgn.val then .fault .noSuchUnit
  else s.live (s.switchIn (die.val * 2 ^ 17 + rgn.val * 2 ^ 10 + cl.val * 16 + unit.val) whole)
/-- REPLACEMENT_COMPLETE (R424): a kernel start that waited for it may go on. -/
def execReplacementComplete (die : Fin 8) (rgn : Fin 128) (s : State) : Host.Outcome State Fault Refusal :=
  let r := die.val * 128 + rgn.val
  s.live (match s.hlt.replacing.find? r with
    | some t => (s.untilDue t).updHlt (fun h => { h with replacing := h.replacing.del r })
    | none => s)
/-- A failed region is replaced, or, when no spare remains, logically retired, at a restore or a start (R426, R404). -/
def State.retireOr (s : State) (r : Nat) : State :=
  if !(s.rgn r).failed || (s.rgn r).retired then s
  else if s.spareRgns (r / 128) ≠ 0 then s.spareRegion r none
  else
    let s := s.updRgn r (fun x => { x with retired := true })
    ((s.raise { code := 0x010F, sev := 3, unit := some (r * 1024), d0 := r % 128 }).degrade).signature
/-- HEALTH_SAVE_TIMER (R422). -/
def execHealthSaveTimer (s : State) : Host.Outcome State Fault Refusal :=
  s.live (
    let t := s.hlt.savedAt + 2 ^ 30
    ((s.untilDue t).updHlt (fun h => { h with savedAt := t })).healthSave)

end Sys2Proof.Machine
end

