-- ==== Sys2Proof/Machine/Ckpt.lean ====
section
/-! DEFINITION. Checkpoints and restore of a composition (R428 to R434). -/

namespace Sys2Proof

/-- The state image, and the Larder bytes with it, that a buddy sends to a spare package (R436): other packages hold them. -/
opaque Config.peerImage : Nat → Machine.Image
opaque Config.peerPages : Nat → Machine.UndoPage

end Sys2Proof

namespace Sys2Proof.Machine

/-- A composition without checkpoints. -/
def Ckpt.none : Ckpt :=
  { enabled := false, step := 0, interval := 0, n := 0, phase := 0, began := 0, lastAt := 0, frozen := false, frozeAt := 0,
    drainSent := false, drained := [], staged := [], undo := [], far := [], dirty := [], uncovered := false, asked := false,
    image := Option.none, taken := Option.none, bytes := 0, q := Option.none }
/-- Checkpoints of a composition. -/
def State.ckpt? (s : State) (comp : Nat) : Ckpt := s.ckpt.getD comp .none
/-- Change the checkpoints of a composition. -/
def State.updCkpt (s : State) (comp : Nat) (f : Ckpt → Ckpt) : State := { s with ckpt := s.ckpt.put comp (f (s.ckpt? comp)) }
/-- The coordinator of a composition is the package at stripe-list entry 0 (R428). -/
def State.coordinates (s : State) (comp : Nat) : Bool := (s.stripe comp).head? == some s.self
/-- The buddy of this package's entry (R428). -/
def State.buddy (s : State) (comp : Nat) : Nat :=
  let l := s.stripe comp
  l.getD ((l.findIdx (· == s.self) + (s.ckpt? comp).step) % max 1 l.length) s.self
/-- Contexts of a composition that anything has configured. -/
def State.compCtxs (s : State) (comp : Nat) : List Nat := s.ctxs.keys.filter (fun c => s.compOf? c == some comp)
/-- Whether a unit lies in a region of a composition. -/
def State.unitOf (s : State) (comp u : Nat) : Bool := s.rgnComp (rgnOf u) == some comp
/-- Send a checkpoint message to every other package of the stripe list (R429); the body is the tag and the number. -/
def State.ckptSay (s : State) (comp type n : Nat) : State :=
  ((s.stripe comp).filter (· ≠ s.self)).foldl (fun s p => s.hubMsg p type comp 0 (leBytes 4 comp ++ leBytes 4 n)) s

/-! ### Freezing (R430) -/

/-- Count the time that any composition has been frozen, up to now (HLT_FREEZE). -/
def State.frozeSpan (s : State) : State :=
  match s.ckpt.find? (((s.ckpt.filter (fun e => e.2.frozen)).map Prod.fst).headD (2 ^ 20)) with
  | some k =>
    { s with ckpt := s.ckpt.mapV (fun _ (x : Ckpt) => if x.frozen then { x with frozeAt := s.count } else x) }.inc rHLT_FREEZE
      39 0 0 0 (s.count - k.frozeAt)
  | Option.none => s
/-- Freeze a composition here for checkpoint `n`: every line that an agent holds is recalled (R430). -/
def State.freeze (s : State) (comp n : Nat) : State :=
  let s := s.frozeSpan
  let s := s.updCkpt comp (fun k => { k with n := n, frozen := true, frozeAt := s.count, drainSent := false })
  s.home.trk.foldl (fun s e =>
    if e.2.comp = comp then s.txnNew e.1 comp e.2.ctx e.2.seg e.2.off true .recall s.home.nextTxn else s) s
/-- Thaw a composition: stalled work may go on. -/
def State.thaw (s : State) (comp : Nat) : State :=
  let s := s.frozeSpan
  (s.updCkpt comp (fun k => { k with frozen := false, phase := 0, drainSent := false, drained := [], staged := [],
                                     taken := Option.none })).behindPump
/-- Whether nothing of the composition is outstanding here or towards this package (R430). -/
def State.compDrained (s : State) (comp : Nat) : Bool :=
  s.units.all (fun e => !s.unitOf comp e.1 || (e.2.wb.all (·.done) && e.2.th.toList.all (fun th =>
    th.loads.all (fun l => l.rmt.isNone && !l.remote) && th.dma.toList.all (fun d => match d with
      | some d => d.done | Option.none => true)))) &&
  s.gly.reqs.all (fun e => e.2.comp ≠ comp) &&
  s.home.txns.all (fun e => e.2.comp ≠ comp) &&
  (s.compCtxs comp).all (fun c => !(s.ctx c).hubOn && (s.ctx c).sends.isEmpty) &&
  s.gly.celWait.all (fun w => w.h.comp.toNat ≠ comp) &&
  s.gly.behind.all (fun b => b.h.comp.toNat ≠ comp || b.h.agent)

/-! ### The state image (R431) -/

/-- A Shelf word of a composition's units. -/
def State.wordOf (s : State) (comp : Nat) : Spot → Bool
  | .shelf w => s.unitOf comp (w / 2048)
  | _ => false
/-- The image of a composition here. -/
def State.takeImage (s : State) (comp n : Nat) : Image :=
  let cs := s.compCtxs comp
  let q := (s.ckpt? comp).q
  let keep (c : Nat) (x : Ctx) : Ctx := match q with
    | some (w, d) => if w = c then { x with queue := { d with status := some stOK } :: x.queue } else x
    | Option.none => x
  { n := n
    units := s.units.filter (fun e => s.unitOf comp e.1)
    shelf := (s.shelf.filter (fun c => s.unitOf comp (c.1 / 2 ^ 14))).map (fun c => (c.1, c.2))
    spois := s.spois.filter (fun r => s.unitOf comp (r / 256))
    ctxs := Assoc.mapV (s.ctxs.filter (fun e => cs.contains e.1)) keep
    groups := s.groups.filter (fun e => cs.contains e.2.ctx)
    taken := s.taken.filter (fun e => cs.contains (e.1 % 4096))
    exact := s.repro.exact.filter (fun e => e.2.comp = comp)
    choices := cs.map (fun c => (c, s.rd rREPRO_CHOICES c))
    srch := s.srch.filter (fun e => cs.contains e.1)
    runs := s.emb.runs.filter (fun e => cs.contains e.1)
    tabs := s.emb.tabs.filter (fun e => cs.contains (e.1 / 64)) }
/-- Bytes of the image: 28 KiB per unit of its regions and 1 MiB per context (R431). -/
def State.imageBytes (s : State) (comp : Nat) : Nat :=
  ((List.range 1024).filter (fun r => s.rgnComp r == some comp)).length * 28 * 2 ^ 20 + (s.compCtxs comp).length * 2 ^ 20

/-! ### Undo pages (R432) -/

/-- Put a page back as its copy holds it. -/
def State.undoPage (s : State) (page : Nat) (u : UndoPage) : State :=
  { s.mend (Spot.inPage page) with
    larder := u.cells.foldl (fun m c => Memory.set m c.1 c.2) (Memory.zero s.larder (page * 2 ^ 21) (2 ^ 21))
    lpois := u.pois.foldl NatSet.add (s.lpois.filter (fun l => decide (l / 2 ^ 15 ≠ page))) }
/-- Discard the undo pages and mark every page clean. -/
def State.undoDrop (s : State) (comp : Nat) : State :=
  let n := (s.ckpt? comp).undo.length
  (s.setFld rHLT_UNDO 31 0 (s.fld rHLT_UNDO 31 0 - n)).updCkpt comp (fun k => { k with
    undo := [], far := [], dirty := [], uncovered := false, asked := false })

/-! ### Taking a checkpoint (R429, R433) -/

/-- The coordinator starts a checkpoint (Table 17-5 step 1); its own package freezes at once. -/
def State.ckptBegin (s : State) (comp : Nat) (q : Option (Nat × QDesc)) : State :=
  let n := (s.ckpt? comp).n + 1
  let s := s.updCkpt comp (fun k => { k with phase := 1, began := s.count, q := q, asked := false })
  (s.ckptSay comp 0x1100 n).freeze comp n
/-- The step to the buddy that holds now: no message carries the coordinator's BUDDY_STEP, and elsewhere it is free (DESIGN
CHOICE, log entry 49). -/
def State.stepNow (s : State) (comp : Nat) : Nat :=
  if s.coordinates comp then (s.ckpt? comp).step else 1 + Config.draw s.nonce % max 1 ((s.stripe comp).length - 1)
/-- A package stages checkpoint `n` (step 5): it keeps its image, and the buddy receives image and pages. -/
def State.ckptStage (s : State) (comp n : Nat) : State :=
  let s := (s.updCkpt comp (fun k => { k with step := s.stepNow comp })).tick
  let bytes := s.imageBytes comp + 2 ^ 21 * (s.ckpt? comp).dirty.length
  let s := s.meetWhere (s.wordOf comp) 0x0C
  let img := s.takeImage comp n
  let s := s.updCkpt comp (fun k => { k with taken := some img, bytes := bytes })
  s.send (.msg (s.buddy comp) 60 [comp, n, bytes])
/-- A package learns that checkpoint `n` is committed (steps 7 and 8). -/
def State.ckptKeep (s : State) (comp n : Nat) : State :=
  let k := s.ckpt? comp
  match k.taken with
  | Option.none => s
  | some img =>
    let s := (s.undoDrop comp).updCkpt comp (fun k => { k with image := some img, enabled := true, lastAt := s.count })
    ((s.thaw comp).inc rHLT_CKPT 31 0).raise { code := 0x0118, sev := 0, comp := comp, d0 := comp, d1 := n, d2 := k.bytes }
/-- A package learns that checkpoint `n` is abandoned (R433); the status is that of CKPT_TAKE. -/
def State.ckptDrop (s : State) (comp n : Nat) : State :=
  ((s.thaw comp).inc rHLT_CKPT 63 32).raise { code := 0x0119, sev := 3, comp := comp, d0 := comp, d1 := n, d2 := stPeer }
/-- Complete the CKPT_TAKE that asked for the checkpoint. -/
def State.ckptAnswer (s : State) (comp st : Nat) : State :=
  match (s.ckpt? comp).q with
  | some (c, q) => (s.updCkpt comp (fun k => { k with q := Option.none })).complete c q { status := st }
  | Option.none => s
/-- The coordinator commits (step 6). -/
def State.ckptCommit (s : State) (comp : Nat) : State :=
  let n := (s.ckpt? comp).n
  ((s.ckptSay comp 0x1104 n).ckptKeep comp n).ckptAnswer comp stOK
/-- The coordinator holds a STAGED. -/
def State.ckptStaged (s : State) (comp p : Nat) : State :=
  let s := s.updCkpt comp (fun k => { k with staged := k.staged.add p })
  if (s.stripe comp).all (fun p => (s.ckpt? comp).staged.contains p) then s.ckptCommit comp else s
/-- The coordinator holds a DRAINED; with the last it sends COPY and stages its own part (step 4). -/
def State.ckptDrained (s : State) (comp p : Nat) : State :=
  let s := s.updCkpt comp (fun k => { k with drained := k.drained.add p })
  let k := s.ckpt? comp
  if k.phase = 1 ∧ (s.stripe comp).all (fun p => k.drained.contains p) then
    let s := (s.updCkpt comp (fun k => { k with phase := 2 })).ckptSay comp 0x1102 k.n
    (s.ckptStage comp k.n).ckptStaged comp s.self
  else s
/-- Whether a message of checkpoint `n` meets a coordinator that still waits for it (R28, R433). -/
def State.ckptOpen (s : State) (comp n : Nat) : Bool :=
  let k := s.ckpt? comp
  let tmo := s.rd rHLT_CKPT_TMO
  s.coordinates comp && decide (k.phase ≠ 0 ∧ k.n = n) && (decide (tmo = 0) || decide (s.count ≤ k.began + tmo))

/-- CKPT_INTERVAL (R429): the interval has passed, or this package, the coordinator, asked under R432. -/
def execCkptInterval (tag : BitVec 20) (s : State) : Host.Outcome State Fault Refusal :=
  let comp := tag.toNat
  let k := s.ckpt? comp
  let due := k.lastAt + k.interval * 2 ^ 16
  s.live (
    if k.enabled && s.coordinates comp && decide (k.phase = 0 ∧ !k.frozen) then
      if k.asked then s.ckptBegin comp Option.none
      else if k.interval = 0 then s
      else ((s.untilDue due).updCkpt comp (fun k => { k with lastAt := due })).ckptBegin comp Option.none
    else s)
/-- FREEZE (R430). -/
def execFreeze (tag : BitVec 20) (n : BitVec 32) (s : State) : Host.Outcome State Fault Refusal :=
  s.live (if (s.stripe tag.toNat).contains s.self && !s.coordinates tag.toNat then s.freeze tag.toNat n.toNat else s)
/-- DRAIN_COMPLETE (R430): a frozen composition is drained here; the coordinator is told, or is this package. -/
def execDrainComplete (tag : BitVec 20) (s : State) : Host.Outcome State Fault Refusal :=
  let comp := tag.toNat
  let k := s.ckpt? comp
  s.live (
    if k.frozen && !k.drainSent && s.compDrained comp then
      let s := s.updCkpt comp (fun k => { k with drainSent := true })
      if s.coordinates comp then s.ckptDrained comp s.self
      else s.hubMsg ((s.stripe comp).headD 0) 0x1101 comp 0 (leBytes 4 comp ++ leBytes 4 k.n)
    else s)
/-- DRAINED (R429): a package of the stripe list is drained. -/
def execDrained (tag : BitVec 20) (n : BitVec 32) (src : BitVec 16) (s : State) : Host.Outcome State Fault Refusal :=
  s.live (if s.ckptOpen tag.toNat n.toNat && (s.stripe tag.toNat).contains src.toNat then s.ckptDrained tag.toNat src.toNat else s)
/-- COPY (R429): the package stages its part and answers STAGED. -/
def execCopy (tag : BitVec 20) (n : BitVec 32) (s : State) : Host.Outcome State Fault Refusal :=
  let comp := tag.toNat
  let k := s.ckpt? comp
  s.live (
    if k.frozen && k.drainSent && decide (k.n = n.toNat) && !s.coordinates comp then
      (s.ckptStage comp k.n).hubMsg ((s.stripe comp).headD 0) 0x1103 comp 0 (leBytes 4 comp ++ leBytes 4 k.n)
    else s)
/-- STAGED (R429): the last one commits the checkpoint. -/
def execStaged (tag : BitVec 20) (n : BitVec 32) (src : BitVec 16) (s : State) : Host.Outcome State Fault Refusal :=
  s.live (
    if s.ckptOpen tag.toNat n.toNat && decide ((s.ckpt? tag.toNat).phase = 2) && (s.stripe tag.toNat).contains src.toNat then
      s.ckptStaged tag.toNat src.toNat
    else s)
/-- CKPT_COMMIT (R429). -/
def execCkptCommit (tag : BitVec 20) (n : BitVec 32) (s : State) : Host.Outcome State Fault Refusal :=
  let k := s.ckpt? tag.toNat
  s.live (if k.frozen && decide (k.n = n.toNat) && !s.coordinates tag.toNat then s.ckptKeep tag.toNat n.toNat else s)
/-- CKPT_ABORT (R433). -/
def execCkptAbort (tag : BitVec 20) (n : BitVec 32) (s : State) : Host.Outcome State Fault Refusal :=
  let k := s.ckpt? tag.toNat
  s.live (if k.frozen && decide (k.n = n.toNat) && !s.coordinates tag.toNat then s.ckptDrop tag.toNat n.toNat else s)
/-- The coordinator gives a checkpoint up (R433). -/
def State.ckptFail (s : State) (comp : Nat) : State :=
  let n := (s.ckpt? comp).n
  ((s.ckptSay comp 0x1105 n).ckptDrop comp n).ckptAnswer comp stPeer
/-- Checkpoints that this package coordinates are given up when a package of their stripe list in this pod is gone (R433). -/
def State.ckptLost (s : State) (gone : Nat → Bool) : State :=
  s.ckpt.foldl (fun (s : State) e =>
    if decide (e.2.phase ≠ 0) && s.coordinates e.1 && (s.stripe e.1).any (fun p => p / 64 == s.pod && gone (p % 64))
    then s.ckptFail e.1 else s) s
/-- CKPT_TIMEOUT (R433): the timeout of a checkpoint expires at the coordinator. -/
def execCkptTimeout (tag : BitVec 20) (s : State) : Host.Outcome State Fault Refusal :=
  let comp := tag.toNat
  let k := s.ckpt? comp
  let tmo := s.rd rHLT_CKPT_TMO
  s.live (if s.coordinates comp && decide (k.phase ≠ 0 ∧ tmo ≠ 0) then (s.untilDue (k.began + tmo)).ckptFail comp else s)

/-! ### Restore (R434) -/

/-- Agents attached to the composition's segments are detached, and what waited for a line of theirs ends. -/
def State.detachComp (s : State) (comp : Nat) : State :=
  let mine (c : Nat) := s.compOf? c == some comp
  let gone := s.home.attach.filter (fun a => mine a.ctx)
  let s := gone.foldl (fun s a => s.hubMsg a.port 0x0C01 comp a.ctx
    (leBytes 2 a.ctx ++ leBytes 1 a.seg ++ leBytes 1 a.agent ++ leBytes 4 comp)) s
  let left := s.home.attach.filter (fun a => !mine a.ctx)
  let s := { s with home := { s.home with
    attach := left
    leases := s.home.leases.filter (fun e => left.any (fun a => decide (e.1 = a.port * 16 + a.agent)))
    trk := s.home.trk.filter (fun e => e.2.comp ≠ comp) } }
  s.home.txns.foldl (fun s e =>
    if e.2.comp ≠ comp then s
    else
      let s := match e.2.act with
        | .coh _ l h _ => s.nackReq l h 0x04
        | .req _ l h _ => s.nackReq l h 0x04
        | _ => s
      s.txnEnd e.1) s
/-- What the image says of a context: its state, queue, kernel and numbers (R431); the rest stands. -/
def Ctx.restore (x img : Ctx) : Ctx :=
  { x with
    st := img.st, queue := img.queue, kernel := img.kernel, nextSeq := img.nextSeq, hubOn := false, sends := [],
    held := img.held
    rings := x.rings.mapV (fun r (k : Ring) => { k with m := ((img.rings.find? r).map (·.m)).getD k.m })
    intakes := x.intakes.mapV (fun q (i : Intake) => match img.intakes.find? q with
      | some b => { i with n := b.n, told := b.n } | Option.none => i)
    posts := x.posts.mapV (fun a (p : Post) => match img.posts.find? a with
      | some b => { p with used := b.used, m := b.m, told := b.m } | Option.none => p) }
/-- A unit as the image left it: stalls have no record yet. -/
def Unt.restore (x : Unt) (now : Nat) (tmo : Nat → Nat) : Unt :=
  let fresh (th : Thread) (y : Stall) : Stall :=
    { y with slotNo := Option.none, delayed := false, count := now,
             expiry := if tmo th.ctx = 0 then Option.none else some (now + tmo th.ctx) }
  { x with th := x.th.map (fun (th : Thread) => { th with stall := th.stall.map (fresh th) }) }
/-- Pins of the kernels of a composition. -/
def State.compPins (s : State) (comp : Nat) : List Nat :=
  (s.compCtxs comp).flatMap (fun c => match (s.ctx c).kernel with
    | some k => k.pins.filterMap id | Option.none => [])
/-- Load the state image of a composition (R434 steps 4 and 5). -/
def State.loadImage (s : State) (comp : Nat) (img : Image) : State :=
  let cs := s.compCtxs comp
  let old := s.compPins comp
  let units := img.units.mapV (fun _ x => x.restore s.count (fun c => (s.ctx c).svcTmo))
  let s := { s.mend (s.wordOf comp) with
    units := Assoc.plus (s.units.filter (fun e => !s.unitOf comp e.1)) units
    shelf := img.shelf.foldl (fun m (c : Nat × Byte) => Memory.set m c.1 c.2) (s.shelf.filter (fun c => !s.unitOf comp (c.1 / 2 ^ 14)))
    spois := img.spois.foldl NatSet.add (s.spois.filter (fun r => !s.unitOf comp (r / 256)))
    ctxs := s.ctxs.mapV (fun c x => if cs.contains c then x.restore (img.ctxs.getD c .reset) else x)
    groups := Assoc.plus (s.groups.filter (fun e => !cs.contains e.2.ctx)) img.groups
    taken := Assoc.plus (s.taken.filter (fun e => !cs.contains (e.1 % 4096))) img.taken
    rcache := s.rcache.filter (fun e => s.rgnComp e.1 ≠ some comp)
    srch := Assoc.plus (s.srch.filter (fun e => !cs.contains e.1)) img.srch
    repro := { s.repro with
      exact := Assoc.plus (s.repro.exact.filter (fun e => e.2.comp ≠ comp)) img.exact
      held := s.repro.held.filter (fun h => h.comp ≠ comp)
      waits := s.repro.waits.filter (fun h => h.comp ≠ comp) }
    emb := { s.emb with
      runs := Assoc.plus (s.emb.runs.filter (fun e => !cs.contains e.1)) img.runs
      tabs := Assoc.plus (s.emb.tabs.filter (fun e => !cs.contains (e.1 / 64))) img.tabs
      staged := s.emb.staged.filter (fun e => !cs.contains e.1)
      pres := s.emb.pres.filter (fun e => !cs.contains (e.1 / 64)) }
    gly := { s.gly with reqs := s.gly.reqs.mapV (fun _ (r : OutReq) => if r.comp = comp then { r with use := .other } else r) } }
  let s := img.choices.foldl (fun s e => s.wr rREPRO_CHOICES e.1 0 e.2) s
  let s := (s.compPins comp).foldl (fun (s : State) k => s.updVint k (fun v => { v with pins := v.pins + 1 })) s
  let s := old.foldl (fun (s : State) k => s.unpinVint k) s
  s.closeRecs (fun r => cs.contains r.ctx)
/-- Return a composition, frozen on this package, to its last committed checkpoint (R434 steps 3 to 6); the Bool says that it
could, and where it could not the composition is thawed. -/
def State.restoreLoad (s : State) (comp : Nat) : Bool × State :=
  let k := s.ckpt? comp
  let b := s.buddy comp
  let reach := decide (k.far = []) || (decide (b / 64 = s.pod) && s.healthy (b % 64)) || decide (b / 64 ≠ s.pod)
  let fail (n : Nat) : Bool × State :=
    let s := (s.compCtxs comp).foldl (fun s c => s.abortKernel c 3 Option.none) s
    (false, (s.thaw comp).raise { code := 0x011B, sev := 4, comp := comp, d0 := comp, d1 := n })
  match k.image with
  | Option.none => fail 0
  | some img =>
    if !reach then fail img.n
    else
      let bad : List Nat := (s.rgns.filter (fun e => e.2.failed && s.rgnComp e.1 == some comp)).map Prod.fst
      let s := bad.foldl State.retireOr s
      let s := (k.undo ++ k.far).foldl (fun s e => s.undoPage e.1 e.2) s
      let s := ((s.loadImage comp img).undoDrop comp).detachComp comp
      let s := s.updCkpt comp (fun k => { k with n := img.n, q := Option.none })
      (true, (s.inc rHLT_RESTORE 15 0).raise
        { code := 0x011A, sev := 3, comp := comp, d0 := comp, d1 := img.n, d2 := b2n (k.far ≠ []) })
/-- Return a composition to its last committed checkpoint and thaw it (R434). -/
def State.restoreHere (s : State) (comp : Nat) : Bool × State :=
  let r := s.restoreLoad comp
  (r.1, if r.1 then r.2.thaw comp else r.2)
/-- What an image holds of a composition on this package. -/
def Image.within (i : Image) (s : State) (comp : Nat) : Image :=
  let cs := s.compCtxs comp
  { i with
    units := i.units.filter (fun e => s.unitOf comp e.1)
    shelf := i.shelf.filter (fun c => s.unitOf comp (c.1 / 2 ^ 14))
    spois := i.spois.filter (fun r => s.unitOf comp (r / 256))
    ctxs := i.ctxs.filter (fun e => cs.contains e.1)
    groups := i.groups.filter (fun e => cs.contains e.2.ctx)
    taken := i.taken.filter (fun e => cs.contains (e.1 % 4096))
    exact := i.exact.filter (fun e => decide (e.2.comp = comp))
    choices := i.choices.filter (fun e => cs.contains e.1)
    srch := i.srch.filter (fun e => cs.contains e.1)
    runs := i.runs.filter (fun e => cs.contains e.1)
    tabs := i.tabs.filter (fun e => cs.contains (e.1 / 64)) }
/-- The spare loads the failed package's image and pages from its buddy (R436); what they hold is free, and the pages take
their places here. -/
def State.spareLoads (s : State) (comp : Nat) : State :=
  let img := (Config.peerImage s.nonce).within s comp
  let got := Config.peerPages s.nonce
  let s := img.ctxs.foldl (fun (s : State) e => s.updCtx e.1 (fun _ => e.2)) s.tick
  let s := img.ctxs.foldl (fun (s : State) c => c.2.segs.foldl (fun (s : State) e =>
    let r := s.takePages comp e.2.pages.keys
    r.2.updCtx c.1 (fun x => { x with segs := x.segs.put e.1 { e.2 with pages := r.1 } })) s) s
  let own (page : Nat) : Bool := s.pageOwner.find? page == some comp
  let s := { s.mend (fun (p : Spot) => match p with | .line l => own (l / 2 ^ 15) | _ => false) with
    larder := (got.cells.filter (fun (c : Nat × Byte) => own (c.1 / 2 ^ 21))).foldl (fun m (c : Nat × Byte) => Memory.set m c.1 c.2) s.larder
    lpois := (got.pois.filter (fun (l : Nat) => own (l / 2 ^ 15))).foldl NatSet.add s.lpois }
  let s := (s.loadImage comp img).updCkpt comp (fun k => { k with
    enabled := true, n := img.n, image := some img, step := 1 + Config.draw s.nonce % max 1 ((s.stripe comp).length - 1),
    interval := Config.draw (s.nonce + 1) % 2 ^ 32, lastAt := s.count })
  (s.tick.tick.inc rHLT_RESTORE 15 0).raise { code := 0x011A, sev := 3, comp := comp, d0 := comp, d1 := img.n, d2 := 1 }
/-- After a takeover every package stays frozen until the package whose buddy failed has sent its full image to the spare and
the checkpoint is committed again (R436); that package answers STAGED for it. -/
def State.recommit (s : State) (comp failed : Nat) : State :=
  let l := s.stripe comp
  let len := max 1 l.length
  let step := (s.ckpt? comp).step
  let i := l.findIdx (· == s.pod * 64 + failed)
  let before := l.getD ((i + len - step % len) % len) s.self
  let lead := s.coordinates comp
  let bytes := s.imageBytes comp
  let s := s.updCkpt comp (fun k => { k with
    frozen := true, frozeAt := s.count, drainSent := true, taken := k.image, phase := if lead then 2 else 0, began := s.count,
    bytes := bytes, staged := (l.filter (· ≠ before)).foldl NatSet.add [] })
  let n := (s.ckpt? comp).n
  if before ≠ s.self then s
  else
    let s := s.send (.msg (s.pod * 64 + failed) 60 [comp, n, bytes])
    if lead then s.ckptStaged comp s.self else s.hubMsg (l.headD 0) 0x1103 comp 0 (leBytes 4 comp ++ leBytes 4 n)
/-- RESTORE (R434). -/
def execRestore (tag : BitVec 20) (n : BitVec 32) (s : State) : Host.Outcome State Fault Refusal :=
  let comp := tag.toNat
  s.live (
    if (s.stripe comp).contains s.self && !s.coordinates comp && ((s.ckpt? comp).image.map (·.n)) == some n.toNat then
      ((s.freeze comp n.toNat).restoreHere comp).2
    else s)

/-! ### The descriptors (R428, R429, R434) -/

/-- CKPT_SET (R428). -/
def State.ckptSet (s : State) (w : Nat) (d : Vec) : Ctl :=
  let t := cTarget d
  let comp := s.compOf t
  let n := (s.stripe comp).length
  let step := fieldOf d 20 2
  let on := bitOf (fieldOf d 18 1) 0
  if !s.ctlTarget w t ∨ !s.coordinates comp then s.no stBounds
  else if n ≤ 1 then s.no stState
  else if on = true ∧ (step = 0 ∨ n ≤ step) then s.no stMalformed
  else if (s.ckpt? comp).phase ≠ 0 then s.no stBusy
  else if on then
    (s.updCkpt comp (fun k => { k with enabled := true, step := step, interval := fieldOf d 24 4, lastAt := s.count })).yes
  else ((s.undoDrop comp).updCkpt comp (fun k => { k with enabled := false, image := Option.none })).yes
/-- CKPT_TAKE and CKPT_RESTORE at consumption: accepted at the coordinator of a composition whose checkpoints are
enabled, and for a restore one that has a committed checkpoint. -/
def State.ckptTakeCheck (s : State) (w op : Nat) (d : Vec) : Option Nat :=
  let t := cTarget d
  let comp := s.compOf t
  if !s.ctlTarget w t ∨ !s.coordinates comp then some stBounds
  else if !(s.ckpt? comp).enabled ∨ (op = 0x202 ∧ (s.ckpt? comp).image.isNone) then some stState
  else Option.none
/-- Run CKPT_TAKE or CKPT_RESTORE; one that meets a checkpoint in progress waits. -/
def State.ckptRun (s : State) (c : Nat) (q : QDesc) : State :=
  let comp := s.compOf (cTarget q.d)
  let k := s.ckpt? comp
  if q.op = 0x201 then
    if k.phase ≠ 0 then s
    else (s.updCtx c (fun x => { x with queue := dropFirst (fun y => decide (y = q)) x.queue })).ckptBegin comp (some (c, q))
  else if k.phase ≠ 0 then s
  else
    let s := s.updCtx c (fun x => { x with queue := dropFirst (fun y => decide (y = q)) x.queue })
    let s := s.ckptSay comp 0x1106 ((k.image.map (·.n)).getD 0)
    let r := (s.freeze comp ((k.image.map (·.n)).getD 0)).restoreHere comp
    r.2.complete c q { status := if r.1 then stOK else stPeer }

end Sys2Proof.Machine
end

