-- ==== Sys2Proof/Machine/Switch.lean ====
section
/-! DEFINITION. The switch core: admission, colour, drop and marking, arbitration, PFC, mirroring and partitioned
arbitration (R333 to R349). -/

namespace Sys2Proof.Machine

/-! ### Ports and classes (Tables 13-1 and 13-2) -/

/-- Cell port that serves a switch port. -/
def cellPort (p : Nat) : Nat :=
  if p < 8 then p
  else if p < 24 then 8 + (p - 8) / 2
  else if p < 40 then 16 + (p - 24) / 8
  else if p < 56 then 18 + (p - 40) / 4
  else if p = 56 then 22 else 23
/-- The Ethernet port of a switch port. -/
def ethOf (p : Nat) : Option Nat := if 24 ≤ p ∧ p < 40 then some (p - 24) else none
/-- Whether a physical port runs split (ETH_CTRL of its even port). -/
def State.ethSplit (s : State) (e : Nat) : Bool := s.fld rETH_CTRL 1 1 (e / 2 * 2) == 1
/-- Whether an Ethernet port exists under SPLIT (Table 14-1). -/
def State.ethPresent (s : State) (e : Nat) : Bool := e % 2 == 0 || s.ethSplit e
/-- An Ethernet port. -/
def State.eport (s : State) (e : Nat) : EPort := s.eth.ports.getD e .reset
/-- Line rate of a switch port in 0.1 GB/s (Table 13-1). -/
def State.lineRate (s : State) (p : Nat) : Nat :=
  match ethOf p with
  | some e => if s.ethSplit e then 250 else 500
  | none => if p < 8 ∨ p = 57 then 4096 else 1000
/-- Whether a class is lossless (R334). -/
def State.lossless (s : State) (c : Nat) : Bool := decide (4 ≤ c) || s.fld rSWC_CLASS 0 0 c == 1
/-- The class of an Ethernet priority (R334, SWC_PRIO_MAP). -/
def State.classOfPrio (s : State) (p : Nat) : Nat := min 3 (bits (s.rd rSWC_PRIO_MAP) (3 * p + 2) (3 * p))
/-- The priorities that map to a class, as a mask. -/
def State.priosOf (s : State) (c : Nat) : Nat :=
  (List.range 8).foldl (fun m p => if s.classOfPrio p = c then m + 2 ^ p else m) 0
/-- Cells that `n` bytes occupy (R333). -/
def cellsOf (n : Nat) : Nat := max 1 ((n + 239) / 240)
/-- Change the switch core. -/
def State.updSwc (s : State) (f : Swc → Swc) : State := { s with swc := f s.swc }

/-! ### The schedule (R347, R395) -/

/-- Whether a schedule word gives its slot to an owner (SWC_PART_SCHED). -/
def slotGives (w owner : Nat) : Bool :=
  bitOf w 21 && (if bitOf w 20 then owner == 0 else decide (owner ≠ 0 ∧ w % 2 ^ 20 = owner))
/-- Whether partitioned arbitration is set. -/
def State.partEn (s : State) : Bool := s.fld rSWC_CFG 8 8 == 1
/-- Slots of the schedule in force that an owner has. -/
def State.slotsOf (s : State) (owner : Nat) : Nat := (s.swc.sched.filter (fun w => slotGives w owner)).length
/-- Whether an output may serve an owner now. -/
def State.slotOk (s : State) (owner : Nat) : Bool := !s.partEn || slotGives (s.swc.sched.getD s.swc.slot 0) owner
/-- The schedule as the registers hold it. -/
def State.schedRegs (s : State) : List Nat := (List.range 64).map (fun j => s.rd rSWC_PART_SCHED j)

/-! ### Buffer accounting (R338, R339, R348) -/

/-- Whether a cell is charged to a triple. -/
def Cell.on (x : Cell) (cp cls owner : Nat) : Bool :=
  decide (cellPort x.inp = cp ∧ x.cls = cls ∧ x.owner = owner)
/-- Cells of a triple charged to `from_`. -/
def State.tripleFrom (s : State) (cp cls owner from_ : Nat) : Nat :=
  (s.swc.cells.filter (fun x => x.on cp cls owner && x.from_ == from_)).length
/-- R[c] of a composition. -/
def State.swcRes (s : State) (owner cls : Nat) : Nat := ((s.partOf owner).map (fun p => p.swcRes.getD cls 0)).getD 0
/-- Free cells of the pool: the buffer less the system reserve, the reserves of the compositions (or, where a triple still
holds more, what it holds) and the pool's own cells (R338, R340). -/
def State.poolFree (s : State) : Nat :=
  let own := s.map.comps.keys.map (fun t => 24 * ((List.range 8).map (s.swcRes t)).sum)
  let res := s.swc.cells.filter (fun x => x.from_ == 0)
  let beyond := ((res.map (fun x => (cellPort x.inp, x.cls, x.owner))).eraseDups).map (fun k =>
    s.tripleFrom k.1 k.2.1 k.2.2 0 - s.swcRes k.2.2 k.2.1)
  522240 - own.sum - beyond.sum - (s.swc.cells.filter (fun x => x.from_ == 1)).length
/-- Cells of the system reserve outside the class floors that are free (R338). -/
def State.sysFree (s : State) : Nat := 896 - (s.swc.cells.filter (fun x => x.from_ == 2)).length
/-- ALPHA (SWC_CFG). -/
def State.alpha (s : State) : Nat := min 8 (s.fld rSWC_CFG 7 4)
/-- Pool cells that an owner holds. -/
def State.ownerPool (s : State) (owner : Nat) : Nat :=
  (s.swc.cells.filter (fun x => x.from_ == 1 && x.owner == owner)).length
/-- Whether step 2 of R339 admits `k` more cells of a triple at once. -/
def State.poolTakes (s : State) (cp cls owner k : Nat) : Bool :=
  let f := s.poolFree
  let n := s.tripleFrom cp cls owner 1
  decide (k ≤ f ∧ 16 * (n + k - 1) < f * 2 ^ s.alpha) &&
    (!s.partEn || decide (s.ownerPool owner + k ≤ 8160 * s.slotsOf owner))
/-- Room of step 1 of R339 for a triple: its reserve, or the system's floor and reserve. -/
def State.resRoom (s : State) (cp cls owner : Nat) : Nat :=
  if owner = 0 then
    (if 5 ≤ cls then 16 - s.tripleFrom cp cls 0 3 else 0) + s.sysFree
  else s.swcRes owner cls - s.tripleFrom cp cls owner 0
/-- What the next cell of a triple is charged to under step 1. -/
def State.resFrom (s : State) (cp cls owner : Nat) : Nat :=
  if owner = 0 then (if 5 ≤ cls ∧ s.tripleFrom cp cls 0 3 < 16 then 3 else 2) else 0
/-- Where the next cell of a triple is admitted, if anywhere (R339). -/
def State.cellFrom (s : State) (cp cls owner : Nat) : Option Nat :=
  if 0 < s.resRoom cp cls owner then some (s.resFrom cp cls owner)
  else if s.poolTakes cp cls owner 1 then some 1
  else none
/-- Cells that steps 1 and 2 could still take for a triple (R344). -/
def State.room (s : State) (cp cls owner : Nat) : Nat :=
  let f := s.poolFree
  let a := f * 2 ^ s.alpha
  let n := 16 * s.tripleFrom cp cls owner 1
  let d := 16 + 2 ^ s.alpha
  let k := min f ((a - n + d - 1) / d)
  s.resRoom cp cls owner + (if s.partEn then min k (8160 * s.slotsOf owner - s.ownerPool owner) else k)
/-- Hold a cell. -/
def State.cellIn (s : State) (x : Cell) : State := s.updSwc (fun w => { w with cells := w.cells ++ [x] })
/-- Whether a cell of an output's class is queued. -/
def State.outQueue (s : State) (out cls : Nat) : List Cell := s.swc.cells.filter (fun x => x.out == out && x.cls == cls)

/-! ### Lossless Ethernet classes (R344) -/

/-- Whether a triple's Ethernet input is paused. -/
def State.isPaused (s : State) (e cls owner : Nat) : Bool := s.swc.paused.contains (e, cls, owner)
/-- Send the pause or the resume that a triple's room now calls for. -/
def State.pauseCheck (s : State) (x : Nat × Nat × Nat) : State :=
  let room := s.room (cellPort (24 + x.1)) x.2.1 x.2.2
  let head := s.fld rSWC_PFC 15 0 x.1
  let others (l : List (Nat × Nat × Nat)) : Bool := l.any (fun y => decide (y ≠ x ∧ y.1 = x.1 ∧ y.2.1 = x.2.1))
  if !s.lossless x.2.1 then s
  else if s.swc.paused.contains x then
    if head + s.fld rSWC_PFC 31 16 x.1 ≤ room then
      let s := s.updSwc (fun w => { w with paused := w.paused.filter (fun y => decide (y ≠ x)) })
      if others s.swc.paused then s else s.send (.pfc x.1 (s.priosOf x.2.1) false)
    else s
  else if room ≤ head then
    let was := others s.swc.paused
    let s := s.updSwc (fun w => { w with paused := w.paused ++ [x] })
    if was then s else (s.inc rSWC_PAUSE 31 0).send (.pfc x.1 (s.priosOf x.2.1) true)
  else s
/-- Look at the pause of the input that a cell came from, and at every pause in force. -/
def State.pauses (s : State) (inp cls owner : Nat) : State :=
  let s := match ethOf inp with
    | some e => if cls < 4 then s.pauseCheck (e, cls, owner) else s
    | none => s
  s.swc.paused.foldl State.pauseCheck s

/-! ### Mirroring (R345, R346) -/

/-- Whether a composition's entry is sealed. -/
def State.closedComp (s : State) (tag : Nat) : Bool := match s.map.comps.find? tag with | some c => c.closed | none => false
/-- Whether a session copies a frame or message that enters (or leaves). -/
def State.mirrors (s : State) (n : Nat) (enters : Bool) (x : Cell) : Bool :=
  let m := s.rd rSWC_MIR n
  let ty := bits m 2 1
  bitOf m 0 && !x.copy &&
  (if ty = 0 then enters && decide (x.inp = bits m 8 3)
   else if ty = 1 then !enters && decide (x.out = bits m 8 3)
   else if ty = 2 then enters && decide (x.owner = bits m 51 32)
   else enters && (match x.ip with
     | some t => t.v6 == bitOf m 352 && t.proto.toNat == bits m 63 56 && t.sport.toNat == bits m 79 64 &&
         t.dport.toNat == bits m 95 80 &&
         (if t.v6 then t.src.toNat == bits m 223 96 && t.dst.toNat == bits m 351 224
          else t.src.toNat % 2 ^ 32 == bits m 127 96 && t.dst.toNat % 2 ^ 32 == bits m 255 224)
     | none => false))
/-- Bytes of a session's copy of `n` bytes. -/
def State.copyBytes (s : State) (m : Nat) (x : Cell) (n : Nat) : Nat :=
  let t := s.fld rSWC_MIR 20 13 m
  let n := if t = 0 then n else min n (64 * t)
  if (ethOf x.inp).isSome then n else 34 + n
/-- Make one session's copy, or count why there is none. -/
def State.mirrorOne (s : State) (m : Nat) (x : Cell) (n : Nat) : State :=
  let dest := s.fld rSWC_MIR 12 9 m
  let lost (s : State) (cause : Nat) : State :=
    (s.inc rSWC_MIR_DROP 31 0).raise { code := 0x0702, sev := 0, d0 := m, d1 := cause }
  if s.closedComp x.owner then s.inc rSWC_MIR_SKIP 31 0 0 0 (cellsOf n)
  else if !s.ethPresent dest || (s.eport dest).link != 2 then lost s 1
  else
    let k := cellsOf (s.copyBytes m x n)
    if s.poolFree ≤ k then lost s 0
    else (List.range k).foldl (fun (s : State) i => s.cellIn
      { inp := x.inp, out := 24 + dest, cls := 0, owner := 0, from_ := 1,
        first := if i = 0 then some (s.copyBytes m x n) else none, ip := none, copy := true }) s
/-- The copies of a frame or message as its first cell enters or leaves. -/
def State.mirror (s : State) (enters : Bool) (x : Cell) : State :=
  match x.first with
  | none => s
  | some n => (List.range 4).foldl (fun (s : State) m => if s.mirrors m enters x then s.mirrorOne m x n else s) s

/-! ### Admission of cells (R337 to R339, R344) -/

/-- Whether a cell accepted now cuts through (R337). -/
def State.cutsThrough (s : State) (x : Cell) : Bool :=
  s.fld rSWC_CFG 0 0 == 1 && !s.swc.cells.any (fun y => y.out == x.out) && s.slotOk x.owner &&
    decide (s.lineRate x.out ≤ s.lineRate x.inp)
/-- Admit a cell charged to `from_`. -/
def State.enterCells (s : State) (x : Cell) (from_ : Nat) : State :=
  let s := if s.cutsThrough x then s.inc rSWC_CUT 63 0 else s
  (s.cellIn { x with from_ := from_ }).pauses x.inp x.cls x.owner
/-- A frame that a paused input can no longer hold is dropped, counted and reported (R344). -/
def State.overrun (s : State) (x : Cell) : State :=
  let prio := ((List.range 8).find? (fun p => s.classOfPrio p = x.cls)).getD 0
  (s.inc rSWC_PFC_OVERRUN 31 0).raise { code := 0x0701, sev := 2, comp := x.owner, d0 := (ethOf x.inp).getD 0, d1 := prio }
/-- A cell of a lossless class, or of the inside of the package: admitted, or its input is held and counted. -/
def State.cellAdmit (s : State) (x : Cell) : State :=
  let cp := cellPort x.inp
  let paused := match ethOf x.inp with | some e => s.isPaused e x.cls x.owner | none => false
  match s.cellFrom cp x.cls x.owner with
  | some f => s.enterCells x f
  | none =>
    if !s.lossless x.cls then
      (s.inc rSWC_DROP 63 0 3).raise { code := 0x0700, sev := 0, comp := x.owner, d0 := x.inp, d1 := x.cls, d2 := 0 }
    else if !paused then (s.inc rSWC_BP 63 0).pauses x.inp x.cls x.owner
    else if 0 < s.poolFree then s.enterCells x 1
    else if 0 < s.sysFree then s.enterCells x 2
    else s.overrun x
/-- The next cell of a lossless frame: admitted, held with its input paused and then taken past the threshold, or, false, more
than all of that can hold (R339, R344). -/
def State.frameCell (s : State) (x : Cell) : Bool × State :=
  match s.cellFrom (cellPort x.inp) x.cls x.owner with
  | some f => (true, s.enterCells x f)
  | none =>
    let paused (s : State) : Bool := match ethOf x.inp with | some e => s.isPaused e x.cls x.owner | none => false
    let s := if paused s then s else (s.inc rSWC_BP 63 0).pauses x.inp x.cls x.owner
    if !paused s then (true, s)
    else if 0 < s.poolFree then (true, s.enterCells x 1)
    else if 0 < s.sysFree then (true, s.enterCells x 2)
    else (false, s)
/-- CELL_ADMIT (R337 to R339, R345). -/
def execCellAdmit (inp out : Fin 58) (cls : Fin 8) (owner : BitVec 20) (first : Option Nat) (ip : Option IpTuple) (s : State) :
    Host.Outcome State Fault Refusal :=
  let x : Cell := { inp := inp.val, out := out.val, cls := cls.val, owner := owner.toNat, from_ := 0, first := first, ip := ip,
                    copy := false }
  s.live ((s.mirror true x).cellAdmit x)

/-! ### Colour, drop and marking (R340 to R343) -/

/-- The valid meter of a composition, the lowest-numbered. -/
def State.meterOf (s : State) (owner : Nat) : Option Nat :=
  leastBelow 256 (fun m => s.fld rSWC_METER 20 20 m == 1 && s.fld rSWC_METER 19 0 m == owner)
/-- Depths of a meter's buckets in 2^-6 bytes. -/
def State.meterDepths (s : State) (m : Nat) : Nat × Nat := (64 * s.fld rSWC_METER 103 80 m, 64 * s.fld rSWC_METER 127 104 m)
/-- A meter's buckets now. -/
def State.buckets (s : State) (m : Nat) : Nat × Nat :=
  let d := s.meterDepths m
  let b := s.swc.meters.getD m (d.1, d.2, s.count)
  let t := s.count - b.2.2
  (min d.1 (b.1 + t * s.fld rSWC_METER 55 32 m), min d.2 (b.2.1 + t * s.fld rSWC_METER 79 56 m))
/-- Colour a frame of `n` bytes: 0 green, 1 yellow, 2 red (R341). -/
def State.colour (s : State) (owner n : Nat) : Nat × State :=
  match s.meterOf owner with
  | none => (0, s)
  | some m =>
    let b := s.buckets m
    let put (tc te : Nat) : State := s.updSwc (fun w => { w with meters := w.meters.put m (tc, te, s.count) })
    if 64 * n ≤ b.1 then (0, put (b.1 - 64 * n) b.2)
    else if 64 * n ≤ b.2 then (1, put b.1 (b.2 - 64 * n))
    else (2, put b.1 b.2)
/-- The average depth of an output's class after one more enqueue attempt, in 2^-16 cells (R342). -/
def State.newAvg (s : State) (out cls : Nat) : Nat :=
  let q : Int := (s.outQueue out cls).length * 65536
  let a : Int := s.swc.avg.getD (out * 8 + cls) 0
  (a + (q - a) / 2 ^ s.fld rSWC_CLASS 15 12 cls).toNat
/-- Whether the profile of a class and colour decides to drop at an average depth, with a draw (R342). -/
def State.wredDrops (s : State) (cls col avg draw : Nat) : Bool :=
  let mx := s.fld rSWC_WRED 43 24 cls col
  let mn := s.fld rSWC_WRED 19 0 cls col
  if mx = 0 ∨ avg < mn * 65536 then false
  else if mx * 65536 ≤ avg then true
  else decide (draw % 2 ^ 32 < s.fld rSWC_WRED 55 48 cls col * 2 ^ 24 * (avg - mn * 65536) / ((mx - mn) * 65536))
/-- A dropped frame is counted and reported. -/
def State.frameDrop (s : State) (x : Cell) (k col : Nat) : State :=
  (s.inc rSWC_DROP 63 0 k).raise { code := 0x0700, sev := 0, comp := x.owner, d0 := x.inp, d1 := x.cls, d2 := col }
/-- Admit a lossy frame of `k` cells whole, or refuse it (R340). -/
def State.frameIn (s : State) (x : Cell) (k col : Nat) : State :=
  let cp := cellPort x.inp
  let r := min k (s.resRoom cp x.cls x.owner)
  if r < k ∧ s.poolTakes cp x.cls x.owner (k - r) = false then s.frameDrop x 3 col
  else
    (List.range k).foldl (fun (s : State) i =>
      let y := if i = 0 then x else { x with first := none, ip := none }
      s.enterCells y (if i < r then s.resFrom cp x.cls x.owner else 1)) s
/-- Colour, judge and take in an Ethernet frame (R340 to R344). -/
def State.frameAdmit (s : State) (x : Cell) (n : Nat) (ecn : Bool) : State :=
  let s := s.mirror true x
  let lossy := !s.lossless x.cls
  let c := if lossy then s.colour x.owner n else (0, s)
  let s := c.2
  let avg := s.newAvg x.out x.cls
  let drop := s.wredDrops x.cls c.1 avg (Config.draw s.nonce)
  let s := (s.updSwc (fun w => { w with avg := w.avg.put (x.out * 8 + x.cls) avg })).tick
  let ecnOn := s.fld rSWC_CLASS 1 1 x.cls == 1
  let below := decide (avg < s.fld rSWC_WRED 43 24 x.cls c.1 * 65536)
  let marks := drop && ecn && (!lossy || (ecnOn && below))
  let s := if marks then s.inc rSWC_ECN_MARK 63 0 else s
  if drop && lossy && !marks then s.frameDrop x c.1 c.1
  else if lossy then s.frameIn x (cellsOf n) c.1
  else
    let r := (List.range (cellsOf n)).foldl (fun (a : Bool × State) i =>
      if a.1 then a.2.frameCell (if i = 0 then x else { x with first := none, ip := none }) else a) (true, s)
    if r.1 then r.2 else s.overrun x
/-- FRAME_ADMIT (R340 to R343). -/
def execFrameAdmit (inp out : Fin 58) (cls : Fin 8) (owner : BitVec 20) (bytes : Nat) (ecn : Bool) (ip : Option IpTuple)
    (s : State) : Host.Outcome State Fault Refusal :=
  let x : Cell := { inp := inp.val, out := out.val, cls := cls.val, owner := owner.toNat, from_ := 0, first := some bytes,
                    ip := ip, copy := false }
  s.live (s.frameAdmit x bytes ecn)
/-- A written meter's buckets are full (R341). -/
def State.meterFill (s : State) (m : Nat) : State :=
  let d := s.meterDepths m
  s.updSwc (fun w => { w with meters := w.meters.put m (d.1, d.2, s.count) })
/-- METER_WRITE (R341): the meter takes its fields, and both its buckets fill. -/
def execMeterWrite (m : Fin 256) (v : BitVec 128) (s : State) : Host.Outcome State Fault Refusal :=
  s.live ((s.wrRw rSWC_METER m.val 0 v.toNat).meterFill m.val)

/-! ### Departure (R335, R336, R347) -/

/-- Whether an output can send at all: the link behind it is up. -/
def State.outUp (s : State) (out : Nat) : Bool :=
  match ethOf out with
  | some e => s.ethPresent e && (s.eport e).link == 2
  | none => if 8 ≤ out ∧ out < 24 then (s.gly.links.getD (out - 8) .reset).st == 3 else true
/-- Whether the partner has paused a class on an output (R354). -/
def State.classPaused (s : State) (out cls : Nat) : Bool :=
  match ethOf out with
  | some e => decide (cls < 4) && (s.eport e).paused.any (fun p => bitOf (s.priosOf cls) p.1)
  | none => false
/-- Cells of an output's class that it may serve now; a mirror copy only when there is no other (R346, R347). -/
def State.servable (s : State) (out cls : Nat) : List Cell :=
  if s.classPaused out cls then []
  else
    let l := (s.outQueue out cls).filter (fun x => s.slotOk x.owner)
    let own := l.filter (fun x => !x.copy)
    if own = [] then l else own
/-- The class that follows one in the round robin of classes 4 to 0. -/
def rrNext (c : Nat) : Nat := if c = 0 then 4 else c - 1
/-- The quantum of a class in cells (SWC_CLASS.WEIGHT). -/
def State.quantum (s : State) (c : Nat) : Nat := max 1 (s.fld rSWC_CLASS 11 4 c)
/-- The class an output serves next, with the round robin as it leaves it (R335). -/
def State.nextClass (s : State) (out : Nat) : Option (Nat × (Nat × Nat)) :=
  let d := s.swc.drr.getD out (4, s.quantum 4)
  match [5, 6, 7].find? (fun c => s.servable out c != []) with
  | some c => some (c, d)
  | none =>
    if 0 < d.2 ∧ s.servable out d.1 ≠ [] then some (d.1, (d.1, d.2 - 1))
    else
      let order := [rrNext d.1, rrNext (rrNext d.1), rrNext (rrNext (rrNext d.1)), rrNext (rrNext (rrNext (rrNext d.1))), d.1]
      (order.find? (fun c => s.servable out c != [])).map (fun c => (c, (c, s.quantum c - 1)))
/-- The cell of a class that an output serves: the first of the input that its rotating pointer, or under RATTLE_ARB.SWITCH
one drawn at random, reaches (R335, R336, R440). -/
def State.nextCell (s : State) (out cls : Nat) : Option Cell :=
  let l := s.servable out cls
  let p := if s.fld rRATTLE_ARB 1 1 = 1 then Config.draw s.nonce % 58 else s.swc.ptr.getD (out * 8 + cls) 0
  let inp := ((List.range 58).map (fun i => (p + i) % 58)).find? (fun i => l.any (fun x => x.inp == i))
  l.find? (fun x => some x.inp == inp)
/-- MACsec's next packet number of a port that protects what it sends (R355). -/
def State.macsecSent (s : State) (out : Nat) (x : Cell) : State :=
  match ethOf out with
  | some e =>
    if s.fld rETH_CTRL 4 4 e = 0 ∨ x.first = none then s
    else match (List.range 2).find? (fun k => s.fld rETH_MACSEC_SA 451 451 e k == 1) with
      | some k =>
        let top := if s.fld rETH_MACSEC_CFG 0 0 e = 1 then 447 else 415
        s.setFld rETH_MACSEC_SA top 384 ((s.fld rETH_MACSEC_SA top 384 e k + 1) % 2 ^ (top - 383)) e k
      | none => s
  | none => s
/-- CELL_DEPART (R335): an output sends one cell. -/
def execCellDepart (out : Fin 58) (s : State) : Host.Outcome State Fault Refusal :=
  let o := out.val
  s.live (
    if !s.outUp o then s
    else match s.nextClass o with
    | none => s
    | some (c, d) => match s.nextCell o c with
      | none => s
      | some x =>
        let s := s.updSwc (fun w => { w with
          cells := w.cells.erase x
          ptr := w.ptr.put (o * 8 + c) ((x.inp + 1) % 58)
          drr := w.drr.put o d })
        ((s.macsecSent o x).mirror false x).pauses x.inp x.cls x.owner)
/-- PARTITION_SLOT_END (R347): the next slot of the schedule begins; a written schedule takes effect at slot 0. -/
def execPartitionSlotEnd (s : State) : Host.Outcome State Fault Refusal :=
  s.live (
    if !s.partEn then s
    else
      let n := (s.swc.slot + 1) % 64
      s.updSwc (fun w => { w with slot := n, sched := if n = 0 then s.schedRegs else w.sched }))

end Sys2Proof.Machine
end

