-- ==== Sys2Proof/Machine/Eth.lean ====
section
/-! DEFINITION. Ethernet ports: links, received frames, PFC, MACsec checks, addresses and link partners (R350 to R356, R374,
R375). -/

namespace Sys2Proof.Machine

/-! ### Ports (R350, R351, R466) -/

/-- Change an Ethernet port. -/
def State.updEport (s : State) (e : Nat) (f : EPort → EPort) : State :=
  { s with eth := { s.eth with ports := s.eth.ports.put e (f (s.eport e)) } }
/-- Whether a port works: the package runs and the port exists, or the recovery loader runs and it is port 0 (R350, R466). -/
def State.ethLive (s : State) (e : Nat) : Bool :=
  if s.dead then s.start.mode == .loader && e == 0 else s.ethPresent e
/-- The outcome of a command of a port that works. -/
def State.onEth (s : State) (e : Nat) (s' : State) : Host.Outcome State Fault Refusal := .next (if s.ethLive e then s' else s)
/-- Whether a port's link is up. -/
def State.ethUp (s : State) (e : Nat) : Bool := (s.eport e).link == 2
/-- ETH_CTRL.ENABLE of a port. -/
def State.ethOn (s : State) (e : Nat) : Bool := s.fld rETH_CTRL 0 0 e == 1
/-- MAC address of a port (ETH_MAC). -/
def State.macOf (s : State) (e : Nat) : Nat := s.part.macs.getD e 0

/-! ### Partners (R375, R376) -/

/-- The partner's number in reports: pod and package of its Franan TLV. -/
def EPartner.number (p : EPartner) : Nat :=
  match p.tlv with
  | some t => (t.pod.toNat % 1024 * 64 + t.package.toNat % 64) % 65536
  | none => noPartner
/-- A port's partner departs, when it has one. -/
def State.ethDepart (s : State) (e : Nat) : State :=
  match (s.eport e).partner with
  | none => s
  | some p => (s.updEport e (fun x => { x with partner := none })).partnerDeparts 0 e p.chassis p.number
/-- A port's link leaves Up, or its training begins again: link 0 down, 1 training. -/
def State.ethDown (s : State) (e link : Nat) : State :=
  (s.ethDepart e).updEport e (fun x => { x with link := link, paused := [] })

/-! ### Link commands (R351) -/

/-- ETH_LINK_UP (R351): a link that ENABLE does not hold down is up. -/
def execEthLinkUp (e : Fin 16) (s : State) : Host.Outcome State Fault Refusal :=
  s.onEth e.val (if s.ethOn e.val then s.updEport e.val (fun x => { x with link := 2 }) else s)
/-- ETH_LINK_DOWN (R375). -/
def execEthLinkDown (e : Fin 16) (s : State) : Host.Outcome State Fault Refusal := s.onEth e.val (s.ethDown e.val 0)
/-- RETRAIN: negotiation and training begin again (R351). -/
def State.ethTrain (s : State) (e : Nat) : State := s.ethDown e (if s.ethLive e && s.ethOn e then 1 else 0)
/-- ETH_RETRAIN (R351). -/
def execEthRetrain (e : Fin 16) (s : State) : Host.Outcome State Fault Refusal := s.onEth e.val (s.ethTrain e.val)
/-- SPLIT of a physical port is written: both lane pairs train again, under the ports that then exist (R350, R351). -/
def State.splitWrite (s : State) (n : Nat) (split : Bool) : State :=
  let s := s.setFld rETH_CTRL 1 1 (b2n split) (2 * n)
  (s.ethTrain (2 * n)).ethTrain (2 * n + 1)
/-- ETH_SPLIT (R351). -/
def execEthSplit (n : Fin 8) (split : Bool) (s : State) : Host.Outcome State Fault Refusal := s.live (s.splitWrite n.val split)

/-! ### Frames that a port sends of its own (R356, R374) -/

/-- A frame: destination, source, EtherType and body, padded to 60 bytes; its FCS is not written out. -/
def ethFrame (dst src ty : Nat) (body : List Byte) : List Byte :=
  let f := beB 6 dst ++ beB 6 src ++ beB 2 ty ++ body
  f ++ List.replicate (60 - f.length) 0
where
  /-- Bytes of a number, most significant first. -/
  beB (n x : Nat) : List Byte := (leBytes n x).reverse
/-- An LLDP TLV: type, length and value (IEEE 802.1AB). -/
def lldpTlv (ty : Nat) (v : List Byte) : List Byte := ethFrame.beB 2 (ty * 512 + v.length) ++ v
/-- The Franan TLV's body (R374). -/
def State.franan (s : State) (e : Nat) : List Byte :=
  let held := s.map.podPkg
  leBytes 2 (match held with | some p => p.1 | none => 0x03FF) ++ leBytes 1 (match held with | some p => p.2 | none => 0xFF) ++
  leBytes 1 e ++ leBytes 1 (b2n (s.start.mode == .loader)) ++ leBytes 1 (b2n s.part.gradeT) ++
  leBytes 1 (bits (s.rd rID_DEVICE) 11 4) ++ leBytes 4 (if held.isNone then 0 else s.map.epoch)
/-- An LLDPDU of a port with a Time To Live in seconds (R374). -/
def State.lldpFrame (s : State) (e ttl : Nat) : List Byte :=
  ethFrame 0x0180C200000E (s.macOf e) 0x88CC
    (lldpTlv 1 (leBytes 1 4 ++ ethFrame.beB 6 (s.macOf 0)) ++ lldpTlv 2 (leBytes 1 3 ++ ethFrame.beB 6 (s.macOf e)) ++
     lldpTlv 3 (ethFrame.beB 2 ttl) ++ lldpTlv 127 (ethFrame.beB 3 s.part.oui ++ leBytes 1 1 ++ s.franan e) ++ lldpTlv 0 [])
/-- Counts in a second (R7). -/
abbrev perSecond : Nat := 25000000
/-- The Time To Live that a port sends: four periods in seconds, rounded up, held to its 16 bits. -/
def State.lldpTtl (s : State) : Nat := min 65535 ((4 * s.fld rETH_LLDP 31 0 + perSecond - 1) / perSecond)
/-- Send an LLDPDU where the link is up. -/
def State.lldpSend (s : State) (e ttl : Nat) : State := if s.ethUp e then s.send (.eth e (s.lldpFrame e ttl)) else s
/-- ENABLE of a port is written: 0 sends the shutdown LLDPDU and holds the link down; 1 lets it come up (R374). -/
def State.enableWrite (s : State) (e : Nat) (en : Bool) : State :=
  let was := s.ethOn e
  let s := if was && !en then (s.lldpSend e 0).ethDown e 0 else s
  let s := s.setFld rETH_CTRL 0 0 (b2n en) e
  if en && !was && s.ethLive e then s.updEport e (fun x => { x with link := 1 }) else s
/-- ETH_ENABLE (R374). -/
def execEthEnable (e : Fin 16) (en : Bool) (s : State) : Host.Outcome State Fault Refusal :=
  .next (if s.dead && s.start.mode != .loader then s else s.enableWrite e.val en)

/-! ### Received frames (R352, R353, R355, R356) -/

/-- Count a discarded frame: 0 oversize, 1 FCS, 2 MACsec, 3 other (ETH_RX_ERR). -/
def State.rxErr (s : State) (e k : Nat) : State := s.inc rETH_RX_ERR (63 - 16 * k) (48 - 16 * k) e
/-- Priority of a received frame (R353). -/
def State.rxPrio (s : State) (e : Nat) (f : RxFrame) : Nat :=
  if f.tags = 1 then f.pcp.toNat
  else match f.dscp with
    | some d => let x := d.toNat; s.fld rETH_DSCP_MAP (4 * (x % 8) + 2) (4 * (x % 8)) e (x / 8)
    | none => 0
/-- The receive association that a protected frame names. -/
def State.rxSa (s : State) (e : Nat) (an : Nat) : Option Nat :=
  [2, 3].find? (fun k => s.fld rETH_MACSEC_SA 451 451 e k == 1 && s.fld rETH_MACSEC_SA 449 448 e k == an)
/-- Top bit of the packet number that the cipher suite in use has (ETH_MACSEC_CFG). -/
def State.pnTop (s : State) (e : Nat) : Nat := if s.fld rETH_MACSEC_CFG 0 0 e = 1 then 447 else 415
/-- Check a frame's protection and move the replay window on; none refuses it (R355). -/
def State.macsecCheck (s : State) (e : Nat) (f : RxFrame) : Option State :=
  if f.linkLocal then some s
  else if s.fld rETH_CTRL 4 4 e = 0 then (if f.sec.isNone then some s else none)
  else match f.sec with
    | none => none
    | some (an, pn, good) =>
      match s.rxSa e an.toNat with
      | none => none
      | some k =>
        let top := s.pnTop e
        let low := s.fld rETH_MACSEC_SA top 384 e k
        let n := pn.toNat % 2 ^ (top - 383)
        let next := max low (n + 1 - s.fld rETH_MACSEC_CFG 31 1 e)
        if good && decide (low ≤ n) then some (s.setFld rETH_MACSEC_SA top 384 (next % 2 ^ (top - 383)) e k) else none
/-- Check a received frame and hand it to the switch core (R352, R353, R355, R356). -/
def State.frameRx (s : State) (e : Nat) (f : RxFrame) : State :=
  if 9216 < f.len ∨ 1 < f.tags then s.rxErr e 0
  else if !f.fcsOk then s.rxErr e 1
  else if f.len < 64 then s.rxErr e 3
  else
    match s.macsecCheck e f with
    | none => s.rxErr e (if s.fld rETH_CTRL 4 4 e = 0 then 3 else 2)
    | some s =>
      if !f.accepted then s.rxErr e 3
      else if f.linkLocal then s
      else
        s.frameAdmit { inp := 24 + e, out := f.out.val, cls := s.classOfPrio (s.rxPrio e f), owner := f.owner.toNat, from_ := 0,
                       first := some f.len, ip := f.ip, copy := false } f.len f.ecn
/-- FRAME_RECEIVE (R352). -/
def execFrameReceive (e : Fin 16) (f : RxFrame) (s : State) : Host.Outcome State Fault Refusal :=
  s.onEth e.val (if s.ethUp e.val then s.frameRx e.val f else s)

/-! ### Pauses from the partner (R351, R354) -/

/-- PFC_FRAME (R354): pause quanta end at count `heldTo`; a priority not enabled is counted. -/
def execPfcFrame (e : Fin 16) (prio : Fin 8) (quanta : BitVec 16) (heldTo : Nat) (s : State) :
    Host.Outcome State Fault Refusal :=
  let n := e.val
  s.onEth n (
    if !s.ethUp n then s
    else if s.fld rETH_PFC_EN prio.val prio.val n = 0 then s.inc rETH_PAUSE_X 31 0 n
    else if quanta.toNat = 0 then s.updEport n (fun x => { x with paused := x.paused.del prio.val })
    else s.updEport n (fun x => { x with paused := x.paused.put prio.val (max s.count heldTo) }))
/-- PAUSE_FRAME (R351). -/
def execPauseFrame (e : Fin 16) (s : State) : Host.Outcome State Fault Refusal :=
  s.onEth e.val (if s.ethUp e.val then s.inc rETH_PAUSE_X 31 0 e.val else s)
/-- PFC_QUANTA_EXPIRY (R354). -/
def execPfcQuantaExpiry (e : Fin 16) (prio : Fin 8) (s : State) : Host.Outcome State Fault Refusal :=
  let n := e.val
  s.onEth n (match (s.eport n).paused.find? prio.val with
    | some t => (s.untilDue t).updEport n (fun x => { x with paused := x.paused.del prio.val })
    | none => s)

/-! ### LLDP (R374, R375) -/

/-- Take an LLDPDU: an arrival, a change of identity, a refresh, or a shutdown (R375). -/
def State.lldpTake (s : State) (e chassis portId ttl : Nat) (tlv : Option LldpTlv) : State :=
  let p : EPartner := { chassis := chassis, portId := portId, expiry := s.count + ttl * perSecond, tlv := tlv }
  let put (s : State) : State := s.updEport e (fun x => { x with partner := some p })
  if ttl = 0 then s.ethDepart e
  else
    match (s.eport e).partner with
    | some q =>
      if q.chassis = chassis ∧ q.portId = portId then put s
      else (put (s.ethDepart e)).partnerArrives 0 e chassis p.number
    | none => (put s).partnerArrives 0 e chassis p.number
/-- LLDPDU (R374, R375). -/
def execLldpdu (e : Fin 16) (chassis portId : BitVec 48) (ttl : BitVec 16) (tlv : Option LldpTlv) (s : State) :
    Host.Outcome State Fault Refusal :=
  s.onEth e.val (if s.ethUp e.val then s.lldpTake e.val chassis.toNat portId.toNat ttl.toNat tlv else s)
/-- LLDP_TX_TIMER (R374): each TX_INTERVAL an LLDPDU goes out; 0 sends none. -/
def execLldpTxTimer (e : Fin 16) (s : State) : Host.Outcome State Fault Refusal :=
  let t := s.fld rETH_LLDP 31 0
  s.onEth e.val (
    if t = 0 then s
    else
      let s := s.untilDue ((s.eport e.val).lldpAt + t)
      (s.lldpSend e.val s.lldpTtl).updEport e.val (fun x => { x with lldpAt := s.count }))
/-- LLDP_TTL_EXPIRY (R375). -/
def execLldpTtlExpiry (e : Fin 16) (s : State) : Host.Outcome State Fault Refusal :=
  s.onEth e.val (match (s.eport e.val).partner with
    | some p => (s.untilDue p.expiry).ethDepart e.val
    | none => s)

/-! ### Address resolution (R356) -/

/-- Whether an IPv4 address is one of a port's. -/
def State.ownIp4 (s : State) (e ip : Nat) : Bool :=
  decide (ip ≠ 0) && (if s.start.mode == .loader then s.rd rSTART_LOADER_IP == ip
    else (List.range 4).any (fun i => s.rd rETH_IP4 e i == ip))
/-- Whether an IPv6 address is one of a port's. -/
def State.ownIp6 (s : State) (e ip : Nat) : Bool :=
  decide (ip ≠ 0) && s.start.mode != .loader && (List.range 4).any (fun i => s.rd rETH_IP6 e i == ip)
/-- An ARP reply (RFC 826): `ip` of the port to `sip` at `mac`. -/
def State.arpReply (s : State) (e ip mac sip : Nat) : List Byte :=
  let me := s.macOf e
  ethFrame mac me 0x0806 (ethFrame.beB 2 1 ++ ethFrame.beB 2 0x0800 ++ ethFrame.beB 1 6 ++ ethFrame.beB 1 4 ++
    ethFrame.beB 2 2 ++ ethFrame.beB 6 me ++ ethFrame.beB 4 ip ++ ethFrame.beB 6 mac ++ ethFrame.beB 4 sip)
/-- ARP_REQUEST (R356): answered for an own address; discarded and counted otherwise. -/
def execArpRequest (e : Fin 16) (ip : BitVec 32) (mac : BitVec 48) (sip : BitVec 32) (s : State) :
    Host.Outcome State Fault Refusal :=
  s.onEth e.val (
    if !s.ethUp e.val then s
    else if s.ownIp4 e.val ip.toNat then s.send (.eth e.val (s.arpReply e.val ip.toNat mac.toNat sip.toNat))
    else s.rxErr e.val 3)
/-- Sum of 16-bit big-endian words, for the Internet checksum. -/
def wordSum : List Byte → Nat
  | a :: b :: l => a.toNat * 256 + b.toNat + wordSum l
  | [a] => a.toNat * 256
  | [] => 0
/-- The Internet checksum (RFC 1071) from a sum of words. -/
def checksum (n : Nat) : Nat :=
  let f := n / 65536 + n % 65536
  65535 - (f / 65536 + f % 65536)
/-- A neighbour advertisement (RFC 4861) for `ip`, to the asker, or to all nodes when it has no address yet. -/
def State.neighbourAdvert (s : State) (e ip mac sip : Nat) : List Byte :=
  let me := s.macOf e
  let all := sip == 0
  let dst := if all then 0xFF020000000000000000000000000001 else sip
  let flags := if all then 0x20 else 0x60
  let body (sum : Nat) : List Byte := ethFrame.beB 1 136 ++ ethFrame.beB 1 0 ++ ethFrame.beB 2 sum ++ ethFrame.beB 1 flags ++
    ethFrame.beB 3 0 ++ ethFrame.beB 16 ip ++ ethFrame.beB 1 2 ++ ethFrame.beB 1 1 ++ ethFrame.beB 6 me
  let sum := checksum (wordSum (ethFrame.beB 16 ip ++ ethFrame.beB 16 dst ++ ethFrame.beB 4 32 ++ ethFrame.beB 4 58 ++ body 0))
  ethFrame (if all then 0x333300000001 else mac) me 0x86DD (ethFrame.beB 4 0x60000000 ++ ethFrame.beB 2 32 ++
    ethFrame.beB 1 58 ++ ethFrame.beB 1 255 ++ ethFrame.beB 16 ip ++ ethFrame.beB 16 dst ++ body sum)
/-- NEIGHBOUR_SOLICITATION (R356). -/
def execNeighbourSolicitation (e : Fin 16) (ip : BitVec 128) (mac : BitVec 48) (sip : BitVec 128) (s : State) :
    Host.Outcome State Fault Refusal :=
  s.onEth e.val (
    if !s.ethUp e.val then s
    else if s.ownIp6 e.val ip.toNat then s.send (.eth e.val (s.neighbourAdvert e.val ip.toNat mac.toNat sip.toNat))
    else s.rxErr e.val 3)

end Sys2Proof.Machine
end

