-- ==== Sys2Proof/Machine/Links.lean ====
section
/-! DEFINITION. The link layer of Guelyo links 0–15 and Cellar channels 16–32: bring-up, hellos, flits, retry and credits
(R283 to R292, R299, R482, R483). -/

namespace Sys2Proof.Machine

/-- Hello period in counts (R284). -/
abbrev helloPeriod : Nat := 2 ^ 20
/-- Whether the link is enabled; Cellar channels have no ENABLE and always train. -/
def State.linkOn (s : State) (l : Nat) : Bool := decide (16 ≤ l) || s.fld rGLY_CTRL 0 0 l == 1
/-- Count an event in a Guelyo link's register; Cellar channels have none. -/
def State.linkInc (s : State) (r : RegDef) (hi lo l : Nat) : State := if l < 16 then s.inc r hi lo l else s
/-- The link's keys. -/
def State.linkKey (s : State) (l : Nat) : LinkKey := s.sec.links.getD l .reset
/-- Change the link's keys. -/
def State.updKeys (s : State) (l : Nat) (f : LinkKey → LinkKey) : State :=
  { s with sec := { s.sec with links := s.sec.links.put l (f (s.linkKey l)) } }
/-- Partner of a link as reports name it: pod × 64 + port of a package or agent port, none otherwise. -/
def partnerOf (h : HelloBody) : Nat := if h.role = 0 ∨ h.role = 1 then h.pod.toNat * 64 + h.port.toNat else noPartner
/-- Tell of the arrival or departure of a Guelyo link's partner (Table 14-8). -/
def State.linkPartner (s : State) (l : Nat) (arrival : Bool) : State :=
  match (s.link l).partner with
  | some h =>
    if l < 16 then
      let id := h.identity.toNat % 2 ^ 64
      if arrival then s.partnerArrives 1 l id (partnerOf h) else s.partnerDeparts 1 l id (partnerOf h)
    else s
  | none => s
/-- What a plane reported of its ports is void once its link is not Up. -/
def State.dropPorts (s : State) (l : Nat) : State :=
  { s with gly := { s.gly with ports := s.gly.ports.filter (fun e => e.1 / 64 ≠ l) } }
/-- A link leaves its state for Held, or for Down and, when it is enabled, Training again: what it carried is discarded
(R283).  `cause` is LINK_DOWN's when it was Up. -/
def State.linkLeave (s : State) (l : Nat) (held : Bool) (cause : Nat) : State :=
  let up := (s.link l).st == 3
  let s := if up then
      let s := (s.linkPartner l false).linkInc rGLY_LINK_EVT 15 0 l
      if held ∨ 16 ≤ l then s else s.raise { code := 0x0400, sev := 3, d0 := l, d1 := cause }
    else s
  let s := s.updLink l (fun k => { Link.reset with
    st := if held then 4 else if s.linkOn l then 1 else 0
    entered := s.count
    partner := if held then k.partner else none })
  let s := s.dropPorts l
  if 16 ≤ l ∧ up then (s.updChan (l - 16) (fun x => { x with up := false, downAt := s.count })).celBack (l - 16)
  else if up then s.losePorts
  else s
/-- The first check of R285 that a hello fails, numbered from 1 in the order given there. -/
def State.helloFails (s : State) (l : Nat) (h : HelloBody) : Option Nat :=
  if h.version ≠ 1 then some 1
  else if h.role = 2 ∧ h.plane.toNat ≠ l then some 2
  else if h.role = 2 ∧ s.map.podPkg.isSome = true ∧ h.port.toNat ≠ s.pkg then some 3
  else if decide (h.role = 3) ≠ decide (16 ≤ l) then some 4
  else if 2048 < h.crReq.toNat ∨ 2048 < h.crRsp.toNat ∨ 2048 < h.crSnp.toNat ∨ 2048 < h.crMsg.toNat then some 5
  else none
/-- Hold a link whose hello fails a check (R285). -/
def State.linkHold (s : State) (l check : Nat) : State :=
  (s.linkLeave l true 0).raise { code := 0x0401, sev := 3, d0 := l, d1 := check }
/-- A link's keys are exhausted: they are no longer valid, and LINK_KEY_EXHAUSTED says so (R483). -/
def State.keySpent (s : State) (l : Nat) : State :=
  (s.updKeys l (fun k => { k with valid := false })).raise { code := 0x0306, sev := 3, d0 := l }
/-- A link in Hello enters Up once a valid hello has been received and sent and its keys are installed; it takes the next
Up index of its keys, and exhausted keys keep it in Hello (R283, R482, R483). -/
def State.linkUp (s : State) (l : Nat) : State :=
  let k := s.link l
  let key := s.linkKey l
  match k.partner with
  | none => s
  | some h =>
    if k.st ≠ 2 ∨ !k.helloSent ∨ !key.valid then s
    else if 2 ^ 24 ≤ key.txUp ∨ 2 ^ 24 ≤ key.rxUp then s.keySpent l
    else
      let s := s.updKeys l (fun k => { k with txUp := k.txUp + 1 })
      let s := s.updLink l (fun k => { k with
        st := 3, entered := s.count, txProt := 0, rxProt := 0, authFails := 0
        keys := key, txUp := key.txUp, rxUp := 0, grp := [], grpSeq := 0
        init := [h.crReq.toNat, h.crRsp.toNat, h.crSnp.toNat, h.crMsg.toNat]
        sent := [0, 0, 0, 0], freed := [0, 0, 0, 0], ours := [0, 0, 0, 0], pend := [], fresh := [0, 0, 0, 0] })
      if 16 ≤ l then
        (s.updChan (l - 16) (fun x => { x with up := true, statusAt := s.count })).celPush (l - 16) 0x01 0 0 1 [] |>.celSend (l - 16)
      else s.linkPartner l true
/-- The first 48 bytes of the hello that this package sends on a link (Table 11-2). -/
def State.helloBytes (s : State) (l : Nat) : List Byte :=
  let known := s.map.podPkg.isSome
  leBytes 2 (2 ^ 8) ++ leBytes 2 (if known then s.pod else 0x3FF) ++ leBytes 1 (if known then s.pkg else 0xFF) ++
    leBytes 1 l ++ leBytes 1 0 ++ leBytes 1 0x0F ++ leBytes 2 2048 ++ leBytes 2 2048 ++ leBytes 2 512 ++ leBytes 2 512 ++
    (leBytes 32 s.part.identity).reverse
/-- Resend on a link from a flit on, in order and as each was first sent; a flit resent 16 times takes the link out of Up
(R288 to R291). -/
def State.resendFrom (s : State) (l from_ : Nat) : State :=
  let again (r : RetryFlit) : RetryFlit := if from_ ≤ r.seq then { r with resent := r.resent + 1 } else r
  let s := (s.linkInc rGLY_REPLAY 31 0 l).updLink l (fun k => { k with retry := k.retry.map again, ackAt := s.count })
  if (s.link l).st = 3 ∧ (s.link l).retry.any (fun r => 16 ≤ r.resent) then s.linkLeave l false 1
  else ((s.link l).retry.filter (fun r => decide (from_ ≤ r.seq))).foldl (fun s r => s.flitOut l (r.hdr, r.slots)) s
/-- Take the ACK of a flit: everything up to it is acknowledged (R289). -/
def Link.acked (k : Link) (ack now : Nat) : Link :=
  let n := (ack + 1 + 4096 - k.oldest % 4096) % 4096
  if n = 0 ∨ k.txSeq < k.oldest + n then k
  else { k with oldest := k.oldest + n, retry := k.retry.filter (fun r => k.oldest + n ≤ r.seq), ackAt := now }
/-- Take the cumulative credits of a flit (R292). -/
def Link.credited (k : Link) (f : Flit) : Link :=
  { k with freed := List.zipWith (fun old new => old + (new + 4096 - old % 4096) % 4096) k.freed f.freed }
/-- ACK and credits of a flit with a good CRC; what waited for credit goes out. -/
def State.flitHead (s : State) (l : Nat) (f : Flit) : State :=
  let s := (s.updLink l (fun k => (k.acked f.ack s.count).credited f)).linkPump l
  if 16 ≤ l then s.celSend (l - 16) else s
/-- Codewords that forward error correction reports with a flit (GLY_FEC). -/
def State.flitFec (s : State) (l : Nat) (f : Flit) : State :=
  if f.corr = 0 ∧ f.uncorr = 0 then s
  else if l < 16 then (s.inc rGLY_FEC 47 0 l 0 f.corr.toNat).inc rGLY_FEC 63 48 l 0 f.uncorr.toNat
  else s
/-- Discard a flit: the first discard after an accepted one asks for a replay, whose ACK names the last flit accepted
(R289). -/
def State.flitDiscard (s : State) (l : Nat) : State :=
  if (s.link l).discarding then s
  else (s.updLink l (fun k => { k with discarding := true })).flitPlain l 3
/-- A group whose tag fails counts as a discard of its first flit; a second one in a row takes the link out of Up. -/
def State.groupFails (s : State) (l : Nat) : State :=
  let s := (s.linkInc rGLY_ERR 63 32 l).updLink l (fun k => { k with
    authFails := k.authFails + 1
    rxSeq := k.grpSeq
    rxProt := k.rxProt - 3
    grp := []
    pend := []
    fresh := [0, 0, 0, 0]
    discarding := false })
  if 2 ≤ (s.link l).authFails then s.linkLeave l false 2 else s.flitDiscard l
/-- The Up index under which the tag of a group verifies, its last flit being `f`: for the first group after an Up, one of
the 64 from one above the last index verified (R288, R483). -/
def Link.groupUp (k : Link) (f : Flit) : Option Nat :=
  let fs := k.grp ++ [(f.hdr.toNat, f.slots.toNat)]
  let g := k.rxProt / 4
  let us := if g = 0 then ((List.range 64).map (· + k.keys.rxUp)).filter (fun u => decide (u < 2 ^ 24)) else [k.rxUp]
  us.find? (fun u => groupTag k.keys.rxKey k.keys.rxSalt u g fs == lane 128 f.slots.toNat 14)
/-- Whether an accepted flit belongs to a group: it was first sent in Up (R288). -/
def Link.grouped (k : Link) (f : Flit) : Bool := decide (k.st = 3) && !f.plain
/-- Receive a flit that takes a SEQ (R288, R289): true when it was accepted. -/
def State.flitIn (s : State) (l : Nat) (f : Flit) : Bool × State :=
  if crcOk f = false then (false, (s.linkInc rGLY_ERR 31 0 l).flitDiscard l)
  else
    let s := s.flitHead l f
    let k := s.link l
    if f.seq ≠ k.rxSeq % 4096 then (false, s.flitDiscard l)
    else if !k.grouped f then (true, s.updLink l (fun k => { k with rxSeq := k.rxSeq + 1, discarding := false }))
    else
      let used := [0, f.usedRsp.toNat, f.usedSnp.toNat, f.usedMsg.toNat]
      let took (s : State) := s.updLink l (fun k => { k with
        rxSeq := k.rxSeq + 1
        discarding := false
        rxProt := k.rxProt + 1
        grp := k.grp ++ [(f.hdr.toNat, f.slots.toNat)]
        grpSeq := if k.grp = [] then k.rxSeq else k.grpSeq
        fresh := List.zipWith (· + ·) k.fresh used })
      if k.rxProt % 4 ≠ 3 then (true, took s)
      else
        match k.groupUp f with
        | none => (false, s.groupFails l)
        | some u =>
          let s := if k.rxProt = 3 then s.updKeys l (fun x => if x.rxKey = k.keys.rxKey then { x with rxUp := u + 1 } else x) else s
          (true, (took s).updLink l (fun k => { k with authFails := 0, grp := [], rxUp := u }))
/-- A link whose groups have all been used leaves Up, its keys exhausted (R483). -/
def State.groupsSpent (s : State) (l : Nat) : State :=
  let k := s.link l
  if k.st = 3 ∧ (2 ^ 42 < k.txProt + 4 ∨ 2 ^ 42 < k.rxProt + 4) then (s.keySpent l).linkLeave l false 2 else s
/-- Act on an accepted hello: it passes its checks, or holds the link; in Up, a changed partner is a departure followed by an
arrival (R283 to R285). -/
def State.helloAct (s : State) (n : Nat) (h : HelloBody) : State :=
  match s.helloFails n h with
  | some c => s.linkHold n c
  | none =>
    let k := s.link n
    let s' := s.updLink n (fun k => { k with partner := some h, helloRx := s.count })
    if k.st = 2 then s'.linkUp n
    else
      match k.partner with
      | some p =>
        if p.identity = h.identity ∧ p.role = h.role ∧ p.port = h.port ∧ p.pod = h.pod then s'
        else ((s.linkPartner n false).updLink n (fun k => { k with partner := some h, helloRx := s.count })).linkPartner n true
      | none => s'
/-- The tag of a whole group has verified: its slots count as freed, and its hellos are acted on (R288). -/
def State.groupDone (s : State) (n : Nat) : State :=
  let k := s.link n
  if k.st ≠ 3 ∨ k.rxProt % 4 ≠ 0 then s
  else
    State.groupsSpent (k.pend.foldl (fun (s : State) h => if (s.link n).st = 3 then s.helloAct n h else s)
      (s.updLink n (fun k => { k with ours := List.zipWith (· + ·) k.ours k.fresh, fresh := [0, 0, 0, 0], pend := [] }))) n
/-- What an accepted flit that takes a SEQ calls for: its hello, if it is one, is acted on at once outside a group and else
with its group, and an idle flit carries ACK and credits (R287, R288). -/
def State.flitAct (s : State) (n : Nat) (f : Flit) (h : Option HelloBody) : State :=
  let s := if (s.link n).grouped f then
      (s.updLink n (fun k => { k with pend := k.pend ++ h.toList })).groupDone n
    else match h with | some b => s.helloAct n b | none => s
  if (s.link n).st = 2 ∨ (s.link n).st = 3 then s.flitPlain n 0 else s

/-! ### Bring-up (R283 to R285) -/

/-- LINK_TRAINING_COMPLETE (R283): the link enters Hello, and its first hello is due. -/
def execLinkTrainingComplete (l : Fin 33) (s : State) : Host.Outcome State Fault Refusal :=
  s.live (if (s.link l).st = 1 then
      s.updLink l (fun _ => { Link.reset with st := 2, entered := s.count, helloRx := s.count, helloTx := s.count })
    else s)
/-- LINK_TRAINING_TIMEOUT (R283): training starts again. -/
def execLinkTrainingTimeout (l : Fin 33) (s : State) : Host.Outcome State Fault Refusal :=
  s.live (if (s.link l).st = 1 then (s.untilDue ((s.link l).entered + 2 ^ 24)).linkLeave l false 0 else s)
/-- HELLO (R283 to R285, R288): an accepted hello is acted on, in Up once the tag of its group has verified. -/
def execHello (l : Fin 33) (f : Flit) (h : HelloBody) (s : State) : Host.Outcome State Fault Refusal :=
  let n := l.val
  s.live (
    if (s.link n).st ≠ 2 ∧ (s.link n).st ≠ 3 then s
    else
      let r := (s.flitFec n f).flitIn n f
      if r.1 then r.2.flitAct n f (some h) else r.2)
/-- HELLO_TIMER (R284, R288): a hello flit goes out while the retry window is open; in Up it begins a group, which null
slots complete. -/
def execHelloTimer (l : Fin 33) (s : State) : Host.Outcome State Fault Refusal :=
  let n := l.val
  let k := s.link n
  s.live (
    if (k.st ≠ 2 ∧ k.st ≠ 3) ∨ k.oldest + 1024 < k.txSeq + (if k.st = 3 then 4 else 1) then s
    else
      let s := s.untilDue k.helloTx
      let ps := slotsOf (s.helloBytes n)
      let s := if k.st = 3 then s.groupSend n 2 false ps
        else s.flitsKept n [(s.flitHdr n 2 k.txSeq 0, packSlots ps)]
      ((s.updLink n (fun k => { k with helloTx := k.helloTx + helloPeriod, helloSent := true })).linkUp n).groupsSpent n)
/-- HELLO_TIMEOUT (R283): four periods without a hello. -/
def execHelloTimeout (l : Fin 33) (s : State) : Host.Outcome State Fault Refusal :=
  s.live (if (s.link l).st = 3 then (s.untilDue ((s.link l).helloRx + 4 * helloPeriod)).linkLeave l false 0 else s)

/-! ### Flits (R289 to R292) -/

/-- DATA_FLIT (R288, R289). -/
def execDataFlit (l : Fin 33) (f : Flit) (s : State) : Host.Outcome State Fault Refusal :=
  s.live (if (s.link l).st = 3 then
      (let r := (s.flitFec l f).flitIn l f; if r.1 then r.2.flitAct l f none else r.2)
    else s)
/-- IDLE_FLIT (R287, R292). -/
def execIdleFlit (l : Fin 33) (f : Flit) (s : State) : Host.Outcome State Fault Refusal :=
  s.live (
    if (s.link l).st ≠ 3 ∧ (s.link l).st ≠ 2 then s
    else if crcOk f then (s.flitFec l f).flitHead l f
    else (s.flitFec l f).linkInc rGLY_ERR 31 0 l)
/-- REPLAY_REQUEST (R289): every flit after ACK is sent again. -/
def execReplayRequest (l : Fin 33) (f : Flit) (s : State) : Host.Outcome State Fault Refusal :=
  s.live (
    if (s.link l).st ≠ 3 ∧ (s.link l).st ≠ 2 then s
    else if crcOk f = false then (s.flitFec l f).linkInc rGLY_ERR 31 0 l
    else
      let s := (s.flitFec l f).flitHead l f
      if (s.link l).retry.isEmpty then s else s.resendFrom l (s.link l).oldest)
/-- LINK_RETRY_TIMEOUT (R290); Cellar channels use the register's reset value. -/
def execLinkRetryTimeout (l : Fin 33) (s : State) : Host.Outcome State Fault Refusal :=
  let n := l.val
  let tmo := if n < 16 then max 1 (s.rd rGLY_RETRY_TMO n) else 1024
  s.live (if (s.link n).retry.isEmpty then s
    else (s.untilDue ((s.link n).ackAt + tmo)).resendFrom n (s.link n).oldest)

/-! ### Control of a link, and the planes' reports (R283, R299) -/

/-- A write of GLY_CTRL.ENABLE (R283). -/
def State.glyEnable (s : State) (n : Nat) (en : Bool) : State :=
  let s' := s.setFld rGLY_CTRL 0 0 (b2n en) n
  if en then (if (s'.link n).st = 0 then s'.linkLeave n false 3 else s')
  else if (s'.link n).st = 0 then s' else s'.linkLeave n false 3
/-- GLY_ENABLE (R283). -/
def execGlyEnable (l : Fin 16) (en : Bool) (s : State) : Host.Outcome State Fault Refusal := s.live (s.glyEnable l en)
/-- GLY_RETRAIN (R283). -/
def execGlyRetrain (l : Fin 16) (s : State) : Host.Outcome State Fault Refusal := s.live (s.linkLeave l false 3)
/-- PORT_STATE (R299): the latest report of a plane's port counts; a malformed one is ignored. -/
def execPortState (l : Fin 16) (plane port st role : BitVec 8) (pod : BitVec 16) (s : State) :
    Host.Outcome State Fault Refusal :=
  let n := l.val
  let fromPlane := match (s.link n).partner with | some h => h.role == 2 | none => false
  s.live (
    if (s.link n).st = 3 ∧ fromPlane = true ∧ plane.toNat = n ∧ port.toNat < 64 then
      let s := { s with gly := { s.gly with ports := s.gly.ports.put (n * 64 + port.toNat) (st.toNat, role.toNat, pod.toNat) } }
      s.losePorts
    else s)

end Sys2Proof.Machine
end

