-- ==== Sys2Proof/Machine/Messages.lean ====
section
/-! DEFINITION. Guelyo messages: requests that arrive, replies that end this package's requests or its snoops, pairs that
change plane or reissue, and the peer cache as an agent (R301 to R309, R316, R319, R323). -/

namespace Sys2Proof.Machine

/-! ### Requests that arrive (R303, R305, R306, R309, R325) -/

/-- Check an arrived request from step 3 of Table 11-7 on, and accept it. -/
def State.reqTake (s : State) (op : Nat) (l : Fin 17) (h : ReqHdr) (data : List Byte) : State :=
  if l.val = 16 ∧ 0x20 ≤ op then s.nackReq l h 0x0A
  else
    match s.reqCheck op h with
    | some code => s.nackReq l h code
    | none =>
      if op = 0x01 then
        match s.forwardRead h with
        | some s' => s'
        | none => s.reqAccept op l h data
      else s.reqAccept op l h data
/-- A request arrives (Table 11-7): a package without a map, and a fenced one, answer nothing; an agent's message
for another pod is refused (R309), and one of a newer epoch is held until the epoch is applied (R305). -/
def State.arrive (s : State) (op : Nat) (l : Fin 17) (h : ReqHdr) (data : List Byte) : State :=
  if s.mute then s
  else if reqMalformed op h data then s.nackReq l h 0x01
  else if h.agent && decide (h.dest.toNat / 64 ≠ s.pod) then s.nackReq l h 0x0A
  else if h.epoch.toNat < s.map.epoch then s.nackReq l h 0x02
  else if s.map.epoch < h.epoch.toNat then
    let hold := s.rd rGLY_EPOCH_HOLD
    if hold = 0 then s.nackReq l h 0x03
    else
      let k := s.nonce
      { s with gly := { s.gly with inHeld := s.gly.inHeld.put k ⟨l, op, h, data, s.count + hold⟩ } }.tick
  else s.reqTake op l h data
/-- Only a link that is Up, or an inter-pod queue pair, brings messages (R283, R308). -/
def State.brings (s : State) (l : Fin 17) : Bool := decide (l.val = 16) || (s.link l.val).st == 3
/-- The outcome of a message that arrives on a link. -/
def State.onLink (s : State) (l : Fin 17) (s' : State) : Host.Outcome State Fault Refusal :=
  s.live (if s.brings l then s'.hostPump else s)
/-- A request leaves the link buffer: its slots count as freed, but for what `heldSlots` says of those that wait; one of
another pod makes sure of the queue pair of the two packages (R292, R308). -/
def State.took (s : State) (l : Fin 17) (h : ReqHdr) (data : List Byte) : State :=
  if l.val < 16 then
    s.updLink l.val (fun k => { k with ours := List.zipWith (· + ·) k.ours [2 + msgSlots data, 0, 0, 0] })
  else (s.xpodFor (hPort h)).getD s
/-- The outcome of a request that arrives on a link or an inter-pod queue pair. -/
def State.bring (s : State) (op : Nat) (l : Fin 17) (h : ReqHdr) (data : List Byte) : Host.Outcome State Fault Refusal :=
  s.onLink l ((s.took l h data).arrive op l h data)
/-- The requests held for an epoch that the package has now applied are checked, in order (R305). -/
def State.heldPump (s : State) : State :=
  (s.gly.inHeld.filter (fun e => decide (e.2.h.epoch.toNat ≤ s.map.epoch))).foldl (fun (s : State) e =>
    { s with gly := { s.gly with inHeld := s.gly.inHeld.del e.1 } }.arrive e.2.op e.2.l e.2.h e.2.data) s

/-- RD (R303). -/
def execRd (l : Fin 17) (h : ReqHdr) (s : State) : Host.Outcome State Fault Refusal := s.bring 0x01 l h []
/-- WR (R303). -/
def execWr (l : Fin 17) (h : ReqHdr) (data : List (BitVec 8)) (s : State) : Host.Outcome State Fault Refusal :=
  s.bring 0x02 l h data
/-- PWR (R297). -/
def execPwr (l : Fin 17) (h : ReqHdr) (data : List (BitVec 8)) (s : State) : Host.Outcome State Fault Refusal :=
  s.bring 0x03 l h data
/-- RD_SHELF (R298). -/
def execRdShelf (l : Fin 17) (h : ReqHdr) (s : State) : Host.Outcome State Fault Refusal := s.bring 0x04 l h []
/-- WR_SHELF (R298). -/
def execWrShelf (l : Fin 17) (h : ReqHdr) (data : List (BitVec 8)) (s : State) : Host.Outcome State Fault Refusal :=
  s.bring 0x05 l h data
/-- An atomic request (R297): opcode 0x10 + AOP. -/
def execAtomic (l : Fin 17) (h : ReqHdr) (aop : BitVec 8) (data : List (BitVec 8)) (s : State) :
    Host.Outcome State Fault Refusal := s.bring (0x10 + aop.toNat % 16) l h data
/-- TAKE_SHARED (R322). -/
def execTakeShared (l : Fin 17) (h : ReqHdr) (s : State) : Host.Outcome State Fault Refusal :=
  s.bring 0x20 l h []
/-- TAKE_OWNED (R322). -/
def execTakeOwned (l : Fin 17) (h : ReqHdr) (s : State) : Host.Outcome State Fault Refusal :=
  s.bring 0x21 l h []
/-- PROMOTE (R322). -/
def execPromote (l : Fin 17) (h : ReqHdr) (s : State) : Host.Outcome State Fault Refusal := s.bring 0x22 l h []
/-- GIVE_DIRTY (R322). -/
def execGiveDirty (l : Fin 17) (h : ReqHdr) (data : List (BitVec 8)) (s : State) : Host.Outcome State Fault Refusal :=
  s.bring 0x23 l h data
/-- GIVE_CLEAN (R322). -/
def execGiveClean (l : Fin 17) (h : ReqHdr) (s : State) : Host.Outcome State Fault Refusal :=
  s.bring 0x24 l h []
/-- EPOCH_HOLD_TIMEOUT (R305). -/
def execEpochHoldTimeout (k : Nat) (s : State) : Host.Outcome State Fault Refusal :=
  s.live (match s.gly.inHeld.find? k with
    | some e => { s.untilDue e.expiry with gly := { s.gly with inHeld := s.gly.inHeld.del k } }.nackReq e.l e.h 0x03
    | none => s)

/-! ### Snoops to the peer cache (R316, Table 12-4) -/

/-- The peer-cache line that a snoop names, with its key. -/
def State.peerLine (s : State) (h : ReqHdr) : Option (Nat × PeerLine) :=
  List.find? (fun (e : Nat × PeerLine) => e.2.dest == hPort h && e.2.ctx == h.ctx.toNat && e.2.seg == h.seg.toNat &&
    e.2.comp == h.comp.toNat && e.2.off / 64 == h.off.toNat / 64) s.gly.peer
/-- Whether a snoop is malformed: its virtual channel, LENGTH or alignment (R297). -/
def snoopMalformed (h : ReqHdr) : Bool := decide (h.vc ≠ 2 ∨ h.len.toNat ≠ 64 ∨ h.off.toNat % 64 ≠ 0)
/-- A snoop arrives: a package without a map answers nothing (R22), a malformed one is refused, and any other is answered
COMP once the peer cache has followed it (R316). -/
def State.snooped (s : State) (l : Fin 17) (h : ReqHdr) (f : State → State) : Host.Outcome State Fault Refusal :=
  s.onLink l (if s.mute then s
    else if snoopMalformed h then s.nackReq l h 0x01
    else (f s).respond l h 0x41 0 false [])
/-- CALL_SHARE (R316): the peer cache holds lines in S at most, and answers COMP. -/
def execCallShare (l : Fin 17) (h : ReqHdr) (s : State) : Host.Outcome State Fault Refusal := s.snooped l h id
/-- CALL_DROP (R316): S becomes I, WAIT_S becomes WAIT_S_DROP. -/
def execCallDrop (l : Fin 17) (h : ReqHdr) (s : State) : Host.Outcome State Fault Refusal :=
  s.snooped l h (fun s => match s.peerLine h with
    | some (k, p) =>
      let peer := if p.st = 1 then s.gly.peer.del k else s.gly.peer.put k { p with st := 3 }
      { s with gly := { s.gly with peer := peer } }
    | none => s)

/-! ### Requests that end (R301, R304, R307) -/

/-- Send what a pair holds, in order: messages without a tag, then requests. -/
def State.pairFlush (s : State) (dest : Nat) : State :=
  let p := s.pair dest
  p.held.foldl State.request (p.msgs.foldl (fun (s : State) m => s.pairSend dest m.vc m.data)
    (s.updPair dest (fun p => { p with held := [], msgs := [] })))
/-- Try again what is held for a pair that is not stopped. -/
def State.pairRetry (s : State) (dest : Nat) : State :=
  let p := s.pair dest
  if p.stopped || (p.held.isEmpty && p.msgs.isEmpty) then s else s.pairFlush dest
/-- A request of a pair has ended: the requests held for it, and for other pairs that want its tag or queue pair, are tried
again (R298, R310). -/
def State.pairPump (s : State) (dest : Nat) : State :=
  s.gly.pairs.keys.foldl (fun (s : State) d => if d = dest then s else s.pairRetry d) (s.pairRetry dest)
/-- Whoever may now go on looks again: searches, embedding, sectors. -/
def State.hubPump (s : State) : State := s.searchPumpAll.embPump.hostPump
/-- A hub write of a context was refused: a migration is given up (R267), and a kernel ends. -/
def State.hubFail (s : State) (c code : Nat) : State :=
  if 4096 ≤ c then s.migAbandon ((c - 4096) / 64) (c % 64) true else s.hubLost c code
/-- Serve one waiter of a peer-cache line with its bytes. -/
def State.peerServe (s : State) (p : PeerLine) (w : ReqUse) (bs : List Byte) (poison : Bool) : State :=
  match w with
  | .load u t id =>
    match (s.thr u t).loads.find? (fun l => l.id = id) with
    | some l =>
      let x := leNat ((bs.drop (l.addr % 64)).take (szBytes l.sz))
      s.endLoad u t id x (if poison then some ⟨0x10, w64 l.addr⟩ else none)
    | none => s
  | .dma u t tag off =>
    match (s.thr u t).dma.toList.getD tag none with
    | some d =>
      let a := d.src + off
      let n := min (64 - a % 64) (d.len - off)
      if a % 2 ^ 60 / 64 = p.off / 64 then s.dmaGot u t tag off ((bs.drop (a % 64)).take n) poison else s
    | none => s
  | _ => s
/-- Set of the peer cache that a segment offset uses (DESIGN CHOICE, log entry 103). -/
def peerSet (off : Nat) : Nat := off / 64 % 8192
/-- The peer cache's lines with room for one more in a set: the line of a full set that came first is replaced, silently
(R316, Table 12-4). -/
def State.peerRoom (s : State) (off : Nat) : Assoc PeerLine :=
  let ways := s.gly.peer.filter (fun e => decide (e.2.st = 1 ∧ peerSet e.2.off = peerSet off))
  if ways.length < 16 then s.gly.peer
  else
    match (sortBy (fun a b => decide (a.2.age ≤ b.2.age)) ways).head? with
    | some v => s.gly.peer.del v.1
    | none => s.gly.peer
/-- A grant reaches the peer cache: GRANT_ACK, the waiting reads, and the state that Table 12-4 gives (R316, R330). -/
def State.peerFilled (s : State) (k plane tag : Nat) (bs : List Byte) (poison : Bool) : State :=
  match s.gly.peer.find? k with
  | none => s
  | some p =>
    let ack := leBytes 16 (0x41 + 2 ^ 8 + p.dest % 64 * 2 ^ 36 + p.dest / 64 * 2 ^ 42 + s.self * 2 ^ 52 + tag * 2 ^ 89)
    let s := s.linkPush plane 1 ack
    let keep := decide (p.st = 2) && s.leaseHeld p.dest
    let p' : PeerLine := { p with st := 1, data := leNat bs, poison := poison, waiters := [], retryAt := none, age := s.nonce }
    let peer := if keep then (s.peerRoom p.off).put k p' else s.gly.peer.del k
    let s := { s with gly := { s.gly with peer := peer } }.tick
    p.waiters.foldl (fun s w => s.peerServe p w bs poison) s
/-- A request ends with its answer: DATA with its bytes, or COMP.  The bytes of a vector load start at its lowest active
one (R86). -/
def State.reqAnswered (s : State) (r : OutReq) (data : Option (List Byte × Bool)) : State :=
  match r.use, data with
  | .load u t id, some (bs, poison) =>
    let lo := match (s.thr u t).loads.find? (fun l => l.id = id) with
      | some l => if l.sz = 7 then l.addr % 64 else 0
      | none => 0
    s.endLoad u t id (leNat bs * 2 ^ (8 * lo)) (if poison then some ⟨0x10, w64 (r.seg * 2 ^ 60 + r.off)⟩ else none)
  | .load u t id, none => s.endLoad u t id 0 none
  | .wb u id, _ => s.endWb u id none
  | .dma u t tag off, some (bs, poison) => s.dmaGot u t tag off bs poison
  | .dma u t tag _, none => s.endDmaPart u t tag none
  | .peer k, some (bs, poison) => s.peerFilled k r.plane r.tag bs poison
  | .peer k, none => s.peerFilled k r.plane r.tag [] true
  | .hub key, some d => { s with gly := { s.gly with hub := s.gly.hub.upd key (fun x => { x with got := some d }) } }.hubPump
  | .hub _, none => s
  | .fetch u t id, d => s.fetchGot u t id (match d with | some (_, poison) => poison | none => true)
  | .hubW c, _ => if 4096 ≤ c then s.migPump ((c - 4096) / 64) (c % 64) else s.hubPump
  | .count c w, d => match d with | some (bs, poison) => s.freedGot c w bs poison | none => s.freedGot c w [] true
  | .other, _ => s
/-- A request ends with a failure of its thread or hub operation. -/
def State.reqFailed (s : State) (r : OutReq) (code : Nat) : State :=
  match r.use with
  | .hubW c => s.hubFail c code
  | .hub _ => (s.failUse r.use ⟨0x11, w64 code⟩).hubPump
  | .count c w => s.freedGot c w [] true
  | _ => s.failUse r.use ⟨0x11, w64 code⟩
/-- The outstanding request that a response answers, by REQUESTER and TAG, with its key (R298). -/
def State.reqOf (s : State) (h : RspHdr) : Option (Nat × OutReq) :=
  let k := h.requester.toNat / 2 ^ 17 % 8 * 2 ^ 16 + h.tag.toNat
  match s.gly.reqs.find? k with
  | some r => if s.locator r.unit = h.requester.toNat ∧ h.agent = false then some (k, r) else none
  | none => none
/-- Forget an outstanding request. -/
def State.reqDrop (s : State) (k : Nat) : State := { s with gly := { s.gly with reqs := s.gly.reqs.del k } }
/-- The timeout of an outstanding request acts at its expiry: it fails with TIMEOUT, whose detail is the remote program
address, and what waited for its end goes on (R99, R310). -/
def State.reqExpire (s : State) (k : Nat) (r : OutReq) (e : Nat) : State :=
  let s := s.untilDue e
  let s := { s with gly := { s.gly with reqs := s.gly.reqs.del k, timed := s.gly.timed.put k (s.locator r.unit) } }
  (s.failUse r.use ⟨0x12, w64 (r.seg * 2 ^ 60 + r.off)⟩).pairPump r.dest
/-- REMOTE_TIMEOUT (R99). -/
def execRemoteTimeout (die : Fin 8) (tag : BitVec 16) (s : State) : Host.Outcome State Fault Refusal :=
  let k := die.val * 2 ^ 16 + tag.toNat
  .next (match s.gly.reqs.find? k with
    | some r => match r.expiry with | some e => s.reqExpire k r e | none => s
    | none => s)
/-- Every agent of a port is lost at the expiry of a snoop or an open grant; a grant's tag is remembered as late (R328). -/
def State.portExpire (s : State) (p e : Nat) (grant : Option (Nat × Nat)) : State :=
  let s := s.untilDue e
  let s := match grant with
    | some (tag, die) => { s with home := { s.home with late := s.home.late.put tag die } }
    | none => s
  s.loseAgents p (s.portAgents p) 2
/-- What a response answers. -/
inductive Answers where
  | req (k : Nat) (r : OutReq)
  | snoop (id : Nat) (n : Snoop)
  | grant (id : Nat)
  /-- a GRANT_ACK that transient mode discards -/
  | ack
  | nothing
  deriving DecidableEq, Repr
/-- What a response answers: a COMP that comes from a port with an open grant or a grant of transient mode under its tag is
a GRANT_ACK, unless a request to that port has the tag (R298, R317, R324). -/
def State.answers (s : State) (h : RspHdr) (comp : Bool) : Answers :=
  let q := s.reqOf h
  let mayAck := comp && (match q with | some (_, r) => decide (r.dest ≠ h.responder.toNat) | none => true)
  match if mayAck then s.grantOf h else none with
  | some id => .grant id
  | none =>
    if mayAck && s.rspDie h == some 0 && s.home.acks.contains (h.responder.toNat, h.tag.toNat) then .ack
    else
      match q, s.snoopOf h with
      | some (k, r), _ => .req k r
      | none, some (id, n) => .snoop id n
      | none, none => .nothing
/-- Whether an expiry lies before the present count: the timeout has acted (R28). -/
def State.past (s : State) (e : Option Nat) : Bool := match e with | some x => decide (x < s.count) | none => false
/-- A response accepted after the expiry of what it answers finds that the timeout has acted (R28, R99, R328). -/
def State.lateFirst (s : State) (h : RspHdr) (comp : Bool) : State :=
  match s.answers h comp with
  | .req k r => if s.past r.expiry then s.reqExpire k r (r.expiry.getD 0) else s
  | .snoop _ n => if s.past n.expiry then s.portExpire n.port (n.expiry.getD 0) none else s
  | .grant id =>
    match s.txn? id with
    | some { grant := some (p, g, e), die := die, .. } => if s.past e then s.portExpire p (e.getD 0) (some (g, die)) else s
    | _ => s
  | .ack => s
  | .nothing => s
/-- A response that matches nothing: counted as late when a timeout acted, else as an orphan (R298, R328). -/
def State.rspLate (s : State) (h : RspHdr) : State :=
  let die := h.requester.toNat / 2 ^ 17 % 8
  let k := die * 2 ^ 16 + h.tag.toNat
  if s.gly.timed.find? k = some h.requester.toNat ∧ h.agent = false then
    { s with gly := { s.gly with timed := s.gly.timed.del k } }.inc rDIE_DMA_LATE 31 0 die
  else
    match if s.rspDie h = some die then s.home.late.find? k else none with
    | some d => { s with home := { s.home with late := s.home.late.del k } }.inc rHOME_LATE 31 0 d
    | none => s.inc rGLY_ORPHAN 31 0
/-- Whether a request is answered with DATA; every other is answered with COMP (Table 11-6). -/
def OutReq.wantsData (r : OutReq) : Bool :=
  decide (r.op = 0x01 ∨ r.op = 0x04 ∨ r.op = 0x1B ∨ r.op = 0x1C ∨ r.op = 0x20)
/-- A malformed response ends its request as R298 says of a RETRY that answers no coherence request: REMOTE with MALFORMED
(DEDUCED, log entry 104). -/
def State.reqSpoiled (s : State) (k : Nat) (r : OutReq) : State :=
  (((s.reqDrop k).inc rGLY_NACK_RX 31 0).reqFailed r 1).pairPump r.dest
/-- Whether a response is malformed: its virtual channel or its LENGTH (R297). -/
def rspMalformed (h : RspHdr) (n : Nat) : Bool := decide (h.vc ≠ 1 ∨ h.len.toNat ≠ n)
/-- A response on a link: its lateness comes first; what it answers is ended by `f`, a malformed one ends a request with
REMOTE and is otherwise discarded, and one that answers nothing is counted. -/
def State.answered (s : State) (l : Fin 17) (h : RspHdr) (comp bad : Bool) (f : State → Answers → State) :
    Host.Outcome State Fault Refusal :=
  let s' := s.lateFirst h comp
  s.onLink l (match s'.answers h comp with
    | .nothing => s'.rspLate h
    | .req k r => if bad then s'.reqSpoiled k r else f s' (.req k r)
    | a => if bad then s' else f s' a)
/-- DATA (R307, R322). -/
def execData (l : Fin 17) (h : RspHdr) (data : List (BitVec 8)) (s : State) : Host.Outcome State Fault Refusal :=
  s.answered l h false (rspMalformed h data.length) (fun s a => match a with
    | .req k r =>
      if r.wantsData ∧ data.length = r.len then ((s.reqDrop k).reqAnswered r (some (data, h.poison))).pairPump r.dest
      else s.reqSpoiled k r
    | .snoop id n => if data.length = 64 then s.snoopDone id n (some (data, h.poison)) else s
    | _ => s)
/-- COMP (R307, R317): an answered request, a snoop's acknowledgement, or a GRANT_ACK. -/
def execComp (l : Fin 17) (h : RspHdr) (s : State) : Host.Outcome State Fault Refusal :=
  s.answered l h true (rspMalformed h 0) (fun s a => match a with
    | .req k r => if r.wantsData then s.reqSpoiled k r else ((s.reqDrop k).reqAnswered r none).pairPump r.dest
    | .snoop id n => s.snoopDone id n none
    | .grant id => (s.txnEnd id).homePump
    | .ack => { s with home := { s.home with acks := s.home.acks.erase (h.responder.toNat, h.tag.toNat) } }
    | .nothing => s)
/-- A refusal for a stale or early epoch stops the pair until it may reissue (R305). -/
def State.reqRefused (s : State) (r : OutReq) (ahead : Bool) (epoch : Nat) : State :=
  s.updPair r.dest (fun p => { p with
    stopped := true
    needEpoch := max p.needEpoch epoch
    refused := p.refused ++ [(r, ahead)] })
/-- NACK (R304, R305). -/
def execNack (l : Fin 17) (h : RspHdr) (epoch : BitVec 32) (_word : BitVec 32) (s : State) : Host.Outcome State Fault Refusal :=
  let code := h.code.toNat
  s.answered l h false (rspMalformed h 16) (fun s a => match a with
    | .req k r =>
      let s := s.reqDrop k
      if code = 2 ∨ code = 3 then s.reqRefused r (code == 3) epoch.toNat
      else ((s.inc rGLY_NACK_RX 31 0).reqFailed r code).pairPump r.dest
    | _ => s)
/-- RETRY (R298, R317, R319, R323). -/
def execRetry (l : Fin 17) (h : RspHdr) (backoff : BitVec 32) (s : State) : Host.Outcome State Fault Refusal :=
  s.answered l h false (rspMalformed h 16) (fun s a => match a with
    | .req k r =>
      match r.use with
      | .peer key =>
        let s := s.reqDrop k
        { s with gly := { s.gly with peer := s.gly.peer.upd key (fun p => { p with retryAt := some (s.count + backoff.toNat) }) } }
      | _ => s.reqSpoiled k r
    | .snoop id n => (s.snoopRetry id n).homePump
    | _ => s)

/-! ### Pairs that reissue or change plane (R301, R305) -/

/-- Reissue the peer-cache fills of a home whose back-off is over (R319). -/
def State.peerReissue (s : State) (dest : Nat) : State :=
  s.gly.peer.foldl (fun s e => match e.2.retryAt with
    | some t =>
      if e.2.dest = dest then
        let s := s.untilDue t
        let p : PeerLine := { e.2 with st := 2, retryAt := none }
        let s := { s with gly := { s.gly with peer := s.gly.peer.put e.1 p } }
        s.request { s.mkReq 0x20 dest 0 p.ctx (p.seg * 2 ^ 60 + p.off) 64 [] 0 (.peer e.1) with comp := p.comp, strict := false }
      else s
    | none => s) s
/-- Whether every outstanding request of a pair has ended and this package's map has reached the epoch named; the map of
another pod is taken as learned from the refusal (R305, R308). -/
def State.mayReissue (s : State) (dest : Nat) : Bool :=
  let p := s.pair dest
  !p.refused.isEmpty && (s.outstanding dest).isEmpty && (decide (dest / 64 ≠ s.pod) || decide (p.needEpoch ≤ s.map.epoch))
/-- Reissue the refused requests of a pair in their original order, then the held ones. -/
def State.reissue (s : State) (dest : Nat) : State :=
  let p := s.pair dest
  let rs := sortBy (fun a b => decide (a.1.ord ≤ b.1.ord)) p.refused
  let ahead := (rs.filter (fun r => r.2)).length
  let s := (s.inc rGLY_REISSUE 63 32 0 0 ahead).inc rGLY_REISSUE 31 0 0 0 (rs.length - ahead)
  let s := if dest / 64 = s.pod then s
    else { s with gly := { s.gly with podEpoch := s.gly.podEpoch.put (dest / 64) p.needEpoch } }
  let s := s.updPair dest (fun p => { p with stopped := false, refused := [], held := [] })
  ((rs.map Prod.fst ++ p.held).foldl State.request s).pairRetry dest
/-- REQUEST_REISSUE (R305, R319). -/
def execRequestReissue (dest : BitVec 16) (s : State) : Host.Outcome State Fault Refusal :=
  let d := dest.toNat
  let s' := s.peerReissue d
  s.live (if s'.mayReissue d then s'.reissue d else s')
/-- PLANE_SWITCH (R301): with nothing outstanding on the old plane, the pair takes its new one. -/
def execPlaneSwitch (dest : BitVec 16) (s : State) : Host.Outcome State Fault Refusal :=
  let d := dest.toNat
  let p := s.pair d
  s.live (if p.stopped && p.refused.isEmpty && (s.outstanding d).isEmpty && !s.oldPlane d 17 then
      (s.updPair d (fun p => { p with stopped := false })).pairFlush d
    else s)

/-! ### Attachments and leases of this package as an agent (R315, R330) -/

/-- Treat every line of a home, or of one of its segments, as invalid (R330). -/
def State.peerVoid (s : State) (home : Nat) (seg : Option (Nat × Nat)) : State :=
  let mine (p : PeerLine) := p.dest == home && (match seg with | some x => p.ctx == x.1 && p.seg == x.2 | none => true)
  let kept := s.gly.peer.filter (fun e => !(mine e.2 && e.2.st == 1))
  { s with gly := { s.gly with peer := Assoc.mapV kept (fun _ (p : PeerLine) => if mine p then { p with st := 3 } else p) } }
/-- Whether a port belongs to a package of the pod's map, or to a registered agent of a composition (R297). -/
def State.podMember (s : State) (p : Nat) : Bool :=
  decide (p / 64 = s.pod) && (s.map.members.contains (p % 64) || s.map.comps.any (fun c =>
    c.2.parts.has (p % 64) || c.2.agents.any (fun a => a % 2 ^ 10 == p / 64 && bits a 15 10 == p % 64)))
/-- A coherence hub message of `n` bytes is acted on: this package has a map, its virtual channel and LENGTH are those of its
type, and it comes from a member of the pod (R22, R297, Table 12-2). -/
def State.hubTaken (s : State) (h : ReqHdr) (n : Nat) : Bool :=
  !s.mute && h.vc == 3 && decide (h.len.toNat = n) && s.podMember (hPort h)
/-- ATTACHED (R315): the peer cache may keep lines of the segment, under the home's lease. -/
def execAttached (l : Fin 17) (h : ReqHdr) (ctx : BitVec 12) (seg : BitVec 4) (agent : BitVec 8) (_tag : BitVec 20)
    (_mode : BitVec 8) (lease : BitVec 32) (s : State) : Host.Outcome State Fault Refusal :=
  let home := hPort h
  let me := (home, ctx.toNat, seg.toNat)
  s.onLink l (if agent ≠ 0 ∨ s.hubTaken h 18 = false then s
    else
      { s with gly := { s.gly with
        peerAt := if s.gly.peerAt.contains me then s.gly.peerAt else s.gly.peerAt ++ [me]
        lease := match s.gly.lease.find? home with
          | some x => s.gly.lease.put home (lease.toNat, x.2)
          | none => s.gly.lease.put home (lease.toNat, s.count, s.count) } })
/-- DETACHED (R330). -/
def execDetached (l : Fin 17) (h : ReqHdr) (ctx : BitVec 12) (seg : BitVec 4) (agent : BitVec 8) (_tag : BitVec 20)
    (s : State) : Host.Outcome State Fault Refusal :=
  let home := hPort h
  let left := s.gly.peerAt.filter (fun a => a ≠ (home, ctx.toNat, seg.toNat))
  s.onLink l (if agent ≠ 0 ∨ s.hubTaken h 10 = false then s
    else
      let s := s.peerVoid home (some (ctx.toNat, seg.toNat))
      { s with gly := { s.gly with
        peerAt := left
        lease := if left.any (fun a => a.1 == home) then s.gly.lease else s.gly.lease.del home } })
/-- LOST (R330): every line and attachment of the home is void. -/
def execLost (l : Fin 17) (h : ReqHdr) (mask : BitVec 16) (_cause : BitVec 8) (s : State) :
    Host.Outcome State Fault Refusal :=
  let home := hPort h
  s.onLink l (if !bitOf mask.toNat 0 || !s.hubTaken h 5 then s
    else
      let s := s.peerVoid home none
      { s with gly := { s.gly with peerAt := s.gly.peerAt.filter (fun a => a.1 ≠ home), lease := s.gly.lease.del home } })
/-- LEASE_ACK (R330): the lease runs from the sending of the LEASE it answers. -/
def execLeaseAck (l : Fin 17) (h : ReqHdr) (mask : BitVec 16) (s : State) : Host.Outcome State Fault Refusal :=
  s.onLink l (if bitOf mask.toNat 0 && s.hubTaken h 4 then
      { s with gly := { s.gly with lease := s.gly.lease.upd (hPort h) (fun x => (x.1, x.2.1, x.2.1)) } }
    else s)
/-- Send LEASE to every home where this package is attached (R327). -/
def State.leaseSend (s : State) : State :=
  s.gly.lease.keys.foldl (fun (s : State) home =>
    { s with gly := { s.gly with lease := s.gly.lease.upd home (fun x => (x.1, s.count, x.2.2)) } }.hubMsg home 0x0C02 0 0
      (leBytes 2 1)) s

/-! ### The home's own timers (R321, R323, R327, R328) -/

/-- LEASE (R327): the leases of attached agents are renewed, and LEASE_ACK names them. -/
def execLease (l : Fin 17) (h : ReqHdr) (mask : BitVec 16) (s : State) : Host.Outcome State Fault Refusal :=
  let port := hPort h
  let ok := (List.range 16).filter (fun a => bitOf mask.toNat a &&
    (match s.home.leases.find? (port * 16 + a) with | some e => decide (s.count ≤ e) | none => false))
  let s' := ok.foldl (fun (s : State) a =>
    { s with home := { s.home with leases := s.home.leases.put (port * 16 + a) (s.count + s.leaseLen) } }) s
  s.onLink l (if s.hubTaken h 4 then s'.hubMsg port 0x0C03 0 0 (leBytes 2 (agentMask ok)) else s)
/-- LEASE_EXPIRY (R327, R328). -/
def execLeaseExpiry (port : BitVec 6) (agent : BitVec 4) (s : State) : Host.Outcome State Fault Refusal :=
  let p := s.pod * 64 + port.toNat
  s.live (match s.home.leases.find? (p * 16 + agent.toNat) with
    | some e => ((s.untilDue e).loseAgents p [agent.toNat] 0).hostPump
    | none => s)
/-- HOME_TRANSACTION_BEGIN (R321). -/
def execHomeTransactionBegin (_die : Fin 8) (id : Nat) (s : State) : Host.Outcome State Fault Refusal :=
  s.live (if s.txnMayBegin id then (s.txnBegin id).homePump.hostPump else s)
/-- RESNOOP_TIMER (R323). -/
def execResnoopTimer (_die : Fin 8) (id : Nat) (port : BitVec 6) (s : State) : Host.Outcome State Fault Refusal :=
  let p := s.pod * 64 + port.toNat
  s.live (match s.txn? id with
    | some t =>
      match t.snoops.find? (fun n => n.port == p && n.again.isSome) with
      | some n =>
        let s := (s.untilDue (n.again.getD 0)).inc rHOME_RESNOOP 31 0 t.die
        let s := s.updTxn id (fun t => { t with snoops := t.snoops.filter (fun k => k.tag ≠ n.tag) })
        match s.owner? n.line with
        | some o => s.snoopPort id p n.line o.comp o.ctx o.seg o.off n.drop
        | none => s.snoopPort id p n.line t.comp t.ctx t.seg t.off n.drop
      | none => s
    | none => s)
/-- SNOOP_TIMEOUT (R328): every agent of the port is lost; a snoop answered by RETRY waits for nothing. -/
def execSnoopTimeout (_die : Fin 8) (id : Nat) (port : BitVec 6) (s : State) : Host.Outcome State Fault Refusal :=
  let p := s.pod * 64 + port.toNat
  s.live (State.hostPump (match s.txn? id with
    | some t =>
      match t.snoops.find? (fun n => n.port == p && n.expiry.isSome && n.again.isNone), t.grant with
      | some n, _ => s.portExpire p (n.expiry.getD 0) none
      | none, some (q, g, some e) => if q = p then s.portExpire p e (some (g, t.die)) else s
      | none, _ => s
    | none => s))

end Sys2Proof.Machine
end

