-- ==== Sys2Proof/Machine/Map.lean ====
section
/-! DEFINITION. Map proposals: their fields, their checks, and what a committed entry does when a package applies it
(R379 to R392, R435 to R437, R481). -/

namespace Sys2Proof.Machine

/-! ### Fields of a proposal (Tables 15-1 to 15-3, R391, R435) -/

/-- `n` bytes of a proposal from byte `i`, as a number (R12). -/
def pAt (b : List Byte) (i n : Nat) : Nat := leNat ((b.drop i).take n)
/-- BASE_EPOCH. -/
def pBase (b : List Byte) : Nat := pAt b 0 4
/-- TYPE: 0 CREATE, 1 MODIFY, 2 END, 3 REVOKE, 4 MEMBERS, 5 TAKEOVER. -/
def pType (b : List Byte) : Nat := pAt b 4 1
/-- FORCE of an END. -/
def pForce (b : List Byte) : Bool := bitOf (pAt b 5 1) 0
/-- COMP. -/
def pComp (b : List Byte) : Nat := pAt b 8 4 % 2 ^ 20
/-- POD. -/
def pPod (b : List Byte) : Nat := pAt b 12 2 % 2 ^ 10
/-- BODY_LEN. -/
def pLen (b : List Byte) : Nat := pAt b 16 4
/-- The body. -/
def pBody (b : List Byte) : List Byte := (b.drop 64).take (pLen b)
/-- The signature. -/
def pSig (b : List Byte) : List Byte := b.drop (64 + pLen b)
/-- The package numbers of a MEMBERS body. -/
def pMembers (b : List Byte) : List Nat :=
  let y := pBody b
  (List.range (pAt y 0 2)).map (fun i => pAt y (2 + i) 1)
/-- FAILED, SPARE and SPARE_ID of a TAKEOVER body (R435); the digest's most significant byte is its first. -/
def pTake (b : List Byte) : Nat × Nat × Nat := let y := pBody b; (pAt y 0 1, pAt y 1 1, beNat ((y.drop 8).take 32))
/-- An item of a REVOKE body (R391). -/
structure RevItem where
  key : Bool
  pkg : Nat
  ctx : Nat
  seg : Nat
  keyNo : Nat
  first : Nat
  bytes : Nat
  kind : Nat
/-- The items of a REVOKE body. -/
def pItems (b : List Byte) : List RevItem :=
  let y := pBody b
  (List.range (pAt y 0 2)).map (fun i =>
    let z := (y.drop (2 + 32 * i)).take 32
    { key := pAt z 0 1 == 1, pkg := pAt z 1 1, ctx := pAt z 2 2 % 4096, seg := pAt z 2 2 / 4096, keyNo := pAt z 4 4,
      first := pAt z 8 8, bytes := pAt z 16 8, kind := pAt z 0 1 })
/-- N_PKG, N_STRIPE and N_AGENTS of a composition entry. -/
def eCounts (y : List Byte) : Nat × Nat × Nat := (pAt y 2 2, pAt y 4 2, pAt y 6 1)
/-- The per-package parts of a composition entry as bytes. -/
def eParts (y : List Byte) : List (List Byte) := (List.range (eCounts y).1).map (fun i => (y.drop (256 + 64 * i)).take 64)
/-- A per-package part (Table 15-3). -/
def partOfBytes (z : List Byte) : CPart :=
  { ctxFirst := pAt z 2 2, ctxCount := pAt z 4 2
    rgn := (List.range 8).map (fun d => (pAt z (8 + 2 * d) 1, pAt z (9 + 2 * d) 1))
    larder := pAt z 24 4, cellar := pAt z 28 4, vintages := pAt z 32 1, qpQuota := pAt z 34 2, keyQuota := pAt z 36 2
    fltRes := pAt z 38 2, httRes := pAt z 40 2, trkRes := pAt z 42 2, rdtRes := pAt z 44 2
    swcRes := (List.range 8).map (fun c => pAt z (48 + c) 1)
    slots := pAt z 56 1, pfPages := pAt z 58 2 }
/-- The composition entry that a CREATE or MODIFY body carries (Table 15-2). -/
def entryOf (y : List Byte) : Comp :=
  let n := eCounts y
  { strict := bitOf (pAt y 0 1) 0
    closed := bitOf (pAt y 0 1) 1
    agents := (List.range n.2.2).map (fun i => pAt y (8 + 4 * i) 4)
    parts := (eParts y).foldl (fun (m : Assoc CPart) z => m.put (pAt z 0 1) (partOfBytes z)) []
    stripe := (List.range n.2.1).map (fun i => pAt y (256 + 64 * n.1 + 2 * i) 2) }

/-! ### The leader's checks (Table 15-4) -/

/-- Numbers strictly ascending. -/
def ascending : List Nat → Bool
  | a :: b :: l => decide (a < b) && ascending (b :: l)
  | _ => true
/-- Fields of a per-package part out of the ranges of Table 15-3. -/
def partBad (z : List Byte) : Bool :=
  let p := partOfBytes z
  decide (63 < pAt z 0 1 ∨ (p.ctxCount ≠ 0 ∧ (p.ctxFirst = 0 ∨ 4096 < p.ctxFirst + p.ctxCount)) ∨ 64 < p.vintages ∨
    256 < p.fltRes ∨ 512 < p.httRes ∨ 4096 < p.trkRes ∨ 16384 < p.rdtRes ∨ 8192 < p.pfPages)
/-- Whether a proposal's length is that of its body. -/
def pSized (b : List Byte) : Bool := decide (448 ≤ b.length ∧ b.length = 64 + pLen b + 384)
/-- Step 2: fields outside Tables 15-1 to 15-3 (R379, R381, R391, R435). -/
def pMalformed (b : List Byte) : Bool :=
  let y := pBody b
  let n := eCounts y
  !pSized b || decide (5 < pType b ∨ (pComp b = 0 ∧ pType b < 4)) ||
  match pType b with
  | 2 => decide (pLen b ≠ 0)
  | 3 => decide (pLen b ≠ 2 + 32 * pAt y 0 2 ∨ 64 < pAt y 0 2) ||
      (pItems b).any (fun i => decide (1 < i.kind ∨ 63 < i.pkg) ||
        (!i.key && decide (i.first % 2 ^ 21 ≠ 0 ∨ i.bytes % 2 ^ 21 ≠ 0)))
  | 4 => decide (pLen b ≠ 2 + pAt y 0 2 ∨ 64 < pAt y 0 2) || !ascending (pMembers b) || (pMembers b).any (fun p => decide (63 < p))
  | 5 => decide (pLen b ≠ 40 ∨ 63 < (pTake b).1 ∨ 63 < (pTake b).2.1)
  | _ => decide (n.1 = 0 ∨ 64 < n.1 ∨ n.2.1 = 0 ∨ 4096 < n.2.1 ∨ 32 < n.2.2 ∨ pLen b ≠ 256 + 64 * n.1 + 2 * n.2.1) ||
      (eParts y).any partBad || !((eParts y).map (fun z => pAt z 0 1)).Nodup || !ascending (entryOf y).stripe
/-- Step 4: whether everything named is in the pod, and every region exists. -/
def State.pMember (s : State) (b : List Byte) : Bool :=
  let isIn (p : Nat) : Bool := s.map.members.contains p
  decide (pPod b = s.pod) &&
  match pType b with
  | 3 => (pItems b).all (fun i => isIn i.pkg)
  | 4 => true
  | 5 => isIn (pTake b).1 && isIn (pTake b).2.1
  | 2 => true
  | _ =>
    let e := entryOf (pBody b)
    e.parts.all (fun p => isIn p.1 && p.2.rgn.all (fun r => decide (r.2 = 0 ∨ r.1 + r.2 ≤ s.nRgn))) &&
    e.stripe.all (fun p => p / 64 != s.pod || isIn (p % 64)) &&
    e.agents.all (fun a => decide (a % 2 ^ 10 = s.pod))
/-- Whether two half-open ranges of numbers meet. -/
def meets (a n b m : Nat) : Bool := decide (a < b + m ∧ b < a + n)
/-- Whether two per-package parts name a region or a context in common. -/
def partsMeet (a b : CPart) : Bool :=
  meets a.ctxFirst a.ctxCount b.ctxFirst b.ctxCount ||
  (List.range 8).any (fun d =>
    let x := a.rgn.getD d (0, 0); let y := b.rgn.getD d (0, 0)
    meets x.1 x.2 y.1 y.2)
/-- Step 5: whether a proposal conflicts with the map. -/
def State.pConflict (s : State) (b : List Byte) : Bool :=
  let tag := pComp b
  let known := s.map.comps.has tag
  let others := s.map.comps.filter (fun e => decide (e.1 ≠ tag))
  match pType b with
  | 4 => false
  | 5 => false
  | 2 => !known
  | 3 => !known || (pItems b).any (fun i => !i.key && others.any (fun e => match e.2.parts.find? i.pkg with
      | some p => meets p.ctxFirst p.ctxCount i.ctx 1 | none => false))
  | t =>
    (if t = 0 then known else !known) ||
    (entryOf (pBody b)).parts.any (fun p => others.any (fun e => match e.2.parts.find? p.1 with
      | some q => partsMeet p.2 q | none => false))
/-- Step 6: whether the reserves of a package, with the system's, exceed 75% of any capacity of Table 01-6, or the time
slots exceed 64 (R34, R395). -/
def overcommits (ps : List CPart) : Bool :=
  let sum (f : CPart → Nat) : Nat := (ps.map f).sum
  decide (3072 < 64 + sum (·.fltRes) ∨ 1536 < 64 + sum (·.httRes) ∨ 196608 < 4096 + 16 * sum (·.trkRes) ∨
    49152 < sum (·.rdtRes) ∨ 6144 < sum (·.pfPages) ∨ 393216 < 2048 + 24 * sum (fun p => p.swcRes.sum) ∨ 64 < sum (·.slots))
/-- Whether a CREATE or MODIFY overcommits any package it names. -/
def State.pOver (s : State) (b : List Byte) : Bool :=
  decide (pType b < 2) &&
  (entryOf (pBody b)).parts.any (fun p =>
    overcommits (p.2 :: (s.map.comps.filter (fun e => decide (e.1 ≠ pComp b))).filterMap (fun c => c.2.parts.find? p.1)))
/-- SIGNATURE. -/
abbrev stSignature : Nat := 0x20
/-- STALE_BASE. -/
abbrev stStaleBase : Nat := 0x21
/-- CONFLICT. -/
abbrev stConflict : Nat := 0x22
/-- OVERCOMMIT. -/
abbrev stOvercommit : Nat := 0x23
/-- NO_MAJORITY. -/
abbrev stNoMajority : Nat := 0x24
/-- MEMBERSHIP. -/
abbrev stMembership : Nat := 0x25
/-- Whether a proposal's signature verifies under the fabric key (R379). -/
def State.pSigned (s : State) (b : List Byte) : Bool := s.fabricOk (b.take (64 + pLen b)) (pSig b)
/-- The committed epoch. -/
def State.committedEpoch (s : State) : Nat := match s.map.committed with | some c => c.1 | none => s.map.epoch
/-- The checks of Table 15-4, first failing status; 0 passes. -/
def State.mapCheck (s : State) (b : List Byte) : Nat :=
  if !s.pSigned b then stSignature
  else if pMalformed b then stMalformed
  else if pBase b ≠ s.committedEpoch then stStaleBase
  else if !s.pMember b then stMembership
  else if s.pConflict b then stConflict
  else if s.pOver b then stOvercommit
  else 0
/-- The leader's further checks of a TAKEOVER (R435): the reason of the refusal, or none.  What only other packages know is
an open choice. -/
def State.takeoverCheck (s : State) (b : List Byte) : Option Nat :=
  let x := pTake b
  let hit := s.map.comps.filter (fun e => e.2.parts.has x.1)
  if s.healthy x.1 || !s.healthy x.2.1 || (x.2.1 == s.pkg && decide (x.2.2 ≠ s.part.identity)) then some 3
  else if hit.any (fun e => e.2.stripe.contains s.self && (s.ckpt.getD e.1 .none).image.isNone) then some 2
  else match Config.peerSays s.nonce % 5 with
    | 1 => some 3 | 2 => some 2 | 3 => some 0 | 4 => some 1 | _ => none

/-! ### Requests in flight (R388, R392) -/

/-- Whether a request that passed its epoch check under an epoch below `e` has not completed. -/
def State.olderOpen (s : State) (e : Nat) : Bool :=
  let old (h : ReqHdr) : Bool := decide (h.epoch.toNat < e)
  s.home.txns.any (fun t => match t.2.act with
    | .coh _ _ h _ => old h | .req _ _ h _ => old h | _ => false) ||
  s.gly.celWait.any (fun w => old w.h) || s.gly.behind.any (fun w => old w.h) ||
  (s.repro.held ++ s.repro.waits).any (fun h => match h.ans with | .req _ r => old r | _ => false) ||
  s.emb.tabs.any (fun t => t.2.batches.any (fun b => b.2.upds.any (fun u => match u.ans with
    | some a => old a.2 | none => false)))
/-- Whether an RDMA request that passed a key's check has not completed. -/
def State.keyOpen (s : State) (k : Nat) : Bool :=
  s.qps.any (fun q => q.2.reads.any (fun r => r.1 == k)) ||
  s.home.txns.any (fun t => match t.2.act with | .host _ _ key _ _ _ _ _ => key == k | _ => false)

/-! ### Ending contexts (R389) -/

/-- Completions of a context that its queue pairs' end discards: those it still owes and those written and not
acknowledged. -/
def State.owedCmps (s : State) (c : Nat) : Nat :=
  let x := s.ctx c
  let asks (l : List QDesc) : Nat := (l.filter (fun q => dReq q.d && q.fwd.isNone)).length
  asks x.queue + asks (x.kernel.map (·.q)).toList + asks x.sends.vals + x.held.length +
    (s.qps.vals.map (fun q => (q.unacked.filter (fun m => match m.use with | .cmp k _ => k == c | _ => false)).length)).sum
/-- Whether a thread slot runs a group of a context. -/
def State.slotOf (s : State) (c u t : Nat) : Bool := let th := s.thr u t; decide (th.st ≠ .empty ∧ th.ctx = c)
/-- Writes of a context that have passed their checks are performed (R392). -/
def State.finishWrites (s : State) (c : Nat) : State :=
  s.units.foldl (fun s e =>
    let s := (e.2.wb.filter (fun w => !w.done && !w.remote && s.slotOf c e.1 w.slot)).foldl
      (fun (s : State) w => s.wbPerform e.1 w.id) s
    (List.range 8).foldl (fun (s : State) t => if s.slotOf c e.1 t then
      (List.range 4).foldl (fun (s : State) g => s.dmaComplete e.1 t g) s else s) s) s
/-- A unit without the threads of a context, and without what its engines held for them. -/
def Unt.without (x : Unt) (mine : Nat → Bool) : Unt :=
  { x with
    th := Vector.ofFn (fun (i : Fin 8) => if mine i.val then Thread.reset else x.th[i])
    vq := x.vq.filter (fun o => !mine o.slot)
    mq := x.mq.filter (fun o => !mine o.slot)
    mrun := match x.mrun with | some m => if mine m.slot then none else some m | none => none
    acc := x.acc.map (fun (a : Acc) => match a.holder with
      | some h => if mine h then Acc.reset else a
      | none => a)
    wb := x.wb.filter (fun w => !mine w.slot) }
/-- Whom a request serves, when its thread has gone. -/
def ReqUse.without (use : ReqUse) (mine : Nat → Nat → Bool) : ReqUse :=
  match use with
  | .load u t _ => if mine u t then .other else use
  | .dma u t _ _ => if mine u t then .other else use
  | _ => use
/-- The kernel of a context ends without a completion: its writes that have passed their checks are performed, and its
threads, groups and operations are gone. -/
def State.killKernel (s : State) (c : Nat) : State :=
  match (s.ctx c).kernel with
  | none => s
  | some k =>
    let s := (((s.finishWrites c).keptDrop c).embDrop c).bindingsEnd c
    let mine (u t : Nat) : Bool := s.slotOf c u t
    let s := { s with
      units := s.units.mapV (fun u (x : Unt) => x.without (mine u))
      groups := s.groups.filter (fun e => decide (e.2.ctx ≠ c))
      taken := s.taken.filter (fun e => decide (e.1 % 4096 ≠ c))
      srch := s.srch.del c
      gly := { s.gly with reqs := s.gly.reqs.mapV (fun _ (r : OutReq) => { r with use := r.use.without mine }) } }
    let s := s.updCtx c (fun x => { x with kernel := none, st := .idle })
    (k.pins.filterMap id).foldl State.unpinVint (s.closeRecs (fun r => decide (r.ctx = c)))
/-- Detach every agent attached to the segments of a context. -/
def State.detachCtx (s : State) (comp c : Nat) : State :=
  let gone := s.home.attach.filter (fun a => decide (a.ctx = c))
  let s := gone.foldl (fun s a => s.hubMsg a.port 0x0C01 comp c
    (leBytes 2 c ++ leBytes 1 a.seg ++ leBytes 1 a.agent ++ leBytes 4 comp)) s
  let left := s.home.attach.filter (fun a => decide (a.ctx ≠ c))
  let s := { s with home := { s.home with
    attach := left
    leases := s.home.leases.filter (fun e => left.any (fun a => decide (e.1 = a.port * 16 + a.agent)))
    trk := s.home.trk.filter (fun e => decide (e.2.ctx ≠ c)) } }
  s.home.txns.foldl (fun s e =>
    if e.2.ctx ≠ c then s
    else
      let s := match e.2.act with
        | .coh _ l h _ => s.nackReq l h 0x04
        | .req _ l h _ => s.nackReq l h 0x04
        | _ => s
      s.txnEnd e.1) s
/-- Steps 1 and 2 of R389 for a removed context of a composition: its kernel is aborted, its queue pairs and keys are
destroyed, its agents detached, and it is freed. -/
def State.endCtx (s : State) (comp c : Nat) : State :=
  let s := s.inc rCMP_END_DISCARD 31 0 0 0 (s.owedCmps c)
  let s := s.killKernel c
  let s := s.detachCtx comp c
  let s := { s with
    qps := s.qps.filter (fun q => !(q.2.comp == comp && q.2.ctx == c))
    keys := s.keys.filter (fun k => decide (k.2.ctx ≠ c))
    emb := { s.emb with
      staged := s.emb.staged.del c
      tabs := s.emb.tabs.filter (fun e => decide (e.1 / 64 ≠ c))
      pres := s.emb.pres.filter (fun e => decide (e.1 / 64 ≠ c)) } }
  let pages := ((s.ctx c).segs.vals.filter (·.src.isNone)).flatMap (·.pages)
  let s := s.releasePages comp pages
  { s with
    ctxs := s.ctxs.del c
    map := { s.map with
      revoked := s.map.revoked.filter (fun r => decide (r.1 ≠ c))
      revoking := s.map.revoking.filter (fun r => decide (r.ctx ≠ c)) } }

/-! ### Charge records (R398) -/

/-- Bytes 0 to 127 of a charge record (Table 15-7). -/
def State.chargeBody (s : State) (tag : Nat) (strict final : Bool) (c : Charge) : List Byte :=
  leBytes 4 s.map.chargeSeq ++ leBytes 4 tag ++ leBytes 2 s.pod ++ leBytes 1 s.pkg ++
    leBytes 1 (b2n final + 2 * b2n strict) ++ leBytes 4 s.map.epoch ++ leBytes 4 s.evr.cold ++ leBytes 4 0 ++
    leBytes 8 s.count ++ leBytes 8 c.active ++ leBytes 8 c.region ++ leBytes 8 c.larder ++ leBytes 8 c.cellar ++
    leBytes 8 c.slot ++ leBytes 56 0
/-- Write a composition's charge record, signed, to the ledger, or keep it (R398, R399). -/
def State.chargeRecord (s : State) (tag : Nat) (strict final : Bool) : State :=
  match s.map.charge.find? tag with
  | none => s
  | some c =>
    let body := s.chargeBody tag strict final c
    let b := body ++ signed body
    let s := { s with map := { s.map with chargeSeq := (s.map.chargeSeq + 1) % 2 ^ 32 } }
    match s.chargeWrite b with
    | some s' => s'
    | none => s.chargeKeep b

/-! ### Applying an entry (R384, R389 to R392, R395, R396, R435 to R437) -/

/-- Contexts of a part of this package. -/
def CPart.ctxs (p : CPart) : List Nat := (List.range p.ctxCount).map (p.ctxFirst + ·)
/-- Regions of a part, as `die · 128 + region`. -/
def CPart.rgns (p : CPart) : List Nat :=
  (List.range 8).flatMap (fun d => let f := p.rgn.getD d (0, 0); (List.range f.2).map (fun i => d * 128 + f.1 + i))
/-- Molend fills the schedule of 64 slots from the entries, in ascending tag order; the system has the rest (R395). -/
def State.fillSlots (s : State) : State :=
  if s.fld rSWC_CFG 8 8 = 0 then s
  else
    let own := s.map.comps.flatMap (fun e => List.replicate (((s.partOf e.1).map (·.slots)).getD 0) (2 ^ 21 + e.1))
    (List.range 64).foldl (fun (s : State) j => s.wr rSWC_PART_SCHED j 0 (own.getD j (2 ^ 21 + 2 ^ 20))) s
/-- Whether a composition whose entry is sealed holds a region of this package (R396). -/
def State.closedHere (s : State) : Bool :=
  s.map.comps.any (fun e => e.2.closed && (match s.partOf e.1 with | some p => p.rgns != [] | none => false))
/-- Clear and lock the Rattle registers (R439). -/
def State.rattleClear (s : State) : State :=
  { s with ctl := s.ctl.filter (fun e => decide (e.1 < 0x40000 ∨ 0x50000 ≤ e.1)), sec := { s.sec with rattle := 0 } }
/-- A composition takes what its part here gives it: its contexts are Unset, its data key is drawn and its totals begin
(R398, R480). -/
def State.compBegins (s : State) (tag : Nat) (new : List Nat) : State :=
  let s := { s with ctxs := new.foldl (fun (m : Assoc Ctx) c => m.put c .reset) s.ctxs }
  let s := if s.sec.dataKeys.has tag then s
    else { s with sec := { s.sec with dataKeys := s.sec.dataKeys.put tag (Config.random s.nonce) } }.tick
  if s.map.charge.has tag then s
  else { s with map := { s.map with charge := s.map.charge.put tag ⟨0, 0, 0, 0, 0⟩ } }
/-- Contexts and regions taken from a composition here are given up: kernels on removed regions are aborted with cause 1,
removed contexts end, and region caches let go of removed regions (R389). -/
def State.compShrinks (s : State) (tag : Nat) (ctxs rgns : List Nat) : State :=
  let s := ctxs.foldl (fun (s : State) c => s.endCtx tag c) s
  let s := s.ctxs.foldl (fun (s : State) e =>
    if rgns.any e.2.hasRgn && e.2.kernel.isSome && (s.compOf? e.1 == some tag) then s.abortKernel e.1 1 none else s) s
  { s with
    rcache := s.rcache.filter (fun e => !rgns.contains e.1)
    map := { s.map with draining := NatSet.add s.map.draining tag } }
/-- The sub-buckets of a composition that is given a part here are full (R451). -/
def State.subFull (s : State) (tag : Nat) : State :=
  { s with evr := { s.evr with subTokens := s.evr.subTokens.filter (fun e => decide (e.1 % 2 ^ 20 ≠ tag)) } }
/-- CREATE and MODIFY at apply. -/
def State.applyEntry (s : State) (tag : Nat) (e : Comp) : State :=
  let old := s.partOf tag
  let new := e.parts.find? s.pkg
  let oc := (old.map CPart.ctxs).getD []
  let nc := (new.map CPart.ctxs).getD []
  let gone := oc.filter (fun c => !nc.contains c)
  let lost := ((old.map CPart.rgns).getD []).filter (fun r => !((new.map CPart.rgns).getD []).contains r)
  let s := if gone = [] ∧ lost = [] then s else s.compShrinks tag gone lost
  let left := s.coordinates tag && decide ((s.ckpt? tag).phase ≠ 0) && (s.stripe tag).any (fun p => !e.stripe.contains p)
  let s := if left then s.ckptFail tag else s
  let s := { s with map := { s.map with comps := s.map.comps.put tag e } }
  let s := if new.isSome && old.isNone then s.subFull tag else s
  if new.isSome then s.compBegins tag (nc.filter (fun c => !oc.contains c)) else s
/-- END at apply: contexts end, vintages are freed whatever their pins, and the final charge record is written (R389,
R481). -/
def State.applyEnd (s : State) (tag : Nat) : State :=
  let p := s.partOf tag
  let s := s.compShrinks tag ((p.map CPart.ctxs).getD []) ((p.map CPart.rgns).getD [])
  let s := (s.cel.vints.filter (fun e => decide (e.2.comp = tag))).foldl (fun (s : State) e => s.freeVint e.1) s
  let s := s.chargeRecord tag (s.strict tag) true
  { s with
    qps := s.qps.filter (fun q => decide (q.2.comp ≠ tag))
    ckpt := s.ckpt.del tag
    repro := { s.repro with
      exact := s.repro.exact.filter (fun e => decide (e.2.comp ≠ tag))
      held := s.repro.held.filter (fun h => decide (h.comp ≠ tag))
      waits := s.repro.waits.filter (fun h => decide (h.comp ≠ tag))
      rounds := s.repro.rounds.del tag }
    map := { s.map with
      comps := s.map.comps.del tag
      charge := s.map.charge.del tag } }
/-- REVOKE at apply: the items of this package are revoked and drain (R392). -/
def State.applyRevoke (s : State) (e : Nat) (items : List RevItem) : State :=
  items.foldl (fun (s : State) i =>
    if i.pkg ≠ s.pkg then s
    else if i.key then
      let idx := i.keyNo % 2 ^ 15
      match s.keys.find? idx with
      | none => s
      | some k =>
        if k.gen ≠ i.keyNo / 2 ^ 15 then s
        else
          let r : Revoke := { key := some i.keyNo, ctx := k.ctx, seg := k.seg, first := 0, bytes := 0, epoch := e, q := none }
          { s with
            keys := s.keys.put idx { k with revoked := true }
            map := { s.map with revoking := s.map.revoking ++ [r] } }
    else
      let r : Revoke := { key := none, ctx := i.ctx, seg := i.seg, first := i.first, bytes := i.bytes, epoch := e, q := none }
      { s with map := { s.map with
        revoked := s.map.revoked ++ [(i.ctx, i.seg, i.first, i.bytes)]
        revoking := s.map.revoking ++ [r] } }.recheckFreed) s
/-- Fence the package (R437): kernels end without completions, and FENCED is reported. -/
def State.fence (s : State) (e : Nat) : State :=
  let s := s.ctxs.keys.foldl (fun (s : State) c => s.killKernel c) s
  { s with map := { s.map with fenced := true } }.raise { code := 0x011D, sev := 5, d0 := s.pkg, d1 := e }
/-- The spare takes the failed package's numbers; its plane links are held on the PORT check (R436, Table 17-6). -/
def State.takeNumber (s : State) (failed : Nat) : State :=
  let s := { s with map := { s.map with podPkg := some (s.pod, failed) } }
  let s := s.inc rHLT_RESTORE 31 16
  (List.range 16).foldl (fun (s : State) l =>
    match (s.link l).partner with
    | some h => if (s.link l).st = 3 ∧ h.role = 2 then
        match s.helloFails l h with | some c => s.linkHold l c | none => s
      else s
    | none => s) s
/-- TAKEOVER at apply (R436, R437): the identity of FAILED moves to the spare, the affected compositions restore, and a
superseded package is fenced. -/
def State.applyTakeover (s : State) (e : Nat) (x : Nat × Nat × Nat) : State :=
  let failed := x.1
  let ver := ((s.map.idents.find? failed).map Prod.snd).getD 0 + 1
  let hit : List Nat := (s.map.comps.filter (fun c => c.2.parts.has failed)).map Prod.fst
  let s := { s with map := { s.map with
    idents := s.map.idents.put failed (x.2.2, ver)
    members := s.map.members.filter (fun p => decide (p ≠ x.2.1))
    heard := match s.map.heard.find? x.2.1 with
      | some t => (s.map.heard.del x.2.1).put failed t | none => s.map.heard } }
  if s.part.identity = x.2.2 then
    let s := s.takeNumber failed
    hit.foldl (fun (s : State) tag =>
      (((s.subFull tag).compBegins tag (((s.partOf tag).map CPart.ctxs).getD [])).spareLoads tag).recommit tag failed) s
  else if s.pkg = failed then s.fence e
  else
    hit.foldl (fun (s : State) tag =>
      if (s.stripe tag).contains s.self then
        let r := (s.freeze tag ((s.ckpt.getD tag .none).n)).restoreLoad tag
        if r.1 then r.2.recommit tag failed else r.2
      else s) s
/-- A migration whose receiver is gone is abandoned, and the sender stays owner (R267). -/
def State.migLost (s : State) (gone : Nat → Bool) : State :=
  s.emb.tabs.foldl (fun (s : State) e =>
    match e.2.mig with
    | some m => if m.peer / 64 = s.pod ∧ gone (m.peer % 64) = true then s.migAbandon (e.1 / 64) (e.1 % 64) true
      else s
    | none => s) s
/-- A member is held unhealthy: migrations towards it and checkpoints that await it end (R267, R433). -/
def State.memberLost (s : State) (pkg : Nat) : State := (s.migLost (· == pkg)).ckptLost (· == pkg)
/-- MEMBERS at apply: a package that holds no map takes its numbers from it, and a fenced one returns (R379, R437). -/
def State.applyMembers (s : State) (b : List Byte) (me : Nat × Nat) : State :=
  let l := pMembers b
  let s := { s with map := { s.map with
    members := l
    heard := s.map.heard.filter (fun e => l.contains e.1)
    podPkg := if s.map.podPkg.isNone then some me else s.map.podPkg } }
  let gone (p : Nat) : Bool := !l.contains p
  let s := (s.migLost gone).ckptLost gone
  if l.contains s.pkg then { s with map := { s.map with fenced := false } } else s
/-- Apply an entry: everything after it uses its epoch (R384). -/
def State.applyMap (s : State) (e : Nat) (b : List Byte) (me : Nat × Nat) : State :=
  let s := match pType b with
    | 2 => s.applyEnd (pComp b)
    | 3 => s.applyRevoke e (pItems b)
    | 4 => s.applyMembers b me
    | 5 => s.applyTakeover e (pTake b)
    | _ => s.applyEntry (pComp b) (entryOf (pBody b))
  let first := decide (s.map.epoch = 0)
  let s := { s with
    map := { s.map with
      epoch := e
      committed := none
      log := ((e, s.map.term, b) :: s.map.log).take 1024 }
    sec := if first then { s.sec with spiOpen := false } else s.sec }
  let s := (s.inc rCMP_PROPOSALS 31 0).fillSlots
  let s := if s.closedHere then s.rattleClear else s
  s.heldPump

end Sys2Proof.Machine
end

