-- ==== Sys2Proof/Machine/MapRows.lean ====
section
/-! DEFINITION. The pod's map at work: proposals, commit, heartbeats and leaders, epochs, revocation, ownership and charge
records (R378 to R394, R398, R399). -/

namespace Sys2Proof.Machine

/-! ### Who takes part (R380, R386) -/

/-- The pod and package number that a package without a map takes from its planes' hellos, or, joined to one other package
by direct links alone, from the order of the two identities (R380). -/
def State.candidate (s : State) : Option (Nat × Nat) :=
  let up := (List.range 16).filterMap (fun l => if (s.link l).st = 3 then (s.link l).partner else none)
  match up.filter (fun h => h.role == 2) with
  | h :: t => if t.all (fun g => g.pod == h.pod && g.port == h.port) then some (h.pod.toNat, h.port.toNat) else none
  | [] => match up.filter (fun h => h.role == 0) with
    | h :: t => if t.all (fun g => g.identity == h.identity) then
        some (0, if s.part.identity < h.identity.toNat then 0 else 1) else none
    | [] => none
/-- The pod and package number this package acts under. -/
def State.me (s : State) : Nat × Nat := s.map.podPkg.getD (s.candidate.getD (0, 0))
/-- The packages that commit an entry: the members, or those that the first proposal names (R380, R383). -/
def State.voters (s : State) (b : List Byte) : List Nat := if s.map.podPkg.isNone then pMembers b else s.map.members
/-- Send a map message to a package of the pod. -/
def State.mapSay (s : State) (p kind : Nat) (body : List Nat) : State :=
  s.send (.msg (s.me.1 * 64 + p) kind (s.me.2 :: body))
/-- Send a map message to every other package that commits an entry. -/
def State.mapAll (s : State) (b : List Byte) (kind : Nat) (body : List Nat) : State :=
  ((s.voters b).filter (fun p => decide (p ≠ s.me.2))).foldl (fun (s : State) p => s.mapSay p kind body) s
/-- Bytes as a message carries them. -/
def natBytes (b : List Byte) : List Nat := b.map (·.toNat)
/-- A package whose map has no place for it may act on a proposal that forms the pod and names it (R380). -/
def State.forms (s : State) (b : List Byte) : Bool :=
  decide (pType b = 4 ∧ pBase b = 0) && (match s.candidate with
    | some m => decide (m.1 = pPod b) && (pMembers b).contains m.2
    | none => false)
/-- Whether a context of a composition runs here (R389). -/
def State.compRuns (s : State) (tag : Nat) : Bool := (s.compCtxs tag).any (fun c => decide ((s.ctx c).st = .running))
/-- A member refuses an END without FORCE, and a MODIFY that changes STRICT, while a context of the composition runs (R389,
R405). -/
def State.endBusy (s : State) (b : List Byte) : Bool :=
  ((decide (pType b = 2) && !pForce b) || (decide (pType b = 1) && (entryOf (pBody b)).strict != s.strict (pComp b))) &&
    s.compRuns (pComp b)

/-! ### What becomes of a proposal (R378, R382, R383) -/

/-- A proposal that waits here completes; every status but OK counts as refused (CMP_PROPOSALS). -/
def State.propDone (s : State) (p : Proposing) (st : Nat) : State :=
  let s := { s with map := { s.map with proposing := s.map.proposing.filter (fun x => decide (x ≠ p)) } }
  let s := if st = stOK then s else s.inc rCMP_PROPOSALS 63 32
  s.complete 0 p.q { status := st }
/-- The leader tells the receiving package of a proposal's refusal; the proposal completes there. -/
def State.propAnswer (s : State) (origin : Nat) (b : List Byte) (st : Nat) : State :=
  if origin = s.me.2 then
    match s.map.proposing.find? (fun p => p.bytes == b) with | some p => s.propDone p st | none => s
  else s.mapSay origin 56 [pBase b + 1, s.map.term, st]
/-- The leader holds a majority: the entry is committed (Table 15-5 step 4). -/
def State.mapWin (s : State) (a : Appended) : State :=
  let s := s.mapAll a.bytes 55 [a.epoch, s.map.term]
  { s with map := { s.map with
    committed := some (a.epoch, a.bytes)
    prepared := none
    appended := none } }
/-- An acknowledgement reaches the leader. -/
def State.mapVote (s : State) (p : Nat) : State :=
  match s.map.appended with
  | none => s
  | some a =>
    let a := { a with acks := NatSet.add a.acks p }
    if (s.voters a.bytes).length < 2 * a.acks.length then s.mapWin a
    else { s with map := { s.map with appended := some a } }
/-- The leader appends an entry under its term (Table 15-5 step 2), and is the first to acknowledge it. -/
def State.mapAppend (s : State) (origin : Nat) (b : List Byte) : State :=
  let e := pBase b + 1
  let s := { s with map := { s.map with
    term := max 1 s.map.term
    prepared := some (e, max 1 s.map.term, b)
    appended := some { epoch := e, bytes := b, acks := [], at_ := s.count, origin := origin } } }
  (s.mapAll b 52 (e :: s.map.term :: natBytes b)).mapVote s.me.2
/-- The leader gives an entry up with a status: members discard it, and the proposal completes (R383, R389). -/
def State.mapDrop (s : State) (st : Nat) : State :=
  match s.map.appended with
  | none => s
  | some a =>
    let s := { s with map := { s.map with
      appended := none
      prepared := none } }
    (s.mapAll a.bytes 56 [a.epoch, s.map.term, st]).propAnswer a.origin a.bytes st
/-- The leader takes a proposal: it waits behind an entry that is not yet applied, is refused, or is appended (R382). -/
def State.leaderTakes (s : State) (origin : Nat) (b : List Byte) : State :=
  if s.map.appended.isSome || s.map.committed.isSome then
    { s with map := { s.map with waitProps := s.map.waitProps ++ [(origin, b)] } }
  else if s.map.podPkg.isNone then
    if !s.pSigned b then s.propAnswer origin b stSignature
    else if pMalformed b then s.propAnswer origin b stMalformed
    else if pBase b ≠ 0 then s.propAnswer origin b stStaleBase
    else if !s.forms b then s.propAnswer origin b stMembership
    else s.mapAppend origin b
  else
    match s.mapCheck b with
    | 0 =>
      if pType b = 5 then
        match s.takeoverCheck b with
        | some r => (s.tick.raise { code := 0x011C, sev := 3, d0 := (pTake b).1, d1 := r }).propAnswer origin b stState
        | none => s.tick.mapAppend origin b
      else if s.endBusy b then s.propAnswer origin b stBusy
      else s.mapAppend origin b
    | st => s.propAnswer origin b st
/-- The leader takes the proposals that waited. -/
def State.propPump (s : State) : State :=
  if s.map.appended.isSome || s.map.committed.isSome then s
  else
    let l := s.map.waitProps
    l.foldl (fun (s : State) x => s.leaderTakes x.1 x.2) { s with map := { s.map with waitProps := [] } }
/-- Leadership as the healthy members give it: a package that becomes leader raises the term, and sends again the entry it
holds prepared (R386). -/
def State.leadCheck (s : State) : State :=
  if s.leads = s.map.leading then s
  else if !s.leads then { s with map := { s.map with
    leading := false
    appended := none
    waitProps := [] } }
  else
    let s := { s with map := { s.map with
      leading := true
      term := (s.map.term + 1) % 2 ^ 32 } }
    match s.map.prepared with
    | some (e, _, b) => if s.committedEpoch < e then s.mapAppend s.pkg b else s
    | none => s
/-- A committed entry is applied in one hub cycle; its proposal completes here with OK (R384, Table 15-5 step 5). -/
def State.mapApply (s : State) : State :=
  match s.map.committed with
  | none => s
  | some (e, b) =>
    let s := s.applyMap e b s.me
    let s := match s.map.proposing.find? (fun p => p.bytes == b) with | some p => s.propDone p stOK | none => s
    s.leadCheck.propPump
/-- A member learns that the entry it holds prepared is committed; one that does not hold it asks for it (R383, R385). -/
def State.mapLearn (s : State) (src e t : Nat) : State :=
  let ask (s : State) : State := s.mapSay src 58 [s.committedEpoch]
  if e ≤ s.committedEpoch then s
  else match s.map.prepared with
  | some (e', t', b) =>
    if e' ≠ e ∨ t' ≠ t then ask s
    else
      let s := s.mapApply
      if e = s.map.epoch + 1 then { s with map := { s.map with
        committed := some (e, b)
        prepared := none } }
      else ask s
  | none => ask s
/-- The highest term seen (CMP_EPOCH). -/
def State.seeTerm (s : State) (t : Nat) : State := { s with map := { s.map with term := max s.map.term t } }
/-- Whether a map message from a package is taken: it is a member's, or the pod is forming. -/
def State.mapHears (s : State) (src : Nat) : Bool := s.map.podPkg.isNone || s.map.members.contains src
/-- BAD_SIGNATURE of a proposal (Table 20-6). -/
def State.badSignature (s : State) (b : List Byte) : State :=
  s.raise { code := 0x0307, sev := 0, d0 := pBase b, d1 := pType b }

/-! ### Descriptors (R378, R391, R399) -/

/-- Whether a plane or a direct link reaches a package, for one that holds no map yet (R380). -/
def State.reaches (s : State) (p : Nat) : Bool :=
  decide (p = s.me.2) || (List.range 16).any (fun n => s.planeUsable n p) || (s.directLink (s.me.1 * 64 + p)).isSome
/-- Where a proposal goes: to the leader, or, while the pod forms, to the lowest-numbered package named that can be reached. -/
def State.propDest (s : State) (b : List Byte) : Option Nat :=
  if s.map.podPkg.isNone then (pMembers b).find? s.reaches else s.leader
/-- MAP_PROPOSE at its consumption (R378 to R380): a status that completes it now, or none while it waits for its outcome. -/
def State.mapPropose (s : State) (q : QDesc) : Option Nat × State :=
  let a := fieldOf q.d 16 8
  let n := fieldOf q.d 24 4
  let no (s : State) (st : Nat) : Option Nat × State := (some st, s.inc rCMP_PROPOSALS 63 32)
  if n < 448 ∨ 65536 < n then no s stMalformed
  else match s.larderCheck 0 a n permR with
  | some st => no s st
  | none =>
    let b := (s.memRead 0 a n).1
    let s := s.noteRead 0 a n
    if !pSized b then no s stMalformed
    else if !s.pSigned b then no (s.badSignature b) stSignature
    else if s.map.podPkg.isNone && !s.forms b then no s stMembership
    else
      match s.propDest b with
      | none => no s stNoMajority
      | some l =>
        let p : Proposing := { q := q, bytes := b, base := pBase b }
        let s := { s with map := { s.map with proposing := s.map.proposing ++ [p] } }
        if l = s.me.2 then (none, s.leaderTakes l b) else (none, s.mapSay l 50 (natBytes b))
/-- KEY_REVOKE at its consumption (R391, R392): BOUNDS, or the key is revoked and the descriptor waits for its end. -/
def State.keyRevoke (s : State) (c : Nat) (q : QDesc) : Option Nat × State :=
  let no := fieldOf q.d 16 4
  let idx := no % 2 ^ 15
  match s.keys.find? idx with
  | none => (some stBounds, s)
  | some k =>
    if k.gen ≠ no / 2 ^ 15 ∨ (c ≠ 0 ∧ (s.compOf? c ≠ some k.comp ∨ k.control)) then (some stBounds, s)
    else
      let r : Revoke := { key := some no, ctx := k.ctx, seg := k.seg, first := 0, bytes := 0, epoch := s.map.epoch,
                          q := some (c, q) }
      (none, { s with
        keys := s.keys.put idx { k with revoked := true }
        map := { s.map with revoking := s.map.revoking ++ [r] } })
/-- LEDGER_SET (R399): the status, DETAIL and state. -/
def State.ledgerSet (s : State) (w : Nat) (d : Vec) : Ctl :=
  let l := fieldOf d 32 1
  if w ≠ 0 then s.no stBounds
  else if l < 4 ∨ 16 < l then s.no stMalformed
  else ({ s with map := { s.map with ledger := some (fieldOf d 16 2, fieldOf d 20 4, fieldOf d 24 8, l) } }.chargeFlush).yes

/-! ### Commit rows (Table 15-5) -/

/-- PROPOSAL_FORWARD (R380, R383): the leader, or the first leader of a forming pod, takes a forwarded proposal. -/
def execProposalForward (src : BitVec 6) (p : Proposal) (s : State) : Host.Outcome State Fault Refusal :=
  s.live (
    if s.map.podPkg.isNone && s.forms p.data then s.leaderTakes src.toNat p.data
    else if s.leads && s.mapHears src.toNat && !s.map.fenced then s.leaderTakes src.toNat p.data
    else s)
/-- MAP_APPEND (R380, R383, R389): the member verifies the entry, writes it as prepared and acknowledges it, or refuses
an END, or a change of STRICT, that finds a running context (R405). -/
def execMapAppend (src : BitVec 6) (epoch term : BitVec 32) (p : Proposal) (s : State) : Host.Outcome State Fault Refusal :=
  let b := p.data
  let e := epoch.toNat
  let t := term.toNat
  let held := match s.map.prepared with | some x => decide (x.2.2 = b) | none => true
  s.live (
    if !s.mapHears src.toNat || decide (t < s.map.term) then s
    else
      let s := s.seeTerm t
      if !s.pSigned b then s.badSignature b
      else if e ≠ pBase b + 1 ∨ e ≤ s.committedEpoch ∨ (s.map.podPkg.isNone ∧ (s.forms b && held) = false) then s
      else if s.endBusy b then s.mapSay src.toNat 54 [e, t, stBusy]
      else { s with map := { s.map with prepared := some (e, t, b) } }.mapSay src.toNat 53 [e, t])
/-- MAP_ACK (R383): on more than half, the entry is committed. -/
def execMapAck (src : BitVec 6) (epoch term : BitVec 32) (s : State) : Host.Outcome State Fault Refusal :=
  s.live (
    match s.map.appended with
    | some a => if a.epoch = epoch.toNat ∧ s.map.term = term.toNat ∧ src.toNat ∈ s.voters a.bytes then s.mapVote src.toNat else s
    | none => s)
/-- MAP_NACK (R389): the leader abandons the entry. -/
def execMapNack (src : BitVec 6) (epoch term : BitVec 32) (status : BitVec 8) (s : State) : Host.Outcome State Fault Refusal :=
  s.live (
    match s.map.appended with
    | some a =>
      if a.epoch = epoch.toNat ∧ s.map.term = term.toNat ∧ src.toNat ∈ s.voters a.bytes then (s.mapDrop status.toNat).propPump
      else s
    | none => s)
/-- MAP_COMMIT (R383). -/
def execMapCommit (src : BitVec 6) (epoch term : BitVec 32) (s : State) : Host.Outcome State Fault Refusal :=
  s.live (if s.mapHears src.toNat then (s.seeTerm term.toNat).mapLearn src.toNat epoch.toNat term.toNat else s)
/-- MAP_ABANDON (R383): the prepared entry is discarded; a proposal of that epoch that waits here completes with the status
the leader gives. -/
def execMapAbandon (src : BitVec 6) (epoch term : BitVec 32) (status : BitVec 8) (s : State) : Host.Outcome State Fault Refusal :=
  let e := epoch.toNat
  s.live (
    if !s.mapHears src.toNat then s
    else
      let s := s.seeTerm term.toNat
      let mine := match s.map.prepared with
        | some (e', t', b) => if e' = e ∧ t' = term.toNat then some b else none
        | none => none
      let won (b : List Byte) : Bool := match s.map.committed with | some c => c.2 == b | none => false
      let s := if mine.isSome then { s with map := { s.map with prepared := none } } else s
      let p := match mine with
        | some b => s.map.proposing.find? (fun p => p.bytes == b)
        | none => s.map.proposing.find? (fun p => decide (p.base + 1 = e) && !won p.bytes)
      match p with | some p => s.propDone p status.toNat | none => s)
/-- MAP_COMMIT_TIMEOUT (R383): no majority in time. -/
def execMapCommitTimeout (s : State) : Host.Outcome State Fault Refusal :=
  s.live (
    match s.map.appended with
    | some a => ((s.untilDue (a.at_ + max 1 (s.rd rCMP_MAP_TMO))).mapDrop stNoMajority).propPump
    | none => s)
/-- EPOCH_APPLY (R384). -/
def execEpochApply (s : State) : Host.Outcome State Fault Refusal := s.live s.mapApply
/-- EPOCH_DRAIN (R388, R389, R481): no request of an older epoch is in flight; what the epochs took away is released. -/
def execEpochDrain (s : State) : Host.Outcome State Fault Refusal :=
  s.live (
    if s.olderOpen s.map.epoch then s
    else
      let owns (t : Nat) : Bool := s.pageOwner.any (fun e => decide (e.2 = t))
      let keys := s.sec.dataKeys.filter (fun k => decide (k.1 = 0) || s.map.comps.has k.1 || owns k.1)
      { s with
        map := { s.map with draining := [] }
        sec := { s.sec with dataKeys := keys } })

/-! ### Rejoining a pod at a start (R385, R461) -/

/-- The package holds again the map that its Attic kept; its compositions are served from now on, and the management port
and Rattle follow what the map says (R439, R488). -/
def State.rejoin (s : State) : State :=
  match s.start.attic with
  | none => s
  | some m =>
    let s := { s with
      start := { s.start with attic := none }
      sec := { s.sec with spiOpen := false }
      map := { MapSt.reset with
        podPkg := m.podPkg
        epoch := m.epoch
        term := max m.term s.map.term
        members := m.members
        comps := m.comps
        log := m.log
        prepared := m.prepared
        idents := m.idents
        owners := m.owners
        revoked := m.revoked
        heard := s.map.heard
        hbAt := s.count
        charge := s.map.charge
        chargeSeq := s.map.chargeSeq
        chargeAt := s.count } }
    let s := m.comps.foldl (fun (s : State) e =>
      s.compBegins e.1 ((((s.partOf e.1).map CPart.ctxs).getD []).filter (fun c => !s.ctxs.has c))) s
    let s := if s.closedHere then s.rattleClear else s
    s.fillSlots
/-- A member heard during the rejoin: its epoch is the Attic's, or the entries after that are asked for (R385). -/
def State.rejoinHear (s : State) (src epoch : Nat) : State :=
  match s.start.attic with
  | none => s
  | some m =>
    if !m.members.contains src then s
    else
      let s := { s with map := { s.map with heard := s.map.heard.put src s.count } }
      if epoch ≤ m.epoch then s.rejoin
      else s.send (.msg (((m.podPkg.map Prod.fst).getD 0) * 64 + src) 58 [((m.podPkg.map Prod.snd).getD 0), m.epoch])

/-! ### Heartbeats and leaders (R385 to R387) -/

/-- MAP_HEARTBEAT (R383, R386, R387): the sender is healthy; its epoch may tell of a commit missed here, and a leader's
carries the partner table. -/
def execMapHeartbeat (src : BitVec 6) (epoch term : BitVec 32) (table : List (BitVec 128)) (s : State) :
    Host.Outcome State Fault Refusal :=
  let p := src.toNat
  s.live (
    if s.map.podPkg.isNone then s.rejoinHear p epoch.toNat
    else if !s.map.members.contains p || p == s.pkg then s
    else
      let s := { s with map := { s.map with heard := s.map.heard.put p s.count } }.seeTerm term.toNat
      let s := s.leadCheck
      let s := s.mapLearn p epoch.toNat term.toNat
      if s.leader = some p then { s with map := { s.map with partners := (table.map (·.toNat)).take 1024 } } else s)
/-- HEARTBEAT_TIMER (R327, R386, R387): the package sends its epoch and term to every other member, the partner table with
them when it leads, and its leases. -/
def execHeartbeatTimer (s : State) : Host.Outcome State Fault Refusal :=
  let due := s.map.hbAt + hbPeriod
  s.live (
    let s := s.untilDue due
    let s := { s with map := { s.map with hbAt := due } }
    if s.map.podPkg.isNone then s
    else
      let s := s.leadCheck
      let body := s.map.epoch :: s.map.term :: (if s.leads then s.map.partners else [])
      (s.mapAll [] 57 body).leaseSend)
/-- HEARTBEAT_LOSS (R267, R386, R433): four periods without a heartbeat; leadership may pass to this package, and what awaits
the member ends. -/
def execHeartbeatLoss (pkg : BitVec 6) (s : State) : Host.Outcome State Fault Refusal :=
  s.live (
    match s.map.heard.find? pkg.toNat with
    | some t =>
      let s := s.untilDue (t + 4 * hbPeriod + 1)
      { s with map := { s.map with heard := s.map.heard.del pkg.toNat } }.leadCheck.memberLost pkg.toNat
    | none => s)
/-- LOG_CATCH_UP (R379, R385): the next committed entry reaches a package that is behind, or one without a map. -/
def execLogCatchUp (src : BitVec 6) (epoch term : BitVec 32) (p : Proposal) (s : State) : Host.Outcome State Fault Refusal :=
  let b := p.data
  s.live (
    let back := match s.start.attic with
      | some m => s.map.podPkg.isNone && m.members.contains src.toNat && decide (epoch.toNat = m.epoch + 1) | none => false
    let s := if back && s.pSigned b then s.rejoin else s
    if !s.mapHears src.toNat || !s.pSigned b then s
    else
      let s := (s.seeTerm term.toNat).mapApply
      if epoch.toNat ≠ s.map.epoch + 1 ∨ pBase b + 1 ≠ epoch.toNat ∨ (s.map.podPkg.isNone ∧ s.forms b = false) then s
      else
        let keep := match s.map.prepared with | some x => decide (epoch.toNat < x.1) | none => false
        { s with map := { s.map with
          committed := some (epoch.toNat, b)
          prepared := if keep then s.map.prepared else none } })
/-- PARTNER_REPORT (R376, R387): the leader keeps the report. -/
def execPartnerReport (pkg : BitVec 6) (kind : BitVec 2) (num : BitVec 8) (arrival : Bool) (partner : BitVec 16) (s : State) :
    Host.Outcome State Fault Refusal :=
  s.live (if s.leads then s.recordPartner pkg.toNat kind.toNat num.toNat arrival partner.toNat else s)

/-! ### Ownership (R393, R394) -/

/-- Take an owner and version for a state, when the version is above the one held; a row's ownership follows it (R267). -/
def State.setOwner (s : State) (st owner ver : Nat) : State :=
  match s.map.owners.find? st with
  | some x =>
    if x.1 < ver then { s with map := { s.map with owners := s.map.owners.put st (ver, owner) } }.ownerRow st owner ver else s
  | none => { s with map := { s.map with owners := s.map.owners.put st (ver, owner) } }.ownerRow st owner ver
/-- OWNERSHIP_DISPUTE (R394): the leader decides between package `a`, which sent the state, and package `b`; any other
package reports the dispute to the leader. -/
def execOwnershipDispute (state : Nat) (a b : BitVec 6) (va vb : BitVec 32) (aOwn bOwn reachA reachB : Bool) (s : State) :
    Host.Outcome State Fault Refusal :=
  s.live (
    if s.map.podPkg.isNone then s
    else if s.leads then
      let ver := max va.toNat vb.toNat + 1
      let owner := if !reachA then b.toNat else if !reachB then a.toNat else if va.toNat < vb.toNat then b.toNat else a.toNat
      let tell (s : State) (p : Nat) (ok : Bool) : State :=
        if !ok then s else if p = s.pkg then s.setOwner state owner ver else s.mapSay p 59 [state, owner, ver]
      tell (tell (s.inc rCMP_DISPUTES 31 0) a.toNat reachA) b.toNat reachB
    else match s.leader with
      | some l => s.mapSay l 30 [state, a.toNat, b.toNat, va.toNat, vb.toNat, b2n aOwn, b2n bOwn]
      | none => s)
/-- OWNER_SET (R394). -/
def execOwnerSet (state : Nat) (owner : BitVec 6) (ver : BitVec 32) (s : State) : Host.Outcome State Fault Refusal :=
  s.live (s.setOwner state owner.toNat ver.toNat)

/-! ### Charges and revocations (R392, R398) -/

/-- CHARGE_RECORD_TIMER (R398): every 2^30 counts, a record of each composition. -/
def execChargeRecordTimer (s : State) : Host.Outcome State Fault Refusal :=
  let due := s.map.chargeAt + 2 ^ 30
  s.live (
    let s := s.untilDue due
    let s := { s with map := { s.map with chargeAt := due } }
    s.map.charge.keys.foldl (fun (s : State) t => s.chargeRecord t (s.strict t) false) s)
/-- Page-list keys of a segment that revoked extents cover whole, once a revocation is complete (R392). -/
def State.revKeys (s : State) (r : Revoke) (g : Seg) : List Nat :=
  let comp := s.compOf r.ctx
  let done := s.map.revoked.filter (fun x => decide (x.1 = r.ctx ∧ x.2.1 = r.seg) &&
    !s.map.revoking.any (fun y => decide (y ≠ r ∧ y.key = none ∧ y.ctx = x.1 ∧ y.seg = x.2.1 ∧ y.first = x.2.2.1 ∧
      y.bytes = x.2.2.2)))
  let hit (b : Nat) : Bool := done.any (fun x => decide (x.2.2.1 ≤ b * 2 ^ 21 ∧ (b + 1) * 2 ^ 21 ≤ x.2.2.1 + x.2.2.2))
  let blocks := List.range ((g.limit + 2 ^ 21 - 1) / 2 ^ 21)
  let keys (b : Nat) : List Nat := s.needPages comp { g with base := g.base + b * 2 ^ 21, limit := 2 ^ 21 }
  let keep := (blocks.filter (fun b => !hit b)).flatMap keys
  ((blocks.filter hit).flatMap keys).filter (fun k => !keep.contains k)
/-- A revocation is complete (R392): the pages it covers are released and zeroed, or the key is removed; REVOKE_DONE is
raised, and a KEY_REVOKE completes. -/
def State.revokeDone (s : State) (r : Revoke) : State :=
  let comp := s.compOf r.ctx
  let rel := match r.key, s.seg? r.ctx r.seg with
    | none, some g => if g.src.isNone then s.revKeys r g else []
    | _, _ => []
  let s := match s.seg? r.ctx r.seg with
    | some g =>
      if rel = [] then s
      else
        let s := s.releasePages comp (g.pages.filter (fun e => rel.contains e.1))
        let h : Seg := { g with pages := g.pages.filter (fun e => !rel.contains e.1) }
        s.updCtx r.ctx (fun x => { x with segs := x.segs.put r.seg h })
    | none => s
  let s := match r.key with
    | some k => { s with keys := s.keys.del (k % 2 ^ 15) }
    | none => s
  let s := { s with map := { s.map with revoking := s.map.revoking.filter (fun x => decide (x ≠ r)) } }
  let s := s.raise { code := 0x0800, sev := 0, comp := comp, d0 := if r.key.isSome then 1 else 0,
                     d1 := r.key.getD r.first, d2 := r.epoch }
  match r.q with
  | some (c, q) => s.complete c q { status := stOK }
  | none => s
/-- REVOCATION_COMPLETE (R392): the in-flight count of a revocation, by its place among those pending, is zero. -/
def execRevocationComplete (k : Nat) (s : State) : Host.Outcome State Fault Refusal :=
  s.live (
    match s.map.revoking.drop k with
    | r :: _ =>
      let open_ := match r.key with | some x => s.keyOpen x | none => s.olderOpen r.epoch
      if open_ then s else s.revokeDone r
    | [] => s)

end Sys2Proof.Machine
end

