-- ==== Sys2Proof/Machine/Window.lean ====
section
/-! DEFINITION. Consumption of descriptors from command windows, ETH_SYS_DESC and post areas, and the hub-order queue
(R29, R55, R56, R61, R188, R277, R278, R364 to R369). -/

namespace Sys2Proof.Machine

/-! ### Descriptors (Tables 14-4 and 14-5) -/

/-- OPCODE of a descriptor. -/
def dOp (d : Vec) : Nat := fieldOf d 0 2
/-- A descriptor with its opcode set. -/
def withOp (op : Nat) (d : Vec) : Vec := BitVec.ofNat 512 (d.toNat / 2 ^ 16 * 2 ^ 16 + op)
/-- Opcodes of control descriptors, which execute at consumption (Table 14-4). -/
def isControlOp (op : Nat) : Bool :=
  decide ((0x20 ≤ op ∧ op ≤ 0x2E) ∨ (0x100 ≤ op ∧ op ≤ 0x102) ∨ op = 0x200)

/-! ### Control descriptors (R188) -/

/-- A control descriptor that a target's own function carries out. -/
def State.onTarget (s : State) (w : Nat) (d : Vec) (f : Nat → Nat × State) : Ctl :=
  let t := cTarget d
  if !s.ctlTarget w t then s.no stBounds else let r := f t; (r.1, 0, r.2)
/-- Execute a control descriptor consumed in the window of context `w`: its status and DETAIL, or none while it waits for
an outcome (MAP_PROPOSE, KEY_REVOKE, a detach). -/
def State.control (s : State) (w : Nat) (q : QDesc) : Option (Nat × Nat) × State :=
  let d := q.d
  let done (r : Ctl) : Option (Nat × Nat) × State := (some (r.1, r.2.1), r.2.2)
  let late (r : Option Nat × State) : Option (Nat × Nat) × State := (r.1.map (fun st => (st, 0)), r.2)
  match q.op with
  | 0x20 => done (s.ctxSet w d)
  | 0x21 => done (s.ctxReset w d)
  | 0x22 => done (s.ctxAbort w d)
  | 0x23 => done (s.ctxFree w d)
  | 0x24 => done (s.segSet w d)
  | 0x25 => done (s.segRebind w d)
  | 0x26 => done (s.segDelete w d)
  | 0x27 => done (s.resume w d)
  | 0x28 => done (s.onTarget w d (fun t => s.tableSet t d))
  | 0x29 => done (s.onTarget w d (fun t => s.svcIntake t d))
  | 0x2A => done (s.onTarget w d (fun t => s.svcPost t d))
  | 0x2B => late (s.cohAttach w q)
  | 0x2C => done (s.qpSet w d)
  | 0x2D => done (s.keySet w d)
  | 0x2E => done (s.cringSet w d)
  | 0x100 => if w ≠ 0 then (some (stBounds, 0), s.inc rCMP_PROPOSALS 63 32) else late (s.mapPropose q)
  | 0x101 => late (s.keyRevoke w q)
  | 0x102 => done (s.ledgerSet w d)
  | _ => done (s.ckptSet w d)

/-! ### Kernel descriptors -/

/-- Regions of a context's region set (Table 07-2). -/
def Ctx.rgnCount (x : Ctx) : Nat := popc x.dieMask 8 * x.cnt
/-- Checks of a LAUNCH at queue time, after the halt (Table 02-4); none queues it. -/
def State.launchCheck (s : State) (c : Nat) (d : Vec) : Option Nat :=
  let entry := fieldOf d 16 8
  let n := (s.ctx c).rgnCount
  if 2 ^ 32 < dGroups d ∨ 128 < dThreads d ∨ entry % 4 ≠ 0 then some stMalformed
  else match s.segCheck c entry 1 permR with
  | some 0x0B => some stRevoked
  | some _ => some stBounds
  | none => if n = 0 ∨ (dPersist d ∧ 64 * n < dGroups d) then some stTooLarge else none
/-- Whether a kernel descriptor is a no-operation (R29, R253). -/
def kernelNop (op : Nat) (d : Vec) : Bool :=
  if op = 1 then decide (dGroups d = 0 ∨ dThreads d = 0) else if op = 2 then decide (sQCount d = 0) else embNop d
/-- Checks of a kernel descriptor at queue time, after the halt. -/
def State.kernelCheck (s : State) (c op : Nat) (d : Vec) : Option Nat :=
  if op = 1 then s.launchCheck c d else if op = 2 then s.searchCheck c d else s.embCheck c op d
/-- Checks of a hub-order descriptor at queue time; OK queues it. -/
def State.hubCheck (s : State) (c op : Nat) (d : Vec) : Nat × State :=
  if op = 0x18 then
    if sdLen d = 0 then (stOK, s) else ((s.sendCheck c d).getD stOK, s)
  else if op = 0x201 ∨ op = 0x202 then ((s.ckptTakeCheck c op d).getD stOK, s)
  else s.pubTake c op d
/-- Whether a hub-order descriptor is a no-operation (R29). -/
def hubNop (op : Nat) (d : Vec) : Bool :=
  (op == 0x18 && decide (sdLen d = 0)) || (op == 0x16 && decide (pCount d = 0))

/-! ### Consumption (R365 to R369) -/

/-- Whether a publish descriptor meets a package without a Cellar: NO_CELLAR then comes before every other check but SEQ and the
halt (R182). -/
def State.noCellar (s : State) (op : Nat) : Bool := decide (0x10 ≤ op ∧ op ≤ 0x15) && !s.hasCellar
/-- Control descriptors that the window of an Unset context accepts: those that name it as target (Table 07-1). -/
def unsetTakes (c op : Nat) (d : Vec) : Bool := decide (((0x20 ≤ op ∧ op ≤ 0x2E) ∨ op = 0x200) ∧ cTarget d = c)
/-- Check a consumed descriptor, and execute or queue it (R61, R188, R367); an Unset context's window refuses with STATE
what Table 07-1 does not let in (DESIGN CHOICE, log entry 54). -/
def State.accept (s : State) (c : Nat) (q : QDesc) : State :=
  let x := s.ctx c
  if isControlOp q.op then
    if x.st = .halted ∧ q.op ≠ 0x21 then s.complete c q { status := stHalted }
    else if x.st = .unset ∧ unsetTakes c q.op q.d = false then s.complete c q { status := stState }
    else
      let r := s.control c q
      match r.1 with
      | some (st, det) => r.2.complete c q { status := st, detail := det }
      | none => r.2
  else if isKernelOp q.op then
    if x.st = .halted then s.complete c q { status := stHalted }
    else if x.st = .unset then s.complete c q { status := stState }
    else if kernelNop q.op q.d then s.enqueue c { q with status := some stOK }
    else match s.kernelCheck c q.op q.d with
      | some st => s.complete c q { status := st }
      | none => s.enqueue c q
  else if isHubOp q.op then
    if x.st = .halted then s.complete c q { status := stHalted }
    else if x.st = .unset ∧ s.noCellar q.op = false then s.complete c q { status := stState }
    else
      let r := s.hubCheck c q.op q.d
      if r.1 ≠ stOK then r.2.complete c q { status := r.1 }
      else
        let q := { q with segs := some (s.snapSegs (if q.op = 0x18 then sdTarget q.d else c)) }
        r.2.enqueue c (if hubNop q.op q.d then { q with status := some stOK } else q)
  else s.complete c q { status := stMalformed }
/-- Descriptors of a context's queue that have not completed (R366). -/
def State.openDescs (s : State) (c : Nat) : Nat :=
  let x := s.ctx c
  (x.queue.filter (fun q => q.fwd.isNone)).length + (if x.kernel.isSome then 1 else 0) + x.sends.length +
    (s.ckpt.filter (fun k => match k.2.q with | some y => y.1 == c | none => false)).length
/-- Consume a descriptor from the window of a context, or from ETH_SYS_DESC, under R366. -/
def State.consume (s : State) (c : Nat) (d : Vec) (sys : Bool) : State :=
  let q : QDesc := { op := dOp d, seq := dSeq d, d := d, sys := sys, status := none, post := none, fwd := none }
  let next := (s.ctx c).nextSeq
  let s := s.inc rETH_DESC 63 0
  if q.seq ≠ next then (s.inc rETH_DESC_REFUSED 31 0).complete c q { status := stSeq, detail := next }
  else if isControlOp q.op = false ∧ 1024 ≤ s.openDescs c then
    (s.inc rETH_DESC_REFUSED 63 32).complete c q { status := stFull }
  else (s.updCtx c (fun x => { x with nextSeq := (next + 1) % 2 ^ 32 })).accept c q
/-- Consume the next descriptor of a post area, numbered by the area (R278). -/
def State.consumePost (s : State) (tc a : Nat) (d : Vec) : State :=
  match (s.ctx tc).posts.find? a with
  | none => s
  | some p =>
    let q : QDesc := { op := dOp d, seq := p.used % 2 ^ 32, d := d, sys := false, status := none, post := some (tc, a), fwd := none }
    let s := s.updCtx tc (fun x => { x with posts := x.posts.put a { p with used := p.used + 1 } })
    ((s.inc rETH_DESC 63 0).inc rCTX_SVC_POSTED 63 0).accept (aDest p.d) q
/-- The descriptors of a WRITE to a window, in ascending address order (R365). -/
def State.consumeAll (s : State) (c : Nat) (ds : List Vec) : State := ds.foldl (fun (s : State) d => s.consume c d false) s
/-- Consume the descriptors of a post-area DMA while DEST's queue takes them: those left over, and the state (R277). -/
def State.postAll (s : State) (tc a dest : Nat) : List Vec → List Vec × State
  | [] => ([], s)
  | d :: ds =>
    if isControlOp (dOp d) = false ∧ 1024 ≤ s.openDescs dest then (d :: ds, s)
    else State.postAll (s.consumePost tc a d) tc a dest ds
/-- Whether an earlier post-area DMA still waits for the same queue (R277). -/
def State.postBefore (s : State) (dest n : Nat) : Bool :=
  s.units.any (fun e => e.2.th.toList.any (fun th => th.dma.toList.any (fun d => match d with
    | some d => (match d.post with
      | some (a, m, _) => decide (d.parts = 0 ∧ m < n) && (match (s.ctx th.ctx).posts.find? a with
        | some p => decide (aDest p.d = dest) | none => false)
      | none => false)
    | none => false)))
/-- POST_AREA_CONSUME (R277): the descriptors of a performed post-area DMA enter DEST's queue, and the tag completes after
the last. -/
def execPostAreaConsume (u : BitVec 20) (t : BitVec 3) (tag : BitVec 2) (s : State) : Host.Outcome State Fault Refusal :=
  s.onUnit u.toNat (
    let th := s.thr u.toNat t.toNat
    match th.dma.toList.getD tag.toNat none with
    | some d => match d.post with
      | some (a, n, ds) =>
        if d.parts ≠ 0 then s else
        match (s.ctx th.ctx).posts.find? a with
        | none => s.endDma u.toNat t.toNat tag.toNat d.failed
        | some p =>
          if s.postBefore (aDest p.d) n = true then s
          else
            let r := s.postAll th.ctx a (aDest p.d) ds
            if r.1 = [] then
              (r.2.updDma u.toNat t.toNat tag.toNat (fun d => { d with post := none })).endDma u.toNat t.toNat tag.toNat d.failed
            else r.2.updDma u.toNat t.toNat tag.toNat (fun d => { d with post := some (a, n, r.1) })
      | none => s
    | none => s)
/-- SYS_DESC (R369): byte 63 of ETH_SYS_DESC is written. -/
def execSysDesc (d : BitVec 512) (s : State) : Host.Outcome State Fault Refusal := s.live (s.consume 0 d true)

/-! ### The hub-order queue (R183, R280, R429, R430) -/

/-- HUB_ORDER_RUN (R183, R280): the hub runs the first hub-order descriptor of a context; a frozen composition's waits, but
for one that is already running (R430). -/
def execHubOrderRun (ctx : BitVec 12) (s : State) : Host.Outcome State Fault Refusal :=
  let c := ctx.toNat
  s.live (
    match s.hubFront c with
    | none => s
    | some q =>
      if s.frozen (s.compOf c) && !(s.ctx c).hubOn then s
      else if s.flawed .hub then s.meet .hub 0
      else match q.status with
      | some st => (if q.op = 0x18 ∧ st = stOK then s.inc rCTX_SVC_SENDS 31 0 else s).hubDone c q { status := st }
      | none =>
        if q.op = 0x18 then s.svcStart c q
        else if q.op = 0x201 ∨ q.op = 0x202 then s.ckptRun c q
        else s.pubRun c q)

/-! ### One descriptor of a window -/

/-- A descriptor of a given opcode is consumed from the window of a context. -/
def State.windowDesc (s : State) (op : Nat) (ctx : BitVec 12) (d : Vec) : Host.Outcome State Fault Refusal :=
  s.live (s.consume ctx.toNat (withOp op d) false)
/-- LAUNCH (R55, R56). -/
def execLaunch (ctx : BitVec 12) (d : BitVec 512) (s : State) : Host.Outcome State Fault Refusal := s.windowDesc 0x1 ctx d
/-- SEARCH (R214, R226). -/
def execSearch (ctx : BitVec 12) (d : BitVec 512) (s : State) : Host.Outcome State Fault Refusal := s.windowDesc 0x2 ctx d
/-- GATHER (R253). -/
def execGather (ctx : BitVec 12) (d : BitVec 512) (s : State) : Host.Outcome State Fault Refusal := s.windowDesc 0x3 ctx d
/-- GATHER_POOL (R253). -/
def execGatherPool (ctx : BitVec 12) (d : BitVec 512) (s : State) : Host.Outcome State Fault Refusal := s.windowDesc 0x4 ctx d
/-- SCATTER_SET (R253). -/
def execScatterSet (ctx : BitVec 12) (d : BitVec 512) (s : State) : Host.Outcome State Fault Refusal := s.windowDesc 0x5 ctx d
/-- SCATTER_ADD (R253). -/
def execScatterAdd (ctx : BitVec 12) (d : BitVec 512) (s : State) : Host.Outcome State Fault Refusal := s.windowDesc 0x6 ctx d
/-- PUBLISH_OPEN (R182). -/
def execPublishOpen (ctx : BitVec 12) (d : BitVec 512) (s : State) : Host.Outcome State Fault Refusal := s.windowDesc 0x10 ctx d
/-- PUBLISH_EXTENT (R182). -/
def execPublishExtent (ctx : BitVec 12) (d : BitVec 512) (s : State) : Host.Outcome State Fault Refusal := s.windowDesc 0x11 ctx d
/-- PUBLISH_SHARE (R182). -/
def execPublishShare (ctx : BitVec 12) (d : BitVec 512) (s : State) : Host.Outcome State Fault Refusal := s.windowDesc 0x12 ctx d
/-- PUBLISH_SEAL (R182). -/
def execPublishSeal (ctx : BitVec 12) (d : BitVec 512) (s : State) : Host.Outcome State Fault Refusal := s.windowDesc 0x13 ctx d
/-- PUBLISH_ABORT (R182). -/
def execPublishAbort (ctx : BitVec 12) (d : BitVec 512) (s : State) : Host.Outcome State Fault Refusal := s.windowDesc 0x14 ctx d
/-- VINTAGE_RETIRE (R182). -/
def execVintageRetire (ctx : BitVec 12) (d : BitVec 512) (s : State) : Host.Outcome State Fault Refusal := s.windowDesc 0x15 ctx d
/-- COUNTER_READ (R166, R182). -/
def execCounterRead (ctx : BitVec 12) (d : BitVec 512) (s : State) : Host.Outcome State Fault Refusal := s.windowDesc 0x16 ctx d
/-- SVC_SEND (R280). -/
def execSvcSend (ctx : BitVec 12) (d : BitVec 512) (s : State) : Host.Outcome State Fault Refusal := s.windowDesc 0x18 ctx d
/-- CONTEXT_SET (R189). -/
def execContextSet (ctx : BitVec 12) (d : BitVec 512) (s : State) : Host.Outcome State Fault Refusal := s.windowDesc 0x20 ctx d
/-- CONTEXT_RESET (R190). -/
def execContextReset (ctx : BitVec 12) (d : BitVec 512) (s : State) : Host.Outcome State Fault Refusal := s.windowDesc 0x21 ctx d
/-- CONTEXT_ABORT (R190). -/
def execContextAbort (ctx : BitVec 12) (d : BitVec 512) (s : State) : Host.Outcome State Fault Refusal := s.windowDesc 0x22 ctx d
/-- CONTEXT_FREE (R190). -/
def execContextFree (ctx : BitVec 12) (d : BitVec 512) (s : State) : Host.Outcome State Fault Refusal := s.windowDesc 0x23 ctx d
/-- SEG_SET (R192 to R196). -/
def execSegSet (ctx : BitVec 12) (d : BitVec 512) (s : State) : Host.Outcome State Fault Refusal := s.windowDesc 0x24 ctx d
/-- SEG_REBIND (R196). -/
def execSegRebind (ctx : BitVec 12) (d : BitVec 512) (s : State) : Host.Outcome State Fault Refusal := s.windowDesc 0x25 ctx d
/-- SEG_DELETE (R193 to R195). -/
def execSegDelete (ctx : BitVec 12) (d : BitVec 512) (s : State) : Host.Outcome State Fault Refusal := s.windowDesc 0x26 ctx d
/-- RESUME (R206). -/
def execResume (ctx : BitVec 12) (d : BitVec 512) (s : State) : Host.Outcome State Fault Refusal := s.windowDesc 0x27 ctx d
/-- TABLE_SET (R249). -/
def execTableSet (ctx : BitVec 12) (d : BitVec 512) (s : State) : Host.Outcome State Fault Refusal := s.windowDesc 0x28 ctx d
/-- SVC_INTAKE (R270). -/
def execSvcIntake (ctx : BitVec 12) (d : BitVec 512) (s : State) : Host.Outcome State Fault Refusal := s.windowDesc 0x29 ctx d
/-- SVC_POST (R276). -/
def execSvcPost (ctx : BitVec 12) (d : BitVec 512) (s : State) : Host.Outcome State Fault Refusal := s.windowDesc 0x2A ctx d
/-- COH_ATTACH (R313, R315). -/
def execCohAttach (ctx : BitVec 12) (d : BitVec 512) (s : State) : Host.Outcome State Fault Refusal := s.windowDesc 0x2B ctx d
/-- QP_SET (R360, R361). -/
def execQpSet (ctx : BitVec 12) (d : BitVec 512) (s : State) : Host.Outcome State Fault Refusal := s.windowDesc 0x2C ctx d
/-- KEY_SET (R362, R363). -/
def execKeySet (ctx : BitVec 12) (d : BitVec 512) (s : State) : Host.Outcome State Fault Refusal := s.windowDesc 0x2D ctx d
/-- CRING_SET (R370, R371). -/
def execCringSet (ctx : BitVec 12) (d : BitVec 512) (s : State) : Host.Outcome State Fault Refusal := s.windowDesc 0x2E ctx d
/-- MAP_PROPOSE (R378 to R383). -/
def execMapPropose (ctx : BitVec 12) (d : BitVec 512) (s : State) : Host.Outcome State Fault Refusal := s.windowDesc 0x100 ctx d
/-- KEY_REVOKE (R391, R392). -/
def execKeyRevoke (ctx : BitVec 12) (d : BitVec 512) (s : State) : Host.Outcome State Fault Refusal := s.windowDesc 0x101 ctx d
/-- LEDGER_SET (R399). -/
def execLedgerSet (ctx : BitVec 12) (d : BitVec 512) (s : State) : Host.Outcome State Fault Refusal := s.windowDesc 0x102 ctx d
/-- CKPT_SET (R428). -/
def execCkptSet (ctx : BitVec 12) (d : BitVec 512) (s : State) : Host.Outcome State Fault Refusal := s.windowDesc 0x200 ctx d
/-- CKPT_TAKE (R429). -/
def execCkptTake (ctx : BitVec 12) (d : BitVec 512) (s : State) : Host.Outcome State Fault Refusal := s.windowDesc 0x201 ctx d
/-- CKPT_RESTORE (R434). -/
def execCkptRestore (ctx : BitVec 12) (d : BitVec 512) (s : State) : Host.Outcome State Fault Refusal := s.windowDesc 0x202 ctx d

end Sys2Proof.Machine
end

