-- ==== Sys2Proof/Machine/Kernels.lean ====
section
/-! DEFINITION. Start and end of a kernel (R57 to R61, R180, R245, R275, R279). -/

namespace Sys2Proof.Machine

/-! ### Start (Table 02-5) -/

/-- The kernel descriptor at the head of a context's queue. -/
def State.kernelFront (s : State) (c : Nat) : Option QDesc := (s.ctx c).queue.find? (fun q => isKernelOp q.op)
/-- Whether a context may start a kernel now (R57, R58, R61, R371, R424, R430). -/
def State.mayStart (s : State) (c : Nat) : Bool :=
  let x := s.ctx c
  decide (x.st = .idle) && x.kernel.isNone && x.held.isEmpty && !s.frozen (s.compOf c) &&
    !s.hlt.replacing.any (fun e => x.hasRgn e.1)
/-- Keys of the vintages that a context's present Cellar segments are bound to, by segment. -/
def State.pinsOf (s : State) (c : Nat) : List (Option Nat) :=
  (List.range 16).map (fun g => match s.seg? c g with
    | some x => if x.tier = 1 ∧ x.present then some (vintKey (s.compOf c) x.vintage) else none
    | none => none)
/-- Pages of read-write segments, by `die · 2^17 + page`. -/
def State.rwPages (s : State) : List Nat :=
  s.ctxs.flatMap (fun e => (e.2.segs.vals.filter (·.w)).flatMap (fun g =>
    let own := match g.src with
      | some r => match s.rootOf r.1 (r.2 * 2 ^ 60) with
        | some q => (match s.seg? q.1 q.2.1 with | some h => h.pages | none => [])
        | none => []
      | none => g.pages
    own.map (fun p => p.1 / 2 ^ 40 * 2 ^ 17 + p.2)))
/-- Step 3 of Table 02-5: the region caches of a context's region set let go of lines of read-write segments. -/
def State.dropRw (s : State) (c : Nat) : State :=
  let ps := s.rwPages
  let x := s.ctx c
  { s with rcache := s.rcache.map (fun e =>
      if x.hasRgn e.1 then (e.1, e.2.filter (fun l => !ps.contains (l.1 / 2 ^ 15))) else e) }
/-- A kernel starts: the vintages of its Cellar segments are pinned, stale cache lines go, and its counter opens. -/
def State.startKernel (s : State) (c : Nat) (q : QDesc) : State :=
  let pins := s.pinsOf c
  let k : Kernel := { q := q, next := 0, ended := 0, closed := false, cause := 0, exc := none, result := none, pins := pins,
                      released := false, ahead := (s.ctx c).queue.takeWhile (fun y => !decide (y = q)) }
  let s := s.updCtx c (fun x => { x with
    queue := dropFirst (fun y => decide (y = q)) x.queue
    st := .running
    kernel := some k })
  let s := (pins.filterMap id).foldl
    (fun (s : State) p => s.updVint p (fun v => { v with pins := v.pins + 1 })) s
  let s := s.dropRw c
  if q.op = 2 then s.searchStart c q else if q.op = 1 then s else s.embStart c q
/-- A scatter without positions takes its batch number, and in a strict batch its end markers go out (R260). -/
def State.emptyScatter (s : State) (c : Nat) (q : QDesc) : State :=
  let tb := eTab q.d
  if q.op ≠ 5 ∧ q.op ≠ 6 then s
  else match s.table? c tb with
    | none => s
    | some t =>
      let n := (s.etab c tb).batch
      let s := s.updEtab c tb (fun e => { e with batch := e.batch + 1 })
      if s.collective c t then s.sendMarks c tb t n else s
/-- KERNEL_START (R57): the first kernel descriptor of an Idle context starts; a no-operation completes in its turn (R29). -/
def execKernelStart (ctx : BitVec 12) (s : State) : Host.Outcome State Fault Refusal :=
  let c := ctx.toNat
  s.live (
    match s.kernelFront c with
    | none => s
    | some q =>
      if !s.mayStart c then s
      else match q.status with
      | some st => ((s.updCtx c (fun x => { x with queue := dropFirst (fun y => decide (y = q)) x.queue })).emptyScatter c q).complete c q
          { status := st }
      | none => s.startKernel c q)

/-! ### End (R58, R59, R60, R61) -/

/-- Whether the running kernel of a context has ended: its groups have ended, or, aborted, none is left; a search or an
embedding operation has its result; and no write of it is open. -/
def State.kernelOver (s : State) (c : Nat) (k : Kernel) : Bool :=
  (if k.q.op = 1 then !s.groups.any (fun g => decide (g.2.ctx = c)) && (k.closed || decide (k.ended = dGroups k.q.d))
   else k.closed || k.result.isSome) && !s.hubWrites c
/-- What a kernel's completion says (Table 14-6, R59, R60). -/
def State.kernelResult (s : State) (k : Kernel) : Result :=
  match k.exc with
  | some e => { status := stException, code := e.code, detail := e.detail.toNat, pc := e.pc.toNat, loc := s.locator e.unit }
  | none =>
    if k.cause ≠ 0 then { status := stAborted, code := k.cause }
    else match k.result with
      | some (st, det) => { status := st, detail := det }
      | none => { status := stOK }
/-- What a context's publish descriptors have claimed of a vintage, counted again after some of them were discarded. -/
def State.vintRecount (s : State) (k : Nat) : State :=
  let qs := s.ctxs.flatMap (fun e => e.2.queue.filter (fun q => decide (vintKey (s.compOf e.1) (pVint q.d) = k)))
  let n (op : Nat) : Nat := (qs.filter (fun q => decide (q.op = op))).length
  let half := s.celHalf
  s.updVint k (fun v => { v with
    coming := n 0x11 + (if n 0x13 = 0 then 0 else (half - (v.own + n 0x11) % half) % half)
    planned := v.exts.length + n 0x11 + n 0x12
    closing := decide (0 < n 0x13 + n 0x14) })
/-- A hub-order descriptor that will not run gives back what its consumption took (R183). -/
def State.pubForget (s : State) (c : Nat) (q : QDesc) : State :=
  let comp := s.compOf c
  let k := vintKey comp (pVint q.d)
  match q.op with
  | 0x11 => s.vintRecount k
  | 0x12 => (s.vintRecount k).unpinVint (vintKey comp (pFrom q.d))
  | 0x13 => s.vintRecount k
  | 0x14 => s.vintRecount k
  | 0x15 => s.updVint k (fun v => { v with st := 1 })
  | _ => s
/-- The context halts (R61): what is queued behind the failed kernel completes with HALTED, but for a hub-order descriptor
that already runs; peers' searches report to their leads, and staged rows are discarded. -/
def State.haltCtx (s : State) (c : Nat) (ahead : List QDesc) : State :=
  let x := s.ctx c
  let runs (q : QDesc) : Bool := ahead.contains q || (x.hubOn && (s.hubFront c == some q))
  let out := x.queue.filter (fun q => !runs q)
  let s := s.updCtx c (fun x => { x with st := .halted, queue := x.queue.filter runs })
  let s := s.preForget c
  out.foldl (fun (s : State) q =>
    match q.fwd with
    | some f => s.reportTo c f.1 (dSeq q.d) [1]
    | none => ((if q.status.isNone then s.pubForget c q else s).complete c q { status := stHalted })) s
/-- What a search leaves behind: an aborted lead tells its peers, an aborted peer its lead, and RESULTS and WORK hold bytes
left open (R233, R245). -/
def State.searchLeaves (s : State) (c : Nat) (k : Kernel) (aborted : Bool) : State :=
  let d := k.q.d
  let s := match k.q.fwd with
    | some f => if aborted && decide (k.cause ≠ 5) then s.reportTo c f.1 (dSeq d) [1] else s
    | none =>
      if aborted then
        let s := (s.peersOf c d).foldl (fun (s : State) p => s.send (.msg p 3 [c, dSeq d])) s
        s.leaveOpen c (sResults d) (sQCount d * sRStride d)
      else s
  let s := (s.leaveOpen c (sWork d) (sWorkLen d)).keptDrop c
  let failed := if k.exc.isSome then false else aborted || (match k.result with | some r => decide (r.1 ≠ stOK) | none => false)
  let s := s.inc rSRCH_SEARCHES 31 0
  { (if failed then s.inc rSRCH_SEARCHES 63 32 else s) with srch := s.srch.del c }
/-- The running kernel of a context ends (R58, R59, R61): pins are released, the completion is issued, and the context is
Idle or Halted. -/
def State.endKernel (s : State) (c : Nat) (k : Kernel) : State :=
  let r := s.kernelResult k
  let halt := decide (r.status = stException ∨ r.status = stAborted)
  let s := s.updCtx c (fun x => { x with kernel := none, st := .idle })
  let s := { s with taken := s.taken.filter (fun e => decide (e.1 % 4096 ≠ c)) }
  let s := if k.q.op = 2 then s.searchLeaves c k halt else s.embDrop c
  let s := (k.pins.filterMap id).foldl State.unpinVint (s.bindingsEnd c)
  let s := if k.q.fwd.isSome then s else s.complete c k.q r
  if halt then s.haltCtx c k.ahead else s
/-- KERNEL_END (R58, R59). -/
def execKernelEnd (ctx : BitVec 12) (s : State) : Host.Outcome State Fault Refusal :=
  let c := ctx.toNat
  s.live (
    match (s.ctx c).kernel with
    | some k => if s.kernelOver c k then s.endKernel c k else s
    | none => s)

end Sys2Proof.Machine
end

