-- ==== Sys2Proof/Machine/Rounds.lean ====
section
/-! DEFINITION. Strict mode's rounds at quiescence and waiting exact sums (R408, R409). -/

namespace Sys2Proof.Machine

/-- An operation of Table 03-11 that a strict home holds: ACAS or AXCHG. -/
def heldKind (aop : Nat) : Bool := aop == 0x0B || aop == 0x0C
/-- A load that waits for a held ACAS or AXCHG. -/
def Load.heldRmt (l : Load) : Bool := l.remote && (match l.rmt with | some (aop, _, _) => heldKind aop | none => false)
/-- A unit as it will be once a thread's held values are back. -/
def Unt.afterRound (x : Unt) (t : Nat) : Unt :=
  x.setThr t { x.thr t with loads := (x.thr t).loads.filter (fun l => !l.heldRmt) }
/-- Whether a thread lets its package be quiescent (R409). -/
def Unt.quiet (x : Unt) (t : Nat) : Bool :=
  let th := x.thr t
  (match th.st with
   | .ready => false
   | .stalled => false
   | .pending => (match th.want with | some w => (x.afterRound t).wantOk t w && !x.wantOk t w | none => false)
   | .waiting => (match th.wait with | some (.waite _ _ _ (some _)) => false | _ => true)
   | _ => true) &&
  th.dma.toList.all (fun d => match d with | some d => d.done | none => true) &&
  th.loads.all (fun l => l.rmt.isNone || l.heldRmt) &&
  x.wb.all (fun e => e.slot != t || e.done || (e.remote && (match e.rmt with | some (aop, _, _) => heldKind aop | none => false)))
/-- Whether the package is quiescent for a composition (R409). -/
def State.quiescent (s : State) (comp : Nat) : Bool :=
  let cs := s.compCtxs comp
  s.units.all (fun e => (List.range 8).all (fun t =>
    (e.2.thr t).st == .empty || !cs.contains (e.2.thr t).ctx || e.2.quiet t)) &&
  s.gly.reqs.all (fun e => e.2.comp != comp || (e.2.strict && heldKind (e.2.op - 0x10))) &&
  s.gly.pairs.all (fun p => p.2.held.all (fun r => r.comp ≠ comp) && p.2.refused.all (fun r => r.1.comp ≠ comp)) &&
  cs.all (fun c => !(s.ctx c).hubOn && (s.ctx c).sends.isEmpty && !((s.kernelFront c).isSome && s.mayStart c))
/-- Operations of a composition held on this package. -/
def State.heldOf (s : State) (comp : Nat) : List HeldOp := s.repro.held.filter (fun h => h.comp = comp)
/-- The round of a composition as this package sees it; round 0 begins. -/
def State.round (s : State) (comp : Nat) : Round := s.repro.rounds.getD comp ⟨0, false, []⟩
/-- Change a composition's round. -/
def State.updRound (s : State) (comp : Nat) (f : Round → Round) : State :=
  { s with repro := { s.repro with rounds := s.repro.rounds.put comp (f (s.round comp)) } }
/-- Order of source keys (R409). -/
def srcLe : List Nat → List Nat → Bool
  | [], _ => true
  | _ :: _, [] => false
  | a :: as, b :: bs => decide (a < b) || (a == b && srcLe as bs)
/-- Put a held operation in its place among those sorted by source key. -/
def HeldOp.place (h : HeldOp) : List HeldOp → List HeldOp
  | [] => [h]
  | k :: l => if srcLe h.src k.src then h :: k :: l else k :: h.place l
/-- Answer an operation that was held, with the old value of its word. -/
def State.answerHeld (s : State) (h : HeldOp) (old : Nat) (poison : Bool) : State :=
  match h.ans with
  | .load u t id => s.endLoad u t id old (if poison then some ⟨0x10, w64 ((s.thr u t).loads.foldl (fun a l => if l.id = id then l.addr else a) 0)⟩ else none)
  | .wb u id => s.endWb u id none
  | .req l r =>
    if heldKind h.aop then s.respond l r 0x40 0 poison (leBytes h.n old) else s.respond l r 0x41 0 false []
/-- Perform a held operation and return its value. -/
def State.performHeld (s : State) (h : HeldOp) : State :=
  let r := s.atomicNow h.key h.n h.aop h.b h.c
  r.2.2.answerHeld h r.1 r.2.1
/-- A round closes here: every held operation is performed in source order, and the next round begins (R409). -/
def State.roundPerform (s : State) (comp r : Nat) : State :=
  let hs := (s.heldOf comp).foldl (fun (l : List HeldOp) h => h.place l) []
  let s := { s with repro := { s.repro with held := s.repro.held.filter (fun h => h.comp ≠ comp) } }
  let s := hs.foldl (fun (s : State) h => (s.inc rREPRO_ROUNDS 31 0).performHeld h) s
  (s.updRound comp (fun _ => ⟨r + 1, false, []⟩)).behindPump
/-- The coordinator holds every report and some operation is held: the round closes everywhere (R409). -/
def State.roundTry (s : State) (comp : Nat) : State :=
  let k := s.round comp
  let l := s.stripe comp
  if l.all (fun p => k.reports.has p) && k.reports.any (fun e => decide (0 < e.2)) then
    let s := s.inc rREPRO_ROUNDS 63 32
    let s := (l.filter (· ≠ s.self)).foldl
      (fun (s : State) p => s.hubMsg p 0x1001 comp 0 (leBytes 4 comp ++ leBytes 4 k.r)) s
    s.roundPerform comp k.r
  else s
/-- Record a report at the coordinator. -/
def State.roundReport (s : State) (comp src held : Nat) : State :=
  (s.updRound comp (fun k => { k with reports := k.reports.put src held })).roundTry comp
/-- PACKAGE_QUIESCENT (R409): a package of the stripe list that has become quiescent reports once in a round. -/
def execPackageQuiescent (tag : BitVec 20) (s : State) : Host.Outcome State Fault Refusal :=
  let comp := tag.toNat
  let k := s.round comp
  let n := (s.heldOf comp).length
  s.live (if !s.strict comp || !(s.stripe comp).contains s.self || k.sent || !s.quiescent comp then s
    else
      let s := s.updRound comp (fun k => { k with sent := true })
      if s.coordinates comp then s.roundReport comp s.self n
      else s.hubMsg ((s.stripe comp).headD 0) 0x1000 comp 0 (leBytes 4 comp ++ leBytes 4 k.r ++ leBytes 4 n))
/-- QUIESCENT (R409): the coordinator takes a report for its present round. -/
def execQuiescent (tag : BitVec 20) (src : BitVec 16) (round held : BitVec 32) (s : State) : Host.Outcome State Fault Refusal :=
  let comp := tag.toNat
  s.live (if s.strict comp && s.coordinates comp && (s.stripe comp).contains src.toNat && (s.round comp).r == round.toNat
    then s.roundReport comp src.toNat held.toNat else s)
/-- ROUND_CLOSE (R409): the coordinator closes this package's round. -/
def execRoundClose (tag : BitVec 20) (round : BitVec 32) (s : State) : Host.Outcome State Fault Refusal :=
  let comp := tag.toNat
  s.live (if s.strict comp && !s.coordinates comp && (s.round comp).r == round.toNat then s.roundPerform comp round.toNat else s)
/-- EXACT_SUM_RESUME (R408): the `k`-th AFADD that waits on a die proceeds when its composition can take an entry. -/
def execExactSumResume (die : Fin 8) (k : Nat) (s : State) : Host.Outcome State Fault Refusal :=
  s.live (match (s.repro.waits.filter (fun h => h.key / 2 ^ 38 = die.val))[k]? with
    | some h =>
      if s.exactRoom h.key h.comp then
        let s := { s with repro := { s.repro with waits := s.repro.waits.erase h } }
        ((s.exactAdd h.key h.comp h.b).answerHeld h 0 false).behindPump
      else s
    | none => s)

end Sys2Proof.Machine
end

