-- ==== Sys2Proof/Machine/Security.lean ====
section
/-! DEFINITION. Enrolment, boot verification, tokens, debug unlock, attestation and link keys (R477 to R488). -/

namespace Sys2Proof.Machine

/-- Change the security block. -/
def State.updSec (s : State) (f : Sec → Sec) : State := { s with sec := f s.sec }

/-! ### Tokens (R485) -/

/-- Bytes of a token, most significant first, as a number. -/
def tokAt (b : List Byte) (i n : Nat) : Nat := leNat ((b.drop i).take n)
/-- The first check of R485 that a token fails, numbered from 1 in the order given there. -/
def State.tokenFails (s : State) (b : List Byte) (kind : Nat) : Option Nat :=
  let signer := tokAt b 1 1
  let good := if signer = 0 then s.part.tokenKey.digest == s.part.tokenDigest && rsaVerify s.part.tokenKey (b.take 128) (b.drop 128)
    else signer == 1 && s.fabricOk (b.take 128) (b.drop 128)
  if tokAt b 0 1 ≠ kind then some 1
  else if beNat ((b.drop 16).take 32) ≠ s.part.identity then some 2
  else if tokAt b 4 4 < s.evr.cold then some 3
  else if signer = 1 ∧ s.sec.fabric.isNone = true then some 4
  else if good then none
  else some 5
/-- TOKEN_REFUSED (Table 20-6). -/
def State.tokenRefused (s : State) (kind check : Nat) : State := s.raise { code := 0x0303, sev := 0, d0 := kind, d1 := check }
/-- The token in SEC_TOKEN. -/
def State.secToken (s : State) : List Byte := leBytes 512 (s.rd rSEC_TOKEN)

/-! ### Enrolment (R478) and security versions (R479) -/

/-- The key in SEC_ENROLL: its modulus is written most significant byte first. -/
def State.enrollKey (s : State) : RsaKey :=
  ⟨beNat (leBytes 384 (s.fld rSEC_ENROLL 3103 32)), s.fld rSEC_ENROLL 31 0⟩
/-- What the current fabric key signs for a later enrolment: the new key, the device identity digest and the slot (R478). -/
def State.enrollBody (s : State) : List Byte :=
  let k := s.enrollKey
  beList 384 k.n ++ beList 4 k.e ++ beList 32 s.part.identity ++ [BitVec.ofNat 8 s.sec.slots.length]
/-- Enrol the key in SEC_ENROLL (R478); it takes effect at the next start. -/
def State.enrollKeyNow (s : State) : State :=
  let n := s.sec.slots.length
  let k := s.enrollKey
  if 8 ≤ n ∨ (0 < n ∧ s.fabricOk s.enrollBody (leBytes 384 (s.fld rSEC_ENROLL 6175 3104)) = false) then s.tokenRefused 0 8
  else
    (s.updSec (fun x => { x with slots := x.slots ++ [k.digest], fabricNext := some k })).raise
      { code := 0x0304, sev := 0, d0 := n }
/-- ENROLL (R478). -/
def execEnroll (s : State) : Host.Outcome State Fault Refusal := s.live s.enrollKeyNow
/-- Raise the fused SVN to that of the running image (R479). -/
def State.svnRaise (s : State) : State := s.updSec (fun x => { x with fusedSvn := max x.fusedSvn x.svn })
/-- SVN_COMMIT (R479). -/
def execSvnCommit (s : State) : Host.Outcome State Fault Refusal := s.live s.svnRaise

/-! ### Boot verification (R479) -/

/-- The first check of R479 that an image fails, numbered from 1 in the order given there. -/
def State.imageFails (s : State) (b : List Byte) : Option Nat :=
  let rootKey := (b.drop 1172).take 384
  let root : RsaKey := ⟨beNat rootKey, 65537⟩
  let signer : RsaKey := ⟨beNat ((b.drop 16).take 384), tokAt b 400 4⟩
  let code := (b.drop 1556).take (tokAt b 12 4)
  if b.length < 1556 ∨ tokAt b 0 4 ≠ 0x464D0001 then some 1
  else if shaNat rootKey ≠ s.part.rootDigest then some 2
  else if !rsaVerify root ((b.drop 16).take 388) ((b.drop 404).take 384) then some 3
  else if !rsaVerify signer (b.take 788 ++ code) ((b.drop 788).take 384) then some 4
  else if tokAt b 8 4 < s.sec.fusedSvn then some 5
  else none
/-- Try a boot slot: FW_REJECTED when its image fails a check. -/
def State.trySlot (s : State) (k : Nat) : Bool × State :=
  match s.imageFails (s.sec.flash.getD k []) with
  | none => (true, s)
  | some c => (false, s.raise { code := 0x0301, sev := 3, d0 := k, d1 := c })
/-- The image of a slot runs: its version, SVN and measurement, and BOOT_SLOT (R479). -/
def State.bootFrom (s : State) (k : Nat) : State :=
  let b := s.sec.flash.getD k []
  let n := tokAt b 12 4
  (s.updSec (fun x => { x with
    slot := k
    version := tokAt b 4 4
    svn := tokAt b 8 4
    molend := shaNat (b.take (1556 + n)) })).raise { code := 0x0300, sev := 0, d0 := k, d1 := tokAt b 4 4, d2 := tokAt b 8 4 }
/-- Step 2 of a start: slot A first, slot B when A fails; none when neither verifies (R459, R479). -/
def State.boot (s : State) : Option State × State :=
  let a := s.trySlot 0
  if a.1 then (some (a.2.bootFrom 0), a.2)
  else
    let b := a.2.trySlot 1
    if b.1 then (some (b.2.bootFrom 1), b.2) else (none, b.2)

/-! ### Debug and the management port (R486, R488) -/

/-- A link whose keys are erased cannot stay Up (R482, R283; DEDUCED, log entry 46). -/
def State.linkUnkeyed (s : State) (l : Nat) : State := if (s.link l).st = 3 then s.linkLeave l false 2 else s
/-- Steps 1 to 5 of R486: kernels, keys, memories, vintages and the map are gone; the system key stays. -/
def State.debugErase (s : State) : State :=
  let s := s.ctxs.keys.foldl (fun (s : State) c => s.killKernel c) s
  let s := s.updSec (fun x => { x with dataKeys := x.dataKeys.filter (fun k => decide (k.1 = 0)), links := [] })
  let s := (List.range 33).foldl State.linkUnkeyed s
  let s := { s with larder := [], lpois := [], shelf := [], spois := [], rcache := [], flaws := [] }
  let s := s.cel.vints.keys.foldl (fun (s : State) k => s.freeVint k) s
  { s with
    ctxs := s.ctxs.filter (fun e => decide (e.1 = 0))
    qps := s.qps.filter (fun q => decide (q.2.comp = 0))
    keys := s.keys.filter (fun k => decide (k.2.comp = 0))
    ckpt := []
    pageOwner := s.pageOwner.filter (fun e => decide (e.2 = 0))
    srch := s.srch.filter (fun e => decide (e.1 = 0))
    emb := { s.emb with
      runs := s.emb.runs.filter (fun e => decide (e.1 = 0))
      staged := s.emb.staged.filter (fun e => decide (e.1 = 0))
      tabs := s.emb.tabs.filter (fun e => decide (e.1 / 64 = 0))
      pres := s.emb.pres.filter (fun e => decide (e.1 / 64 = 0))
      snaps := [] }
    repro := { s.repro with exact := [], held := [], waits := [], rounds := [] }
    map := .reset
    start := { s.start with attic := none } }
/-- DEBUG_UNLOCK (R485, R486): refused for a sealed composition, then for a bad token. -/
def State.debugOpen (s : State) : State :=
  let b := s.secToken
  if s.closedHere then s.updSec (fun x => { x with debug := 2 })
  else match s.tokenFails b 0 with
    | some c => (s.updSec (fun x => { x with debug := 3 })).tokenRefused (tokAt b 0 1) c
    | none =>
      (s.debugErase.updSec (fun x => { x with debug := 1, debugged := true })).raise
        { code := 0x0302, sev := 3, d0 := tokAt b 1 1 }
/-- DEBUG_UNLOCK (R486). -/
def execDebugUnlock (s : State) : Host.Outcome State Fault Refusal := s.live s.debugOpen
/-- Verify an SPI token and open the port (R488). -/
def State.spiOpen (s : State) : State :=
  let b := s.secToken
  match s.tokenFails b 2 with
  | some c => s.tokenRefused (tokAt b 0 1) c
  | none => (s.updSec (fun x => { x with spiOpen := true })).raise { code := 0x0305, sev := 0, d0 := tokAt b 1 1 }
/-- SPI_UNLOCK (R488). -/
def execSpiUnlock (s : State) : Host.Outcome State Fault Refusal := s.live s.spiOpen
/-- Lock the port (R488). -/
def State.spiClose (s : State) : State := s.updSec (fun x => { x with spiOpen := false })
/-- SPI_LOCK (R488). -/
def execSpiLock (s : State) : Host.Outcome State Fault Refusal := s.live s.spiClose

/-! ### Attestation (R484) -/

/-- Input of CONFIG (Table 20-4). -/
def State.configBytes (s : State) : List Byte :=
  [s.rd rREPRO_DEFAULTS, s.rd rSWC_CFG, s.rd rHLT_CFG, s.rd rIRQ_CFG, s.rd rCEL_CFG].flatMap (leBytes 4) ++
    (List.range 16).flatMap (fun e => leBytes 4 (if e % 2 = 0 ∨ s.fld rETH_CTRL 1 1 (e - 1) = 1 then s.rd rETH_CTRL e else 0))
/-- Bytes 0 to 319 of the report (Table 20-4). -/
def State.report (s : State) : List Byte :=
  let held := s.map.podPkg.isSome
  let v := s.sec.version
  leBytes 2 1 ++
  leBytes 1 (b2n s.sec.debugged + 2 * b2n (s.fld rRATTLE_CTRL 3 2 == 1) + 4 * b2n s.sec.spiOpen + 8 * b2n held +
    16 * b2n s.hlt.degraded) ++
  leBytes 1 s.sec.slot ++ leBytes 4 s.deviceId ++ leBytes 4 v ++ leBytes 4 s.sec.svn ++ leBytes 4 s.sec.fusedSvn ++
  leBytes 4 s.evr.cold ++ leBytes 8 s.count ++ leBytes 4 s.map.epoch ++ leBytes 4 s.map.term ++
  leBytes 2 (if held then s.pod else 0x03FF) ++ leBytes 1 (if held then s.pkg else 0xFF) ++ List.replicate 21 0 ++
  leBytes 32 (s.rd rSEC_NONCE) ++ beList 32 s.part.identity ++ beList 32 s.sec.molend ++
  (match s.sec.fabric with | some k => beList 32 k.digest | none => List.replicate 32 0) ++
  sha256 s.configBytes ++ leBytes 32 (s.rd rREPRO_SIG_S) ++ leBytes 32 (s.rd rREPRO_SIG_C) ++ List.replicate 32 0
/-- A GO: the sample is taken, or the write is ignored and counted while BUSY (R484). -/
def State.attest (s : State) : State :=
  if s.sec.sample.isSome then s.inc rSEC_ATTEST 31 16
  else (s.updSec (fun x => { x with sample := some (s.count, s.report) })).setFld rSEC_ATTEST 2 2 0
/-- ATTEST_GO (R484). -/
def execAttestGo (s : State) : Host.Outcome State Fault Refusal := s.live s.attest
/-- ATTEST_DONE (R484): the report and its signature are in SEC_REPORT. -/
def execAttestDone (s : State) : Host.Outcome State Fault Refusal :=
  s.live (match s.sec.sample with
    | some (_, b) =>
      let s := (s.updSec (fun x => { x with sample := none })).wr rSEC_REPORT 0 0 (leNat (b ++ signed b))
      s.setFld rSEC_ATTEST 2 2 1
    | none => s)

/-! ### Link keys (R482, R483) -/

/-- Install or erase a link's keys as SEC_LINK_KEY now holds them; a link that waits for keys may come Up, and one without
keys leaves it. -/
def State.keyWrite (s : State) (n : Nat) : State :=
  let f (hi lo : Nat) : Nat := s.fld rSEC_LINK_KEY hi lo n
  if f 0 0 = 1 then
    let k : LinkKey := { valid := true, persist := f 1 1 == 1, txKey := f 639 384, rxKey := f 383 128, txSalt := f 127 96,
                         rxSalt := f 95 64, txUp := 0, rxUp := 0 }
    (s.updKeys n (fun _ => k)).linkUp n
  else (s.updKeys n (fun _ => .reset)).linkUnkeyed n
/-- LINK_KEY_WRITE (R482). -/
def execLinkKeyWrite (n : Fin 33) (v : BitVec 640) (s : State) : Host.Outcome State Fault Refusal :=
  s.live ((s.wr rSEC_LINK_KEY n.val 0 v.toNat).keyWrite n.val)

end Sys2Proof.Machine
end

