-- ==== Sys2Proof/Machine/Rattle.lean ====
section
/-! DEFINITION. Rattle: the test token, and the errors it injects (R439, R440). -/

namespace Sys2Proof.Machine

/-- Whether the test token in force permits a Rattle register, by the bit of Table 20-5 (R439). -/
def State.rattles (s : State) (bit : Nat) : Bool := s.fld rRATTLE_CTRL 3 2 == 1 && bitOf s.sec.rattle bit
/-- UNLOCK: refused for a sealed composition, then for a bad token (R439, R485). -/
def State.rattleOpen (s : State) : State :=
  let b := leBytes 512 (s.rd rRATTLE_TOKEN)
  if s.closedHere then s.setFld rRATTLE_CTRL 3 2 2
  else match s.tokenFails b 1 with
    | some c => (s.setFld rRATTLE_CTRL 3 2 3).tokenRefused (tokAt b 0 1) c
    | none => (s.updSec (fun x => { x with rattle := tokAt b 8 8 })).setFld rRATTLE_CTRL 3 2 1
/-- RATTLE_UNLOCK (R439). -/
def execRattleUnlock (s : State) : Host.Outcome State Fault Refusal := s.live s.rattleOpen
/-- RATTLE_LOCK (R439). -/
def execRattleLock (s : State) : Host.Outcome State Fault Refusal := s.live s.rattleClear

/-- The error that an injection puts at a place (Table of RATTLE_INJECT); the bit, the symbol and the path that its report
will name are free. -/
def State.injectFlaw (s : State) (target kind loc addr : Nat) : Option Flaw :=
  let u := loc % 2 ^ 20
  let hard := kind == 1
  let x := Config.draw s.nonce
  match target with
  | 0 => some ⟨.shelf (u * 2048 + addr % 2 ^ 14 / 8), hard, true, 0, x % 512, 0⟩
  | 1 => some ⟨.cacheData (rgnOf u), hard, true, addr / 256 % 2 ^ 16, addr % 256, 0⟩
  | 2 => some ⟨.cacheTag (rgnOf u), hard, true, addr / 256 % 2 ^ 16, addr % 256, 0⟩
  | 3 => some ⟨.line ((u / 2 ^ 17 * 2 ^ 38 + addr % dieBytes) / 64), hard, true, 0, 0, x % 36⟩
  | 4 => some ⟨.unitData u, true, true, x % 2 ^ 32, x / 2 ^ 32 % 2 ^ 32, 0⟩
  | 5 => some ⟨.unitCtrl u, true, true, x % 2 ^ 32, x / 2 ^ 32 % 2 ^ 32, x / 2 ^ 64 % 2 ^ 32⟩
  | _ => none
/-- Inject one error of a target and kind at a place: an error of a memory or of parity lies there until it is read; a
flit that a link receives, and a Cellar sector, are in error now. -/
def State.injectOne (s : State) (target kind loc addr : Nat) : State :=
  match s.injectFlaw target kind loc addr with
  | some f => ({ s with flaws := s.flaws ++ [f] } : State).tick
  | none =>
    let l := loc % 256
    if target = 6 then (if l < 16 ∧ (s.link l).st = 3 then (s.linkInc rGLY_ERR 31 0 l).flitDiscard l else s)
    else if target = 7 then (if s.chanPresent l then s.inc rCEL_RECON 63 0 else s)
    else s
/-- GO: COUNT errors are injected, when the token permits them and the grade has the target (R439, R440). -/
def State.inject (s : State) : State :=
  let f (hi lo : Nat) : Nat := s.fld rRATTLE_INJECT hi lo
  let loc := f 51 16
  if s.rattles 4 = false ∨ (f 3 0 < 6 ∧ s.unitOk (loc % 2 ^ 20) = false) then s
  else (List.range (f 15 8)).foldl (fun (s : State) _ => s.injectOne (f 3 0) (f 5 4) loc (f 127 64)) s
/-- RATTLE_INJECT (R440). -/
def execRattleInject (s : State) : Host.Outcome State Fault Refusal := s.live s.inject

end Sys2Proof.Machine
end

