-- ==== Sys2Proof/Machine/Start.lean ====
section
/-! DEFINITION. Starts: triggers, steps, failures, the recovery loader, and power and clock events (R457 to R475, R495). -/

namespace Sys2Proof.Machine

/-! ### What a reset keeps (Table 01-3, R464) -/

/-- Registers that a reset leaves alone: the interrupt tree and PWR_TRIP in the always-on domain, the last flush, and what
the Attic holds, the rejoin timeout, the Cellar layout and the request to discard it. -/
def keptOffset (o : Nat) : Bool :=
  decide (0x10000 ≤ o ∧ o < 0x13000) ||
  [rPWR_TRIP, rEVR_FLUSH, rSTART_REJOIN_TMO, rSTART_CTRL, rCEL_CFG].any (fun r => r.off == o)
/-- Registers held in non-volatile memory. -/
def atticOffset (o : Nat) : Bool := [rSTART_REJOIN_TMO, rCEL_CFG, rEVR_FLUSH].any (fun r => r.off == o)
/-- Free every vintage of some states: a reset loses what was being published, and releases every pin (Table 06-7, R185;
DESIGN CHOICE, log entry 74). -/
def State.freeVints (s : State) (lost : Vint → Bool) : State :=
  (s.cel.vints.filter (fun e => lost e.2)).foldl (fun s e => s.freeVint e.1) s
/-- The commands to modules that outlive a reset: WRITEs and TRIMs without a reply (DESIGN CHOICE, log entry 62). -/
def Cellar.owed (c : Cellar) : List CTag := (c.tags.vals ++ c.unsent).filter (fun t => t.kind != 0)
/-- A vintage once no kernel runs and no descriptor of it is queued (R463). -/
def Vint.idle (v : Vint) : Vint :=
  { v with pins := 0, coming := 0, planned := v.exts.length, closing := false, ending := 0 }
/-- The Cellar once no module has been seen since the reset; what was being published is lost (log entry 74). -/
def State.celKept (s : State) : Cellar :=
  let c := (s.freeVints (fun v => v.st != 1)).cel
  { Cellar.reset with
    slots := c.slots
    chans := c.chans.mapV (fun _ x => { CChan.reset with modId := x.modId, sectors := x.sectors, failed := x.failed })
    unsent := c.owed
    exts := c.exts
    vints := c.vints.mapV (fun _ v => v.idle)
    opened := c.opened
    setsUsed := c.setsUsed
    rebuild := c.rebuild
    cursor := c.cursor
    rbRow := c.rbRow }
/-- The map that the Attic holds: the one in force, or the one not yet rejoined. -/
def State.atticMap (s : State) : Option MapSt := if s.map.podPkg.isSome then some s.map else s.start.attic
/-- The package without a map, its charge totals kept (R398). -/
def MapSt.without (m : MapSt) : MapSt := { MapSt.reset with charge := m.charge, chargeSeq := m.chargeSeq }
/-- Every domain but the always-on one at reset (PORST_N, Table 01-3); non-volatile memory keeps what it holds. -/
def State.hubReset (s : State) : State :=
  { State.reset with
    pending := s.pending
    count := s.count
    nonce := s.nonce
    part := s.part
    ctl := s.ctl.filter (fun e => keptOffset e.1)
    rgns := s.rgns.mapV (fun _ r => { Rgn.reset with failed := r.failed, retired := r.retired })
    cel := s.celKept
    map := s.map.without
    evr := { s.evr with rates := [], msgs := 0 }
    start := { s.start with attic := s.atticMap, tables := none, fw := [], heldWarm := false }
    sec := { s.sec with
      links := s.sec.links.filter (fun e => e.2.persist)
      spiOpen := true
      debug := 0
      sample := none
      rattle := 0 }
    hlt := { Health.reset with saved := s.hlt.saved, savedRgn := s.hlt.savedRgn }
    tx := s.tx }

/-! ### Starts begin (R457 to R463) -/

/-- The Cellar layout and every vintage are discarded when CEL_RESET asks for it (R460). -/
def State.celReset (s : State) : State :=
  if s.fld rSTART_CTRL 4 4 = 0 then s
  else { s with cel := .reset, ctl := s.ctl.filter (fun e => decide (e.1 ≠ rCEL_CFG.off ∧ e.1 ≠ rSTART_CTRL.off)) }
/-- A cold start begins at step 1: the local count is zero, the cold-start number rises, and the recorder goes on, after a
reload when standby supply was lost (R442, R450, R459, R468). -/
def State.coldBegin (s : State) : State :=
  let s := s.hubReset.celReset
  let s := { s with
    count := 0
    evr := { s.evr with
      cold := (s.evr.cold + 1) % 2 ^ 32
      tokens := []
      subTokens := []
      supp := s.evr.supp.mapV (fun _ x => (x.1, 0))
      refillAt := 0 }
    sec := { s.sec with
      fabric := match s.sec.fabricNext with | some k => some k | none => s.sec.fabric
      debugged := false }
    hlt := { s.hlt with units := s.hlt.saved.mapV (fun _ h => { h with mism := 0, lastAt := 0, dueBy := none }),
                        spareRgn := s.hlt.savedRgn } }
  let lost := s.start.lost
  let s := s.updStart (fun x => { x with mode := .starting, kind := 0, step := 1, stepAt := 0, trigAt := 0, lost := false })
  if lost then s.reload else s
/-- What a warm start keeps of a context: its queue is discarded, NEXT_SEQ goes back to the first descriptor discarded, and a
context with a kernel running or queued is Halted (R463). -/
def Ctx.warm (x : Ctx) : Ctx :=
  let own := x.queue.filter (fun q => q.post.isNone && q.fwd.isNone)
  { x with
    st := if x.kernel.isSome ∨ x.queue.any (fun q => isKernelOp q.op) then .halted else x.st
    nextSeq := match own.head? with | some q => q.seq | none => x.nextSeq
    queue := []
    kernel := none
    held := []
    posts := x.posts.mapV (fun _ p => { p with on := false })
    hubOn := false
    sends := [] }
/-- The device tables that a warm start writes (R463); those of a start that fails stand. -/
def State.warmTables (s : State) : Tables :=
  match s.start.tables with
  | some t => t
  | none => { ctxs := s.ctxs.mapV (fun _ x => x.warm), qps := s.qps.mapV (fun _ q => { q with err := true, unacked := [], timer := none, reads := [] }),
              keys := s.keys }
/-- A warm start begins (R462, R463): threads stop without completions, queues are discarded, the tables are saved, and the
Larder keeps its contents; buckets are full, link keys that do not persist are gone, and an enrolled key is in force (R451,
R478, R482). -/
def State.warmBegin (s : State) : State :=
  let t := s.warmTables
  let s := s.rattleClear
  let s := { s.mend (fun p => match p with | .line _ => false | _ => true) with
    units := []
    groups := []
    taken := []
    shelf := []
    spois := []
    rcache := []
    wakes := []
    rgns := s.rgns.mapV (fun _ r => { Rgn.reset with failed := r.failed, retired := r.retired })
    ctxs := [(0, t.ctxs.getD 0 Ctx.reset)]
    qps := []
    keys := []
    flt := { s.flt with recs := [], timed := [] }
    cel :=
      let c := (s.freeVints (fun v => v.st == 2)).cel
      { c with
        tags := []
        stale := []
        unsent := c.owed
        fetch := []
        scrub := none
        chans := c.chans.mapV (fun _ x => { x with up := false, ident := false })
        vints := c.vints.mapV (fun _ v => v.idle) }
    gly := .reset
    home := .reset
    repro := { Repro.reset with exact := s.repro.exact }
    ckpt := s.ckpt.mapV (fun _ k => { k with phase := 0, frozen := false, drainSent := false, drained := [], staged := [],
                                             taken := none, q := none })
    map := s.map.without
    srch := []
    emb := { s.emb with runs := [], pres := [], staged := [], snaps := [] }
    start := { s.start with attic := s.atticMap, tables := some t, fw := [], heldWarm := false, mode := .starting, kind := 1,
                            step := 1, stepAt := s.count, trigAt := s.count }
    evr := { s.evr with tokens := [], subTokens := [] }
    sec := { s.sec with
      sample := none
      spiOpen := true
      links := s.sec.links.filter (fun e => e.2.persist)
      fabric := match s.sec.fabricNext with | some k => some k | none => s.sec.fabric }
    swc := { Swc.reset with sched := s.swc.sched, slot := s.swc.slot }
    eth := ⟨[], s.eth.ccAt, []⟩ }
  s
/-- A warm request (R457, R458, R465): held during a start, cold after three failures. -/
def State.warmRequest (s : State) : State :=
  match s.start.mode with
  | .starting => s.updStart (fun x => { x with heldWarm := true })
  | .ready => if 3 ≤ s.start.warmFails then s.coldBegin else s.warmBegin
  | .standby => if s.start.porst then s else if 3 ≤ s.start.warmFails then s.coldBegin else s.warmBegin
  | _ => s
/-- A cold request (R457); a failed package takes only PORST_N. -/
def State.coldRequest (s : State) : State :=
  match s.start.mode with
  | .off => s
  | .failed => s
  | .unclocked => s
  | .standby => if s.start.porst then s else s.coldBegin
  | _ => s.coldBegin
/-- The recovery loader begins (R466): no die, link or channel is powered.  Why: 0 failed starts, 1 requested. -/
def State.loaderBegin (s : State) (why : Nat) : State :=
  let s := s.hubReset
  ({ s with evr := { s.evr with tokens := [], subTokens := [] } }.updStart (fun x => { x with
    mode := .loader, kind := 2, step := 0 })).raise
    { code := 0x0202, sev := 5, d0 := why }
/-- A loader request (R457). -/
def State.loaderRequest (s : State) : State :=
  match s.start.mode with
  | .starting => s.loaderBegin 1
  | .ready => s.loaderBegin 1
  | .standby => if s.start.porst then s else s.loaderBegin 1
  | _ => s
/-- A start fails (R465): the next one begins at once. -/
def State.startFail (s : State) (cause : Nat) : State :=
  let k := s.start.kind
  let s := s.raise { code := 0x0201, sev := 3, d0 := k, d1 := s.start.step, d2 := cause }
  let s := s.updStart (fun x => { x with
    lastFail := x.step
    badStacks := if x.step = 4 then x.badStacks.add (cause % 16) else x.badStacks
    coldFails := if k = 0 then min 3 (x.coldFails + 1) else x.coldFails
    warmFails := if k = 1 then min 3 (x.warmFails + 1) else x.warmFails })
  if k = 0 then (if s.start.coldFails = 3 then s.loaderBegin 0 else s.coldBegin)
  else if s.start.warmFails = 3 then s.coldBegin else s.warmBegin

/-! ### Steps (Table 19-2, Table 19-3) -/

/-- The package is Ready (step 9): the tables that a warm start kept come back, and a held warm request runs. -/
def State.readyNow (s : State) : State :=
  let s := match s.start.tables with
    | some t => { s with
        ctxs := s.ctxs.plus (t.ctxs.filter (fun e => e.1 == 0 || s.start.attic.isSome || (s.compOf? e.1).isSome))
        qps := s.qps.plus t.qps
        keys := s.keys.plus t.keys }
    | none => s
  let held := s.start.heldWarm
  let s := s.raise { code := 0x0200, sev := 0, d0 := s.start.kind, d1 := s.count - s.start.trigAt }
  let s := (s.wr rSTART_READY 0 0 s.count).updStart (fun x => { x with
    mode := .ready
    step := 9
    coldFails := 0
    warmFails := 0
    heldWarm := false
    tables := none })
  if held then s.warmRequest else s
/-- The next step begins; links train from step 3 on (R283), and step 4 has trained every stack (R158). -/
def State.stepNext (s : State) : State :=
  let n := s.start.step
  let s := s.updStart (fun x => { x with step := n + 1, stepAt := s.count, badStacks := if n = 4 then [] else x.badStacks })
  if n = 2 then (List.range 33).foldl (fun s l => if (s.link l).st = 0 ∧ s.linkOn l then s.linkLeave l false 3 else s) s else s
/-- The integrity scan of a cold start: vintages whose hash differs are reported, and can no longer be bound (R460). -/
def State.scan (s : State) : State :=
  s.cel.vints.keys.foldl (fun (s : State) k =>
    let s := if Config.scanDiffers s.nonce then
        match s.cel.vints.find? k with
        | some v => (s.updVint k (fun v => { v with bad := true })).raise
            { code := 0x0207, sev := 3, comp := v.comp, d0 := v.comp, d1 := v.num }
        | none => s
      else s
    s.tick) s
/-- Step 5: discovery, by the saved layout when there is one, and in a cold start the scan (R460, Table 19-3). -/
def State.stepCellar (s : State) : State :=
  let s := if s.hasCellar then s.celMissing.findSpare else s.celDiscover
  if s.start.kind = 0 then s.scan else s
/-- Step 6: the spare map is built, without caps; a failed region that nothing replaces is retired; a warm start restores
what the Attic holds (R426, R427, Table 19-3). -/
def State.stepSpares (s : State) : State :=
  if s.start.kind = 1 then s.updHlt (fun h => { h with units := h.saved, spareRgn := h.savedRgn })
  else
    let bad := (s.rgns.filter (fun e => e.2.failed)).map Prod.fst
    let s := bad.foldl State.retireOr s
    if s.suspects = [] ∧ s.retired = [] then s.updHlt (fun h => { h with degraded := false }) else s
/-- Step 7: the signatures are computed, and every region enters Off (R404, R469). -/
def State.stepTests (s : State) : State :=
  { s with rgns := s.rgns.mapV (fun _ r => { Rgn.reset with failed := r.failed, retired := r.retired, temp := r.temp }) }.signature
/-- Whether the package has rejoined: it holds a map and has nothing committed still to apply (R461). -/
def State.rejoined (s : State) : Bool := s.map.podPkg.isSome && s.start.attic.isNone && s.map.committed.isNone
/-- The Attic's map names no other member: the package leads its pod itself (R386). -/
def State.alone (s : State) : Bool :=
  match s.start.attic with | some m => m.members.all (fun p => some p == m.podPkg.map Prod.snd) | none => false
/-- The system key, drawn at the package's first start (R480). -/
def State.systemKey (s : State) : State :=
  if s.sec.dataKeys.has 0 then s
  else (s.updSec (fun x => { x with dataKeys := x.dataKeys.put 0 (Config.random s.nonce) })).tick
/-- START_STEP_COMPLETE (R459): the step's action is done, or its check fails. -/
def execStartStepComplete (ok : Bool) (cause : Nat) (s : State) : Host.Outcome State Fault Refusal :=
  .next (if s.start.mode ≠ .starting then s
    else match s.start.step with
    | 2 => if !ok then s.startFail cause
           else match s.boot with
             | (some s', _) => s'.systemKey.stepNext
             | (none, s') => s'.startFail cause
    | 5 => s.stepCellar.stepNext
    | 6 => if ok then s.stepSpares.stepNext else s.startFail cause
    | 7 => s.stepTests.stepNext
    | 8 =>
      let s := if s.alone then s.rejoin else s
      if s.rejoined then s.readyNow else s
    | _ => if ok then s.stepNext else s.startFail cause)
/-- Maximum of a step in counts (Table 19-2). -/
def State.stepMax (s : State) : Nat :=
  match s.start.step with
  | 1 => 2 ^ 12 | 2 => 2 ^ 21 | 3 => 2 ^ 25 | 4 => 2 ^ 26 | 5 => 2 ^ 31 | 6 => 2 ^ 27 | 7 => 2 ^ 26
  | _ => max 1 (s.rd rSTART_REJOIN_TMO)
/-- START_STEP_TIMEOUT (R459): a step longer than its maximum fails; steps 5 and 7 never fail the start, and it goes on. -/
def execStartStepTimeout (s : State) : Host.Outcome State Fault Refusal :=
  .next (if s.start.mode ≠ .starting ∨ s.start.step = 8 then s
    else
      let s := s.untilDue (s.start.stepAt + s.stepMax + 1)
      match s.start.step with
      | 5 => s.stepCellar.stepNext
      | 7 => s.stepTests.stepNext
      | _ => (s.startFail (Config.failCause s.nonce)).tick)
/-- START_REJOIN_TIMEOUT (R461): no leader was reachable; the package is Ready without a map. -/
def execStartRejoinTimeout (s : State) : Host.Outcome State Fault Refusal :=
  .next (if s.start.mode ≠ .starting ∨ s.start.step ≠ 8 then s
    else (s.untilDue (s.start.stepAt + s.stepMax)).readyNow)

/-! ### Triggers (Table 19-1) -/

/-- STANDBY_SUPPLY_APPLIED (R457): the always-on domain starts and the package waits for PORST_N. -/
def execStandbySupplyApplied (s : State) : Host.Outcome State Fault Refusal :=
  .next (if s.start.mode = .off then s.updStart (fun x => { x with mode := .standby, porst := true }) else s)
/-- STANDBY_SUPPLY_LOSS (R450, R468): the local count stops; only non-volatile memory is left. -/
def execStandbySupplyLoss (s : State) : Host.Outcome State Fault Refusal :=
  .next (
    let s := s.hubReset
    { s with
      ctl := s.ctl.filter (fun e => atticOffset e.1)
      evr := { s.evr with carousel := [], flushing := none, supp := [], tokens := [], subTokens := [] }
      start := { s.start with mode := .off, therm := false, porst := true, lost := true } })
/-- PORST_N_FALL (R458, R474): every domain but the always-on one is reset; THERMTRIP_N is released. -/
def execPorstNFall (s : State) : Host.Outcome State Fault Refusal :=
  .next (if s.start.mode = .off then s
    else s.hubReset.updStart (fun x => { x with mode := .standby, porst := true, therm := false }))
/-- PORST_N_RELEASE (R457): a cold start. -/
def execPorstNRelease (s : State) : Host.Outcome State Fault Refusal :=
  .next (if s.start.mode = .standby ∧ s.start.porst = true then (s.updStart (fun x => { x with porst := false })).coldBegin else s)
/-- WARM_N (R457): held low for at least 4 counts it requests a warm start. -/
def execWarmN (counts : Nat) (s : State) : Host.Outcome State Fault Refusal :=
  .next (if 4 ≤ counts then s.warmRequest else s)
/-- START_CTRL_COLD (R457). -/
def execStartCtrlCold (s : State) : Host.Outcome State Fault Refusal := .next s.coldRequest
/-- START_CTRL_WARM (R457). -/
def execStartCtrlWarm (s : State) : Host.Outcome State Fault Refusal := .next s.warmRequest
/-- START_CTRL_LOADER (R457, R466). -/
def execStartCtrlLoader (s : State) : Host.Outcome State Fault Refusal := .next s.loaderRequest
/-- The image staged in START_FW_WIN, as long as its header says. -/
def State.fwImage (s : State) : List Byte :=
  Memory.getAll s.start.fw 0 (min (2 ^ 26) (1556 + leNat (Memory.getAll s.start.fw 12 4)))
/-- Verify the staged image, and write it to the slot that does not verify, slot B when both do (R466). -/
def State.fwCommit (s : State) : State :=
  if s.start.mode ≠ .loader then s
  else
    let b := s.fwImage
    let s' := s.updStart (fun x => { x with fw := [] })
    match s.imageFails b with
    | some _ => s'
    | none =>
      let k := if (s.imageFails (s.sec.flash.getD 0 [])).isSome then 0 else 1
      s'.updSec (fun x => { x with flash := x.flash.put k b })
/-- FW_COMMIT (R466). -/
def execFwCommit (s : State) : Host.Outcome State Fault Refusal := .next s.fwCommit

/-! ### Clocks, rails and trips (R467, R471, R474, R495) -/

/-- The event locator of a die, none for the hub. -/
def dieUnit (d : Fin 9) : Option Nat := if d.val = 8 then none else some (d.val * 2 ^ 17)
/-- REFCLK_LOSS (R467): the package fails. -/
def execRefclkLoss (s : State) : Host.Outcome State Fault Refusal :=
  .next (if s.start.mode = .off ∨ s.start.refclk = false then s
    else
      let s := (s.updStart (fun x => { x with refclk := false })).raise { code := 0x0203, sev := 5, d0 := s.count }
      if s.start.mode = .failed ∨ s.start.mode = .standby then s else s.updStart (fun x => { x with mode := .unclocked }))
/-- REFCLK_RETURN (R467): the trim resumes; the package waits for PORST_N or a start request. -/
def execRefclkReturn (s : State) : Host.Outcome State Fault Refusal :=
  .next (if s.start.mode = .off then s
    else s.updStart (fun x => { x with refclk := true, mode := if x.mode = .unclocked then .standby else x.mode }))
/-- THERM_TRIP (R474): THERMTRIP_N falls, the die's bit is set, and the package fails.  A reading below 110 °C trips
nothing. -/
def execThermTrip (die : Fin 9) (temp : BitVec 16) (s : State) : Host.Outcome State Fault Refusal :=
  .next (if s.start.mode = .off ∨ tempOf temp < 440 then s
    else
      let s := s.setFld rPWR_TRIP die.val die.val 1
      let s := s.raise { code := 0x0204, sev := 5, unit := dieUnit die, whole := true, d0 := die.val, d1 := temp.toNat }
      (s.updStart (fun x => { x with therm := true })).packageFail)
/-- A die rail fault: the die fails, and the package with it (R471). -/
def State.railFault (s : State) (die : Fin 9) (st : Nat) : State :=
  (s.raise { code := 0x0206, sev := 5, unit := dieUnit die, whole := true, d0 := die.val, d1 := st }).packageFail
/-- AVS_FAULT (R471). -/
def execAvsFault (die : Fin 9) (st : BitVec 16) (s : State) : Host.Outcome State Fault Refusal :=
  s.live (s.railFault die st.toNat)
/-- Voltage target of a die in mV; 700 until it has changed. -/
def State.railTarget (s : State) (d : Nat) : Nat := s.pwr.target.getD d 700
/-- VOLTAGE_STEP (R471): one step of 5 mV within 620 to 800 mV, at most one per 2^8 counts. -/
def execVoltageStep (die : Fin 9) (up : Bool) (s : State) : Host.Outcome State Fault Refusal :=
  let d := die.val
  let v := if up then s.railTarget d + 5 else s.railTarget d - 5
  let early := match s.pwr.stepAt.find? d with | some t => decide (s.count < t + 256) | none => false
  s.live (if early = true ∨ v < 620 ∨ 800 < v then s
    else { s with pwr := { target := s.pwr.target.put d v, stepAt := s.pwr.stepAt.put d s.count } })
/-- RAIL_FAULT (R495): a rail outside 580 to 850 mV is a die rail fault. -/
def execRailFault (die : Fin 9) (mv : BitVec 16) (s : State) : Host.Outcome State Fault Refusal :=
  s.live (if 580 ≤ mv.toNat ∧ mv.toNat ≤ 850 then s else s.railFault die (Config.avsStatus die.val s.count))
/-- Clear the PWR_TRIP bits written 1 (R474). -/
def State.tripWrite (s : State) (v : Nat) : State :=
  s.wr rPWR_TRIP 0 0 ((List.range 9).foldl (fun a i => if bitOf v i && bitOf a i then a - 2 ^ i else a) (s.rd rPWR_TRIP))
/-- Whether the hub's registers can be reached: it runs, starts, or is in the loader. -/
def State.hubUp (s : State) : Bool := !s.dead || s.start.mode == .loader
/-- PWR_TRIP_WRITE (R474). -/
def execPwrTripWrite (v : BitVec 9) (s : State) : Host.Outcome State Fault Refusal :=
  .next (if s.hubUp then s.tripWrite v.toNat else s)

end Sys2Proof.Machine
end

