-- ==== Sys2Proof/Machine/RegAccess.lean ====
section
/-! DEFINITION. Reads and writes of control space (R15, R16): the read-only fields that follow from the state, and the
writes that act. -/

namespace Sys2Proof.Machine

/-! ### Fields that follow from the state -/

/-- Place a field of a register value. -/
def regField (lo v : Nat) : Nat := v <<< lo
/-- Context state as CTX_STAT numbers it (Table 07-1). -/
def CState.code : CState → Nat | .unset => 0 | .idle => 1 | .running => 2 | .halted => 3
/-- Region state as PWR_RGN numbers it (Table 19-4). -/
def RPow.code : RPow → Nat | .off => 0 | .sleep => 1 | .gated => 2 | .active => 3
/-- DIE_SCHED_STAT. -/
def State.schedStat (s : State) (d : Nat) : Nat :=
  let mine := s.rgns.filter (fun e => decide (e.1 / 128 = d))
  let act := mine.filter (fun e => decide (e.2.pow = .active))
  let busy := (s.groups.filter (fun g => act.any (fun e => e.1 == g.1 / 64))).length
  regField 16 (64 * act.length - busy) + regField 8 (mine.filter (fun e => e.2.waking.isSome)).length + act.length
/-- State of a Larder stack: 0 off, 1 training, 2 active, 3 self-refresh (LRD_STAT); every stack trains at step 4 of a start
(Table 19-2), and a failed one is off. -/
def State.stackStat (s : State) (n : Nat) : Nat :=
  if s.dead ∨ s.start.badStacks.contains n then 0
  else if s.start.mode ≠ .starting ∨ 4 < s.start.step then 2
  else if s.start.step = 4 then 1
  else if s.start.kind = 1 then 3 else 0
/-- LRD_STAT of a die. -/
def State.lrdStat (s : State) (d : Nat) : Nat :=
  s.stackStat (2 * d) + regField 2 (s.stackStat (2 * d + 1)) + regField 4 (b2n (s.start.badStacks.contains (2 * d))) +
    regField 5 (b2n (s.start.badStacks.contains (2 * d + 1)))
/-- CEL_CFG beside MODE. -/
def State.celCfg (s : State) : Nat :=
  s.fld rCEL_CFG 1 0 + regField 2 (b2n (decide ((s.slot 16).1 = 4))) +
    regField 8 ((List.range 17).filter s.chanPresent).length
/-- CEL_CH of a channel. -/
def State.celCh (s : State) (c : Nat) : Nat :=
  let x := s.chan c
  b2n x.up + regField 1 (b2n x.ident) + regField 2 (b2n x.failed) + regField 16 (x.tmoCount % 2 ^ 16)
/-- FLT_STAT.POOL_FREE: it is set when the fault queue comes up in a start, with the hub's firmware after step 2 (R213; DESIGN
CHOICE, log entry 97). -/
def State.fltPoolNow (s : State) : Nat := if s.dead ∨ (s.start.mode = .starting ∧ s.start.step ≤ 2) then 0 else s.fltPoolFree
/-- GLY_STAT of a link. -/
def State.glyStat (s : State) (l : Nat) : Nat :=
  let k := s.link l
  k.st + (match k.partner with
    | some h => regField 18 (h.role.toNat % 4) + regField 20 (h.plane.toNat % 16) + regField 24 (h.port.toNat % 64)
    | none => 0)
/-- ETH_STAT of a port. -/
def State.ethStat (s : State) (e : Nat) : Nat :=
  let x := s.eport e
  x.link + regField 2 (b2n (s.ethPresent e)) + (x.paused.map (fun p => 2 ^ (3 + p.1))).sum
/-- ETH_PARTNER of a port. -/
def State.ethPartner (s : State) (e : Nat) : Nat :=
  match (s.eport e).partner with
  | some p => p.chassis % 2 ^ 48 + 2 ^ 56 + (match p.tlv with | some t => regField 48 t.port.toNat + 2 ^ 57 | none => 0)
  | none => 0
/-- CMP_LEADER. -/
def State.leaderStat (s : State) : Nat :=
  (match s.leader with | some l => l + 2 ^ 6 | none => 0) + regField 7 s.map.members.length + regField 15 (b2n s.leads)
/-- HLT_STAT. -/
def State.hltStat (s : State) : Nat :=
  (s.hlt.units.filter (fun e => e.2.observed)).length +
    regField 32 (s.hlt.units.filter (fun e => e.2.suspect)).length + regField 63 (b2n s.hlt.degraded)
/-- HLT_UNIT of the unit that HLT_SEL names. -/
def State.hltUnit (s : State) : Nat :=
  let h := s.hunit (s.rd rHLT_SEL % 2 ^ 20)
  let bands := (List.range 8).filter (fun b => (List.range 4).all (fun p => bitOf h.cover (4 * b + p)))
  h.score + regField 8 (b2n h.observed) + regField 9 (b2n h.suspect) + regField 10 (b2n h.spared) +
    regField 16 (bands.map (2 ^ ·)).sum + regField 24 (min 255 h.mism) + regField 32 (h.passes % 2 ^ 32)
/-- HLT_DIE of a die. -/
def State.hltDie (s : State) (d : Nat) : Nat :=
  (s.nRgn * 64 - (s.hlt.units.filter (fun e => e.2.spared && e.1 / 2 ^ 17 == d)).length) + regField 16 (s.spareRgns d) +
    regField 24 (s.hlt.expelled.getD d 0) + regField 32 (s.rgns.filter (fun e => e.2.retired && e.1 / 128 == d)).length
/-- The records that EVR_WIN shows (R448). -/
def State.winData (s : State) : Nat :=
  let first := s.fld rEVR_WIN 15 0
  let slot (k : Nat) : Nat := match s.fld rEVR_WIN 17 16 with
    | 0 => s.evr.carousel.getD ((first + k) % 65536) 0
    | 1 => s.evr.vault.getD ((first + k) % 8192) 0
    | 2 => (((s.evr.flushArea.filter (fun e => decide (e.1 % 1024 = (first + k) % 1024))).map Prod.snd).head?).getD 0
    | _ => 0
  leNat ((List.range 512).flatMap (fun k => leBytes 64 (slot k)))
/-- START_STAT. -/
def State.startStat (s : State) : Nat :=
  s.start.step + regField 8 s.start.kind + regField 10 s.start.warmFails + regField 12 s.start.coldFails + regField 16 s.start.lastFail
/-- PWR_AVS of a rail: its target, and what its bus last read (R471). -/
def State.avsStat (s : State) (d : Nat) : Nat :=
  s.railTarget d + regField 16 (Config.railMv d s.count % 2 ^ 16) + regField 40 (Config.railAmps d s.count % 2 ^ 16) +
    regField 56 (Config.railRetries d s.count % 2 ^ 8)
/-- PWR_CLK_STAT: the trim and the PLL locks are the part's own. -/
def State.clkStat (s : State) : Nat :=
  b2n s.start.refclk + regField 1 (b2n s.start.refclk) + regField 2 (Config.clockStat s.count % 2 ^ 9) +
    regField 16 (Config.clockStat s.count / 2 ^ 9 % 2 ^ 16)
/-- PWR_RGN of a region; one absent from the grade reads 0. -/
def State.rgnStat (s : State) (r : Nat) : Nat :=
  if s.nRgn ≤ r % 128 then 0
  else (s.rgn r).pow.code + regField 2 (b2n (s.rgn r).throttled) + regField 16 ((s.rgn r).temp % 2 ^ 16)
/-- SEC_STAT. -/
def State.secStat (s : State) : Nat :=
  regField 2 s.sec.debug + regField 4 s.sec.slot + regField 5 (b2n s.sec.spiOpen) + regField 8 s.sec.slots.length
/-- SEC_LINK_KEY of a link beside its salts. -/
def State.keyStat (s : State) (n : Nat) : Nat :=
  let k := s.linkKey n
  b2n k.valid + regField 1 (b2n k.persist) + regField 16 ((k.rxUp - 1) % 2 ^ 24) + regField 40 (k.txUp % 2 ^ 24) +
    regField 64 (s.fld rSEC_LINK_KEY 127 64 n)
/-- A free-pool count that is set when the map is joined. -/
def State.joined (s : State) (n : Nat) : Nat := if s.map.podPkg.isSome then n else 0
/-- Registers whose fields follow from the state: the grade, the dies and the Cellar. -/
def derivedRegs0 : List (RegDef × (State → Nat → Nat → Nat)) :=
  [(rID_DEVICE, fun s _ _ => s.deviceId), (rID_OUI, fun s _ _ => s.part.oui),
   (rDIE_SCHED_STAT, fun s i _ => s.schedStat i), (rLRD_STAT, fun s d _ => s.lrdStat d), (rCEL_CFG, fun s _ _ => s.celCfg),
   (rCEL_REBUILD, fun s _ _ => s.fld rCEL_REBUILD 15 0 + (match s.cel.rebuild with | some n => regField 16 n + 2 ^ 31 | none => 0)),
   (rCEL_REBUILD_CURSOR, fun s _ _ => s.cel.cursor),
   (rCEL_POISON_EXT, fun s _ _ => (s.cel.exts.filter (fun e => e.2.poisoned)).length),
   (rCEL_VINTAGES, fun s _ _ => s.cel.vints.length + regField 8 (s.cel.vints.filter (fun e => e.2.st == 0)).length),
   (rCEL_SLOT, fun s i _ => (s.slot i).2 + regField 5 (s.slot i).1), (rCEL_CH, fun s i _ => s.celCh i)]
/-- Registers whose fields follow from the state: faults, contexts, searches, links and homes. -/
def derivedRegs1 : List (RegDef × (State → Nat → Nat → Nat)) :=
  [(rFLT_STAT, fun s _ _ => s.flt.recs.length + regField 16 s.fltPoolNow), (rFLT_WAITING, fun s _ _ => s.waitingStalls.length),
   (rCTX_STAT, fun s i _ => match s.compOf? i with
      | some _ => (s.ctx i).st.code + regField 2 (s.flt.recs.filter (fun r => decide (r.2.ctx = i))).length
      | none => 0),
   (rSRCH_STAT, fun s i _ =>
      regField 24 (s.srch.map (fun e => (e.2.running.filter (fun b => decide (b.1 / 128 = i))).length)).sum +
      (s.srch.map (fun e => (e.2.queued.filter (fun b => b.die == i)).length)).sum),
   (rCTX_RDT_STAT, fun s _ _ => (s.emb.tabs.map (fun e => e.2.redirects.length)).sum +
      regField 32 (s.joined (poolFree 65536 s.map.comps.keys s.rdtRes s.rdtUsed))),
   (rGLY_STAT, fun s i _ => s.glyStat i), (rGLY_XPOD_STAT, fun s _ _ => s.gly.xpods.length),
   (rHOME_HTT_STAT, fun s i _ => (s.home.txns.filter (fun e => e.2.entry && e.2.die == i)).length + regField 16 (s.joined (s.httPool i))),
   (rHOME_TRK_STAT, fun s i _ => (s.home.trk.filter (fun e => decide (e.1 / 2 ^ 32 = i))).length),
   (rSWC_STAT, fun s _ _ => s.joined s.poolFree)]
/-- Registers whose fields follow from the state: Ethernet, the map, strict mode and health. -/
def derivedRegs2 : List (RegDef × (State → Nat → Nat → Nat)) :=
  [(rETH_STAT, fun s i _ => s.ethStat i), (rETH_MAC, fun s i _ => s.part.macs.getD i 0), (rETH_PARTNER, fun s i _ => s.ethPartner i),
   (rCMP_EPOCH, fun s _ _ => s.map.epoch + regField 32 s.map.term), (rCMP_LEADER, fun s _ _ => s.leaderStat),
   (rCMP_REVOKE_PEND, fun s _ _ => s.map.revoking.length),
   (rCMP_CHARGE, fun s _ _ => s.fld rCMP_CHARGE 31 0 + regField 32 s.map.chargeHeld.length),
   (rCMP_PARTNER, fun s i _ => s.map.partners.getD i 0), (rREPRO_EXACT_STAT, fun s _ _ => s.repro.exact.length),
   (rHLT_STAT, fun s _ _ => s.hltStat), (rHLT_UNIT, fun s _ _ => s.hltUnit), (rHLT_DIE, fun s i _ => s.hltDie i)]
/-- Registers whose fields follow from the state: events, starts, power and security. -/
def derivedRegs3 : List (RegDef × (State → Nat → Nat → Nat)) :=
  [(rEVR_STAT, fun s _ _ => s.evr.vault.length + regField 32 s.evr.seq), (rEVR_COLD_START, fun s _ _ => s.evr.cold),
   (rEVR_WIN_DATA, fun s _ _ => s.winData),
   (rEVR_RATE, fun s _ _ => let br := s.evr.rates.getD (s.fld rEVR_RATE_SEL 15 0) (0x40, 0x10); br.2 + regField 16 br.1),
   (rIRQ_SUMMARY, fun s _ _ => s.irqSummary), (rIRQ_GROUP, fun s i _ => s.irqGroup i), (rSTART_STAT, fun s _ _ => s.startStat),
   (rPWR_AVS, fun s i _ => s.avsStat i), (rPWR_CLK_STAT, fun s _ _ => s.clkStat), (rPWR_RGN, fun s i _ => s.rgnStat i),
   (rSEC_STAT, fun s _ _ => s.secStat), (rSEC_ATTEST, fun s _ _ => s.rd rSEC_ATTEST ||| regField 1 (b2n s.sec.sample.isSome)),
   (rSEC_CERT, fun s _ _ => leNat s.part.cert), (rSEC_LINK_KEY, fun s i _ => s.keyStat i)]
/-- Registers whose fields follow from the state: offset and value of an entry. -/
def derivedRegs : List (RegDef × (State → Nat → Nat → Nat)) := derivedRegs0 ++ derivedRegs1 ++ derivedRegs2 ++ derivedRegs3
/-- Bits of a register that a read returns: RSV and WO fields read as zero (Table 00-3). -/
def RegDef.shown (r : RegDef) : Nat := r.maskOf .ro ||| r.maskOf .rw ||| r.maskOf .w1c
/-- A register that an Ethernet port has in its own block. -/
def RegDef.ofPort (r : RegDef) : Bool := decide (0x200000 ≤ r.off ∧ r.off < 0x208000)
/-- A register as a read returns it (R15); those of an absent Ethernet port read as zero (R350). -/
def State.regRead (s : State) (r : RegDef) (i j : Nat) : Nat :=
  if r.ofPort && !s.ethPresent i then 0
  else
    match derivedRegs.find? (fun d => d.1.off == r.off) with
    | some d => d.2 s i j &&& r.shown
    | none => s.rd r i j &&& r.shown
/-- The register that holds a control-space offset, with its entry. -/
def regAt (o : Nat) : Option (RegDef × Nat × Nat) :=
  (allRegs.filter (fun r => r.off ≠ rSTART_FW_WIN.off)).findSome? (fun r => (r.locate o).map (fun e => (r, e.1, e.2)))
/-- A byte of control space; unassigned offsets read as zero (R16). -/
def State.regByte (s : State) (o : Nat) : Byte :=
  match regAt o with
  | some (r, i, j) => BitVec.ofNat 8 (s.regRead r i j >>> (8 * (o - r.at i j)))
  | none => 0
/-- Bytes of control space. -/
def State.regBytes (s : State) (o n : Nat) : List Byte := (List.range n).map (fun k => s.regByte (o + k))

/-! ### Writes -/

/-- Write the 4-byte word `k` of a register by its access codes (Table 00-3): RW fields, and the WO fields that a register
keeps for its command, are set; a 1 clears a W1C bit. -/
def State.wrWord (s : State) (r : RegDef) (i j k v : Nat) : State :=
  let old := s.rd r i j
  let lo := 32 * k
  s.wr r i j (r.fields.foldl (fun x f =>
    let (hi, l, a) := f
    let top := min hi (lo + 31)
    let bot := max l lo
    if top < bot then x
    else match a with
      | .rw => setBits x top bot (bits v (top - lo) (bot - lo))
      | .wo => setBits x top bot (bits v (top - lo) (bot - lo))
      | .w1c => setBits x top bot (bits old top bot - (bits old top bot &&& bits v (top - lo) (bot - lo)))
      | .ro => x) old)
/-- Whether the test token lets a Rattle register be written (R439); RATTLE_CTRL and RATTLE_TOKEN always can. -/
def State.rattleTakes (s : State) (o : Nat) : Bool :=
  if o = rRATTLE_CTRL.off ∨ o = rRATTLE_TOKEN.off then true
  else if o = rRATTLE_SEED.off then s.rattles 0
  else if o = rRATTLE_CREDIT.off then s.rattles 1
  else if o = rRATTLE_ARB.off then s.rattles 2
  else if o = rRATTLE_EVICT.off then s.rattles 3
  else if o = rRATTLE_INJECT.off then s.rattles 4
  else if o = rRATTLE_AON.off then s.rattles 5
  else s.rattles 6
/-- A write of START_CTRL (Table 19-1, R458). -/
def State.startCtrl (s : State) (v : Nat) : State :=
  let s := s.wr rSTART_CTRL 0 0 (16 * bits v 4 4)
  let s := if bitOf v 5 then s.fwCommit else s
  if bitOf v 3 then s.loaderRequest else if bitOf v 1 then s.coldRequest else if bitOf v 2 then s.warmRequest else s
/-- A write of SEC_CTRL. -/
def State.secCtrl (s : State) (v : Nat) : State :=
  let s := if bitOf v 0 then s.enrollKeyNow else s
  let s := if bitOf v 1 then s.svnRaise else s
  let s := if bitOf v 2 then s.debugOpen else s
  let s := if bitOf v 3 then s.spiOpen else s
  if bitOf v 4 then s.spiClose else s
/-- A write of ETH_CTRL of a port (R350, R351, R374): SPLIT acts when it changes. -/
def State.ethCtrl (s : State) (e v : Nat) : State :=
  let s := (s.setFld rETH_CTRL 4 2 (bits v 4 2) e)
  let s := if e % 2 = 0 ∧ s.fld rETH_CTRL 1 1 e ≠ bits v 1 1 then s.splitWrite (e / 2) (bitOf v 1) else s
  let s := s.enableWrite e (bitOf v 0)
  if bitOf v 5 then s.ethTrain e else s
/-- What a word written to a register brings about beyond its fields. -/
def State.regActs (s : State) (r : RegDef) (i j k v : Nat) : State :=
  if r.off = rRATTLE_INJECT.off ∧ k = 0 ∧ bitOf v 6 = true then s.inject.setFld rRATTLE_INJECT 6 6 0
  else if r.off = rSEC_LINK_KEY.off ∧ k = 0 then s.keyWrite i
  else if r.off = rSWC_METER.off then s.meterFill i
  else if r.off = rETH_SYS_DESC.off ∧ k = 15 then s.consume 0 (BitVec.ofNat 512 (s.rd rETH_SYS_DESC)) true
  else if r.off = rEVR_RATE.off then
    s.updEvr (fun e => { e with rates := e.rates.put (s.fld rEVR_RATE_SEL 15 0) (bits v 23 16, bits v 7 0) })
  else if r.off = rSWC_CFG.off ∧ bitOf v 8 = true ∧ s.swc.sched = [] then
    let s := s.fillSlots
    s.updSwc (fun w => { w with slot := 0, sched := s.schedRegs })
  else if r.off = rSWC_CFG.off ∧ bitOf v 8 = false then s.updSwc (fun w => { w with sched := [], slot := 0 })
  else let _ := j; s
/-- A 4-byte word written to a located register. -/
def State.regPut (s : State) (r : RegDef) (i j k v : Nat) : State :=
  if r.off = rSTART_CTRL.off then s.startCtrl v
  else if r.off = rSEC_CTRL.off then s.secCtrl v
  else if r.off = rSEC_ATTEST.off then (if bitOf v 0 then s.attest else s)
  else if r.off = rRATTLE_CTRL.off then
    let s := if bitOf v 1 then s.rattleClear else s
    if bitOf v 0 then s.rattleOpen else s
  else if 0x40000 ≤ r.off ∧ r.off < 0x50000 ∧ s.rattleTakes r.off = false then s
  else if r.off = rREPRO_DEFAULTS.off then s.defaultsWrite v
  else if r.off = rIRQ_LEAF.off then s.leafWrite i j v
  else if r.off = rPWR_TRIP.off then s.tripWrite v
  else if r.off = rETH_CTRL.off then s.ethCtrl i v
  else if r.off = rGLY_CTRL.off then
    let s := s.glyEnable i (bitOf v 0)
    if bitOf v 1 then s.linkLeave i false 3 else s
  else if r.off = rSWC_CLASS.off ∧ 4 ≤ i then (s.wrWord r i j k v).setFld rSWC_CLASS 0 0 (s.fld rSWC_CLASS 0 0 i) i
  else (s.wrWord r i j k v).regActs r i j k v
/-- A 4-byte word written at a control-space offset (R15, R16): unassigned offsets ignore it, and so does the firmware
window outside the loader (R466). -/
def State.regWrite (s : State) (o v : Nat) : State :=
  let o := o / 4 * 4
  if 0x10000000 ≤ o ∧ o < 0x14000000 then
    if s.start.mode = .loader then
      s.updStart (fun x => { x with fw := Memory.setAll x.fw (o - 0x10000000) (leBytes 4 v) })
    else s
  else
    match regAt o with
    | some (r, i, j) => s.regPut r i j ((o - r.at i j) / 4) v
    | none => s
/-- REGISTER_WRITE (R15, R16): a word written by the system context, or by the management port once it is let through. -/
def execRegisterWrite (off v : BitVec 32) (s : State) : Host.Outcome State Fault Refusal :=
  .next (if s.hubUp then s.regWrite off.toNat v.toNat else s)

end Sys2Proof.Machine
end

