-- ==== Sys2Proof/Machine/PinsRows.lean ====
section
/-! DEFINITION. The package's own interfaces: the management SPI port, the I3C sensor port and boundary scan (R487, R488,
R502 to R504). -/

namespace Sys2Proof.Machine

/-! ### The management SPI port (R488, R502) -/

/-- Whether the SPI port works: the hub is up, or waits for a start request with PORST_N high. -/
def State.spiLive (s : State) : Bool := s.hubUp || (s.start.mode == .standby && !s.start.porst)
/-- Whether the port is locked (R488). -/
def State.spiLocked (s : State) : Bool := !s.sec.spiOpen && s.start.mode != .loader
/-- Whether a start has not yet reached step 3. -/
def State.early (s : State) : Bool := s.start.mode == .standby || (s.start.mode == .starting && decide (s.start.step < 3))
/-- Whether the port reaches an offset: a locked one reaches four registers, and before step 3 only the identity and start
block answers. -/
def State.spiReaches (s : State) (o : Nat) : Bool :=
  (!s.spiLocked || [rID_DEVICE, rSTART_STAT, rSTART_READY, rSEC_STAT].any (fun r => (r.locate o).isSome)) &&
    (!s.early || decide (o < 0x10000))
/-- SPI_READ (R502): the status byte, then data; what the port does not reach reads zero. -/
def execSpiRead (off : BitVec 32) (len : Nat) (s : State) : Host.Outcome State Fault Refusal :=
  .next (if !s.spiLive then s
    else s.send (.spi (leBytes 1 (b2n s.spiLocked + 2 * b2n (s.start.mode == .loader)) ++
      (List.range len).map (fun k => if s.spiReaches (off.toNat + k) then s.regByte (off.toNat + k) else 0))))
/-- SPI_WRITE (R502): every whole aligned word of the data is applied in its turn; a locked port ignores it. -/
def execSpiWrite (off : BitVec 32) (data : List (BitVec 8)) (s : State) : Host.Outcome State Fault Refusal :=
  let o := off.toNat
  let lead := (4 - o % 4) % 4
  .next ((List.range ((data.length - lead) / 4)).foldl (fun (s : State) i =>
    let a := o + lead + 4 * i
    if s.spiLive && !s.spiLocked && s.spiReaches a then s.regWrite a (leNat ((data.drop (lead + 4 * i)).take 4)) else s) s)

/-! ### The I3C sensor port (R503) -/

/-- I3C_PRIVATE_WRITE (R503). -/
def execI3cPrivateWrite (off : BitVec 8) (s : State) : Host.Outcome State Fault Refusal :=
  .next (if !s.aon then s else { s with pins := { s.pins with i3cOff := off.toNat } })
/-- I3C_PRIVATE_READ (R503): bytes of one refresh, up to the block's end. -/
def execI3cPrivateRead (len : Nat) (s : State) : Host.Outcome State Fault Refusal :=
  .next (if !s.aon then s else s.send (.i3c ((s.pins.block.drop s.pins.i3cOff).take len)))
/-- ENTDAA (R503): the target takes its dynamic address. -/
def execEntdaa (addr : BitVec 7) (s : State) : Host.Outcome State Fault Refusal :=
  .next (if !s.aon then s else { s with pins := { s.pins with i3cAddr := addr.toNat } })
/-- The higher of two temperatures in 0.25 °C steps. -/
def hotter (a b : Nat) : Nat := if toS 16 (a % 2 ^ 16) < toS 16 (b % 2 ^ 16) then b else a
/-- Hottest region or sensor of a die, 8 the hub; 0x8000 where none is valid (Table 21-10). -/
def State.dieHeat (s : State) (d : Nat) : Nat :=
  if s.early ∨ (s.start.mode = .loader ∧ d < 8) then 0x8000
  else (s.rgns.filter (fun e => decide (e.1 / 128 = d))).foldl (fun t e => hotter t e.2.temp) (Config.dieTemp d s.count % 2 ^ 16)
/-- The sensor block (Table 21-10). -/
def State.sensorBlock (s : State) : List Byte :=
  let live (v : Nat) : Nat := if s.early then 0 else v
  (List.range 9).flatMap (fun d => leBytes 2 (s.dieHeat d)) ++
  (List.range 9).flatMap (fun d => leBytes 2 (live (Config.railMv d s.count))) ++
  (List.range 9).flatMap (fun d => leBytes 2 (live (Config.railAmps d s.count))) ++
  leBytes 1 (live (b2n s.start.therm + 2 * b2n (s.rgns.any (fun e => e.2.throttled)) + 4 * b2n (s.start.mode == .ready) +
    8 * b2n (s.start.mode == .loader)))
/-- SENSOR_REFRESH (R503): each 2^12 counts. -/
def execSensorRefresh (s : State) : Host.Outcome State Fault Refusal :=
  .next (if !s.aon then s
    else
      let t := s.pins.blockAt + 2 ^ 12
      let s := s.untilDue t
      { s with pins := { s.pins with block := s.sensorBlock, blockAt := t } })

/-! ### Boundary scan (R487, R504) -/

/-- Select a JTAG instruction; the register it shifts out leaves. -/
def State.jtag (s : State) (n v : Nat) : State := { s with pins := { s.pins with jtag := n } }.send (.jtag n v)
/-- BYPASS (R487). -/
def execBypass (s : State) : Host.Outcome State Fault Refusal := .next (s.jtag 0 0)
/-- IDCODE (R504). -/
def execIdcode (s : State) : Host.Outcome State Fault Refusal := .next (s.jtag 1 0x14816A5B)
/-- SAMPLE_PRELOAD (R487): the pins are sampled, and the cells take what is shifted in. -/
def execSamplePreload (v : BitVec 63) (s : State) : Host.Outcome State Fault Refusal :=
  let s' := s.jtag 2 (Config.pinBits s.nonce % 2 ^ 63)
  .next { s' with pins := { s'.pins with cells := v.toNat } }.tick
/-- EXTEST (R504): the pins follow the cells; with PORST_N high every AVSBus stops, and the package fails by R471. -/
def execExtest (s : State) : Host.Outcome State Fault Refusal :=
  let s' := s.jtag 3 s.pins.cells
  let dies := if s.start.mode = .loader then [(8 : Fin 9)] else [0, 1, 2, 3, 4, 5, 6, 7, 8]
  .next (if s.hubUp then dies.foldl (fun (s : State) d => s.railFault d (Config.avsStatus d.val s.count)) s' else s')

end Sys2Proof.Machine
end

