-- ==== Sys2Proof/Machine/Rdma.lean ====
section
/-! DEFINITION. RoCEv2 on queue pairs: what the package receives as responder and as requester, and rate control (R198,
R357 to R365). -/

namespace Sys2Proof.Machine

/-! ### Queue pairs (R358, R310) -/

/-- Change a queue pair. -/
def State.updQp (s : State) (qp : Nat) (f : Qp → Qp) : State := { s with qps := s.qps.upd qp f }
/-- PORT of a queue pair (Table 14-3). -/
def Qp.port (q : Qp) : Nat := fieldOf q.d 21 1 % 16
/-- RETRY_CNT and RNR_RETRY of a queue pair. -/
def Qp.retryCnt (q : Qp) : Nat := bits (fieldOf q.d 22 1) 5 3
/-- RNR_RETRY; 7 is without limit. -/
def Qp.rnrCnt (q : Qp) : Nat := fieldOf q.d 23 1 % 8
/-- Distance from one PSN up to another, in 24 bits. -/
def psnDist (a b : Nat) : Nat := (b + 2 ^ 24 - a % 2 ^ 24) % 2 ^ 24
/-- A queue pair fails; an inter-pod one ends its outstanding requests with UNREACHABLE (R310). -/
def State.qpFails (s : State) (qp cause syn : Nat) : State :=
  let s := s.qpError qp cause syn
  match s.gly.xpods.find? (fun x => x.qp = qp) with
  | none => s
  | some x =>
    let rs := s.gly.reqs.filter (fun e => e.2.plane == 16 && e.2.dest == x.dest)
    let s := { s with
      qps := s.qps.del qp
      gly := { s.gly with
        xpods := s.gly.xpods.filter (fun y => decide (y.qp ≠ qp))
        reqs := s.gly.reqs.filter (fun e => !(e.2.plane == 16 && e.2.dest == x.dest)) } }
    (rs.foldl (fun (s : State) e => s.reqFailed e.2 0x0B) s).pairPump x.dest
/-- Refuse a message: its NAK goes out, and the queue pair fails (R358). -/
def State.nakFail (s : State) (qp psn syn : Nat) : State := (s.send (.nak qp psn syn)).qpFails qp 0 syn

/-! ### The package as responder (Table 14-2) -/

/-- A packet with CE: a CNP goes out unless one did within CNP_INTERVAL counts (R359). -/
def State.ceSeen (s : State) (qp : Nat) (q : Qp) : State :=
  let recent := match q.lastCnp with | some t => decide (s.count < t + s.fld rETH_CC_TIME 15 0) | none => false
  if recent then s
  else ((s.updQp qp (fun q => { q with lastCnp := some s.count })).inc rETH_CNP 63 32 q.port).send (.cnp qp)
/-- A message of `n` bytes reaches a queue pair: discarded where the queue pair does not exist or is in error, or while its
composition is frozen (R358, R430); a duplicate goes to `again`, a gap is answered by a sequence NAK, and what is due goes to
`take` with its last PSN. -/
def State.receive (s : State) (qp : Nat) (ce : Bool) (psn n : Nat) (again : State → State) (take : Nat → State → State) :
    State :=
  match s.qps.find? qp with
  | none => s
  | some q =>
    if q.err then s
    else if s.frozen q.comp then s.wr rHLT_FREEZE 0 0
      (setBits (s.rd rHLT_FREEZE) 63 40 ((s.fld rHLT_FREEZE 63 40 + q.packets n) % 2 ^ 24))
    else
      let s := if ce then s.ceSeen qp q else s
      let d := psnDist q.rqPsn psn
      if d = 0 then take ((psn + q.packets n - 1) % 2 ^ 24) s
      else if 2 ^ 23 ≤ d then again s
      else s.send (.nak qp q.rqPsn 0x60)
/-- The next PSN that a queue pair expects. -/
def State.rqNext (s : State) (qp last : Nat) : State := s.updQp qp (fun q => { q with rqPsn := (last + 1) % 2 ^ 24 })
/-- A duplicate WRITE or SEND is acknowledged and not taken again (R358). -/
def State.reAck (s : State) (qp : Nat) : State :=
  match s.qps.find? qp with | some q => s.send (.ack qp (psnDist 1 q.rqPsn)) | none => s
/-- The key entry that a request names, for a queue pair of its composition (R361, R362). -/
def State.keyFor (s : State) (qp key : Nat) : Option (Nat × Key) :=
  match s.qps.find? qp, s.keys.find? (key % 2 ^ 15) with
  | some q, some k => if k.gen = key / 2 ^ 15 ∧ k.comp = q.comp ∧ k.revoked = false then some (key % 2 ^ 15, k) else none
  | _, _ => none
/-- Descriptors of a WRITE to a window. -/
def windowDescs (data : List Byte) : List Vec :=
  (List.range (data.length / 64)).map (fun i => BitVec.ofNat 512 (leNat ((data.drop (64 * i)).take 64)))
/-- The program address of a request through a segment key, once the key's own checks pass (R198). -/
def Key.addr (k : Key) (va n : Nat) (wr : Bool) : Option Nat :=
  if va < k.va ∨ k.len < va - k.va + n ∨ bitOf k.acc (b2n wr) = false then none
  else some (k.seg * 2 ^ 60 + (k.win + (va - k.va)))
/-- Whether a segment is a Cellar segment. -/
def State.isCellar (s : State) (c g : Nat) : Bool := match s.seg? c g with | some x => decide (x.tier = 1) | none => false
/-- Checks 4 to 8 of Table 07-5 for a host request, with the rules of R198 and R277 for a WRITE; an absent segment is
counted (R202). -/
def State.hostCheck (s : State) (k : Key) (addr n : Nat) (wr : Bool) : Bool × State :=
  if (s.segCheck k.ctx addr n (if wr then permW else permR)).isSome ∨
      (wr = true ∧ (s.isCellar k.ctx k.seg = true ∨ s.postHit k.ctx addr n = true)) then (false, s)
  else if s.absent k.ctx addr then (false, s.inc rFLT_HOST_ABSENT 31 0)
  else (true, s)
/-- Whether a request through a control key lies in control space, in whole words (R363). -/
def Key.control? (k : Key) (va n : Nat) (wr : Bool) : Bool :=
  decide (k.va ≤ va ∧ (va - k.va) % 4 = 0 ∧ n % 4 = 0 ∧ va - k.va + n ≤ 2 ^ 32) && bitOf k.acc (b2n wr)
/-- Words written to control space in ascending order, each as the management port applies it (R363, R502). -/
def State.wordsWrite (s : State) (o : Nat) (data : List Byte) : State :=
  (List.range (data.length / 4)).foldl (fun (s : State) i => s.regWrite (o + 4 * i) (leNat ((data.drop (4 * i)).take 4))) s
/-- A WRITE that is due (R198, R363 to R365). -/
def State.hostWrite (s : State) (qp key va : Nat) (data : List Byte) (first last : Nat) : State :=
  let n := data.length
  if 2 ^ 31 < n then s.nakFail qp first 0x61
  else if n = 0 then (s.rqNext qp last).send (.ack qp last)
  else
    match s.keyFor qp key with
    | none => s.nakFail qp first 0x62
    | some (idx, k) =>
      if k.window then
        let o := va - k.va
        if va < k.va ∨ o % 64 ≠ 0 ∨ n % 64 ≠ 0 ∨ 65536 < o + n ∨ bitOf k.acc 1 = false then s.nakFail qp first 0x62
        else ((s.rqNext qp last).consumeAll k.ctx (windowDescs data)).send (.ack qp last)
      else if k.control then
        if k.control? va n true then ((s.rqNext qp last).wordsWrite (va - k.va) data).send (.ack qp last)
        else s.nakFail qp first 0x62
      else
        match k.addr va n true with
        | none => s.nakFail qp first 0x62
        | some a =>
          let r := s.hostCheck k a n true
          if r.1 = false then r.2.nakFail qp first 0x62
          else
            let s := s.rqNext qp last
            match s.homeOpen k.ctx k.comp [(a, n, true)] (.host qp true idx k.ctx a n data last) with
            | some s' => s'.hostPump
            | none => s.hostPerform qp true idx k.ctx a n data last
/-- A READ that is due, or a duplicate one (R198, R358): at most 16 are open, and each answers when its bytes are here. -/
def State.hostRead (s : State) (qp key va n first last : Nat) (again : Bool) : State :=
  let step (s : State) : State := if again then s else s.rqNext qp last
  let open_ := match s.qps.find? qp with | some q => q.reads.length | none => 0
  if 2 ^ 31 < n ∨ 16 ≤ open_ then s.nakFail qp first 0x61
  else if n = 0 then (step s).send (.readRsp qp first [])
  else
    match s.keyFor qp key with
    | none => s.nakFail qp first 0x62
    | some (idx, k) =>
      if k.window then s.nakFail qp first 0x62
      else if k.control then
        if k.control? va n false then (step s).send (.readRsp qp first (s.regBytes (va - k.va) n))
        else s.nakFail qp first 0x62
      else
        match k.addr va n false with
        | none => s.nakFail qp first 0x62
        | some a =>
          let r := s.hostCheck k a n false
          if r.1 = false then r.2.nakFail qp first 0x62
          else
            let s := (step s).updQp qp (fun q => { q with reads := q.reads ++ [(idx, last)] })
            match s.homeOpen k.ctx k.comp [(a, n, false)] (.host qp false idx k.ctx a n [] first) with
            | some s' => s'.hostPump
            | none => (s.hostPerform qp false idx k.ctx a n [] first).hostPump
/-- RDMA_WRITE (R198); in the recovery loader, an image reaches the firmware window on queue pair 0 with key 0 (R466). -/
def execRdmaWrite (qp : BitVec 14) (ce : Bool) (psn : BitVec 24) (key : BitVec 32) (va : BitVec 64) (data : List (BitVec 8))
    (s : State) : Host.Outcome State Fault Refusal :=
  .next (
    if s.start.mode = .loader then
      if qp = 0 ∧ key = 0 ∧ s.rd rSTART_LOADER_IP ≠ 0 ∧ va.toNat + data.length ≤ 2 ^ 26 then
        (s.updStart (fun x => { x with fw := Memory.setAll x.fw va.toNat data })).send (.ack 0 psn.toNat)
      else s
    else if s.dead then s
    else s.receive qp.toNat ce psn.toNat data.length (fun (s : State) => s.reAck qp.toNat)
      (fun (last : Nat) (s : State) => s.hostWrite qp.toNat key.toNat va.toNat data psn.toNat last))
/-- COMMAND_WINDOW_WRITE (R365): a WRITE to a window completes at the PSN that its queue pair expects. -/
def execCommandWindowWrite (qp : BitVec 14) (key : BitVec 32) (va : BitVec 64) (descs : List (BitVec 512)) (s : State) :
    Host.Outcome State Fault Refusal :=
  let data := descs.flatMap (fun d => leBytes 64 d.toNat)
  let psn := match s.qps.find? qp.toNat with | some q => q.rqPsn | none => 0
  s.live (s.receive qp.toNat false psn data.length (fun (s : State) => s)
    (fun (last : Nat) (s : State) => s.hostWrite qp.toNat key.toNat va.toNat data psn last))
/-- RDMA_READ (R198). -/
def execRdmaRead (qp : BitVec 14) (ce : Bool) (psn : BitVec 24) (key : BitVec 32) (va : BitVec 64) (len : Nat) (s : State) :
    Host.Outcome State Fault Refusal :=
  let last (s : State) : Nat :=
    match s.qps.find? qp.toNat with | some q => (psn.toNat + q.packets len - 1) % 2 ^ 24 | none => 0
  s.live (s.receive qp.toNat ce psn.toNat len
    (fun (s : State) => s.hostRead qp.toNat key.toNat va.toNat len psn.toNat (last s) true)
    (fun (last : Nat) (s : State) => s.hostRead qp.toNat key.toNat va.toNat len psn.toNat last false))
/-- SEND (R357, Table 14-2): on an inter-pod queue pair it brings a message of its own and is acknowledged (R308); on a bound
one it goes to the intake ring. -/
def execSend (qp : BitVec 14) (ce : Bool) (psn : BitVec 24) (imm : Option (BitVec 32)) (data : List (BitVec 8)) (s : State) :
    Host.Outcome State Fault Refusal :=
  let n := qp.toNat
  s.live (s.receive n ce psn.toNat data.length (fun (s : State) => s.reAck n)
    (fun (last : Nat) (s : State) =>
      if s.gly.xpods.any (fun x => x.qp == n) then (s.rqNext n last).send (.ack n last)
      else s.intake n psn.toNat last imm data))

/-! ### The package as requester (R358) -/

/-- What an acknowledged message brings about: a reply send completes (R280). -/
def State.msgAcked (s : State) (m : QpMsg) : State :=
  match m.use with | .svc c k => s.svcDone c k true | _ => s
/-- Messages sent up to a PSN are acknowledged; the timer runs on for the rest. -/
def State.ackedTo (s : State) (qp psn : Nat) : State :=
  match s.qps.find? qp with
  | none => s
  | some q =>
    let first := (q.unacked.head?.map (·.first)).getD psn
    let done := q.unacked.filter (fun m => decide (psnDist first m.last ≤ psnDist first psn))
    let rest := q.unacked.filter (fun m => !decide (psnDist first m.last ≤ psnDist first psn))
    let s := s.updQp qp (fun q => { q with
      unacked := rest
      retries := 0
      rnrs := 0
      timer := if rest = [] ∨ q.ackTmo = 0 then none else some (s.count + q.ackTmo) })
    done.foldl State.msgAcked s
/-- Whether a PSN lies among those sent and not acknowledged. -/
def Qp.sending (q : Qp) (psn : Nat) : Bool :=
  match q.unacked.head? with
  | some m => decide (psnDist m.first psn < psnDist m.first q.sqPsn)
  | none => false
/-- ACKNOWLEDGE (R358, R388): packets sent are acknowledged, or the responses of READs up to a PSN are. -/
def execAcknowledge (qp : BitVec 14) (psn : BitVec 24) (s : State) : Host.Outcome State Fault Refusal :=
  s.live (match s.qps.find? qp.toNat with
    | some q =>
      if q.err then s
      else if q.sending psn.toNat then s.ackedTo qp.toNat psn.toNat
      else s.updQp qp.toNat (fun q => { q with reads := q.reads.filter (fun r => decide (2 ^ 23 ≤ psnDist r.2 psn.toNat)) })
    | none => s)
/-- Send again from a PSN: the rest of the message that holds it, and every later one (R358). -/
def State.resend (s : State) (qp psn : Nat) : State :=
  match s.qps.find? qp with
  | none => s
  | some q =>
    let first := (q.unacked.head?.map (·.first)).getD psn
    let ms := q.unacked.filter (fun m => decide (psnDist first psn ≤ psnDist first m.last))
    let s := s.updQp qp (fun q => { q with timer := if q.ackTmo = 0 then none else some (s.count + q.ackTmo) })
    ms.foldl (fun (s : State) m =>
      let k := if psnDist first m.first < psnDist first psn then psnDist m.first psn else 0
      s.send (.rdma qp ((m.first + k) % 2 ^ 24) m.kind (m.data.drop (k * q.mtu)))) s
/-- NAK (R358): everything before its PSN is acknowledged; receiver-not-ready and sequence NAKs bring a retransmission until
their retry count is exhausted, any other the error state. -/
def execNak (qp : BitVec 14) (psn : BitVec 24) (syndrome : BitVec 8) (s : State) : Host.Outcome State Fault Refusal :=
  let n := qp.toNat
  let p := psn.toNat
  let syn := syndrome.toNat
  s.live (match s.qps.find? n with
    | none => s
    | some q =>
      if q.err ∨ q.sending p = false then s
      else
        let first := (q.unacked.head?.map (·.first)).getD p
        let s := if p = first then s else s.ackedTo n (psnDist 1 p)
        match s.qps.find? n with
        | none => s
        | some q =>
          if syn / 32 = 1 then
            if q.rnrCnt ≠ 7 ∧ q.rnrCnt ≤ q.rnrs then s.qpFails n 3 0
            else (s.updQp n (fun q => { q with rnrs := q.rnrs + 1 })).resend n p
          else if syn = 0x60 then
            if q.retryCnt ≤ q.retries then s.qpFails n 2 0
            else (s.updQp n (fun q => { q with retries := q.retries + 1 })).resend n p
          else s.qpFails n 1 syn)
/-- ACK_TIMEOUT (R358). -/
def execAckTimeout (qp : BitVec 14) (s : State) : Host.Outcome State Fault Refusal :=
  let n := qp.toNat
  s.live (match s.qps.find? n with
    | none => s
    | some q =>
      match q.timer, q.unacked.head? with
      | some t, some m =>
        if q.err then s
        else
          let s := s.untilDue t
          if q.retryCnt ≤ q.retries then s.qpFails n 2 0
          else (s.updQp n (fun q => { q with retries := q.retries + 1 })).resend n m.first
      | _, _ => s)

/-! ### Rate control (R359) -/

/-- CNP (R359): the rate is cut, at most once in CNP_INTERVAL counts. -/
def execCnp (qp : BitVec 14) (s : State) : Host.Outcome State Fault Refusal :=
  let n := qp.toNat
  s.live (match s.qps.find? n with
    | none => s
    | some q =>
      let s := s.inc rETH_CNP 31 0 q.port
      if q.err ∨ s.count - q.lastCut < s.fld rETH_CC_TIME 15 0 then s
      else s.updQp n (fun q => { q with
        rate := max (q.rate - (q.rate * s.fld rETH_CC_RATE 39 32) / 256) (s.fld rETH_CC_RATE 15 0)
        lastCut := s.count }))
/-- Counts between increases (ETH_CC_TIME). -/
def State.ccStep (s : State) : Nat := max 1 (s.fld rETH_CC_TIME 31 16)
/-- CC_STEP (R359): rates not cut within the last step period rise. -/
def execCcStep (s : State) : Host.Outcome State Fault Refusal :=
  s.live (
    let t := s.eth.ccAt + s.ccStep
    let s := s.untilDue t
    let k := s.ccStep
    { s with
      eth := { s.eth with ccAt := t }
      qps := s.qps.mapV (fun _ q => if k ≤ s.count - q.lastCut then { q with rate := min (q.rate + s.fld rETH_CC_RATE 31 16) 65536 } else q) })

end Sys2Proof.Machine
end

