-- ==== Sys2Proof/Machine/Dispatch.lean ====
section
/-! DEFINITION. One arm per command: the meaning each command has. -/

namespace Sys2Proof.Machine

def exec (i : Instr) (s : State) : Host.Outcome State Fault Refusal :=
  match i with
  | .add u t d a b => Sys2Proof.Machine.execAdd u t d a b s
  | .sub u t d a b => Sys2Proof.Machine.execSub u t d a b s
  | .and_ u t d a b => Sys2Proof.Machine.execAnd u t d a b s
  | .or_ u t d a b => Sys2Proof.Machine.execOr u t d a b s
  | .xor_ u t d a b => Sys2Proof.Machine.execXor u t d a b s
  | .sll u t d a b => Sys2Proof.Machine.execSll u t d a b s
  | .srl u t d a b => Sys2Proof.Machine.execSrl u t d a b s
  | .sra u t d a b => Sys2Proof.Machine.execSra u t d a b s
  | .slt u t d a b => Sys2Proof.Machine.execSlt u t d a b s
  | .sltu u t d a b => Sys2Proof.Machine.execSltu u t d a b s
  | .mul u t d a b => Sys2Proof.Machine.execMul u t d a b s
  | .mulhu u t d a b => Sys2Proof.Machine.execMulhu u t d a b s
  | .mulh u t d a b => Sys2Proof.Machine.execMulh u t d a b s
  | .div u t d a b => Sys2Proof.Machine.execDiv u t d a b s
  | .divu u t d a b => Sys2Proof.Machine.execDivu u t d a b s
  | .rem u t d a b => Sys2Proof.Machine.execRem u t d a b s
  | .remu u t d a b => Sys2Proof.Machine.execRemu u t d a b s
  | .min u t d a b => Sys2Proof.Machine.execMin u t d a b s
  | .max u t d a b => Sys2Proof.Machine.execMax u t d a b s
  | .minu u t d a b => Sys2Proof.Machine.execMinu u t d a b s
  | .maxu u t d a b => Sys2Proof.Machine.execMaxu u t d a b s
  | .popc u t d a b => Sys2Proof.Machine.execPopc u t d a b s
  | .clz u t d a b => Sys2Proof.Machine.execClz u t d a b s
  | .ctz u t d a b => Sys2Proof.Machine.execCtz u t d a b s
  | .addi u t d a imm => Sys2Proof.Machine.execAddi u t d a imm s
  | .andi u t d a imm => Sys2Proof.Machine.execAndi u t d a imm s
  | .ori u t d a imm => Sys2Proof.Machine.execOri u t d a imm s
  | .xori u t d a imm => Sys2Proof.Machine.execXori u t d a imm s
  | .slti u t d a imm => Sys2Proof.Machine.execSlti u t d a imm s
  | .slli u t d a imm => Sys2Proof.Machine.execSlli u t d a imm s
  | .srli u t d a imm => Sys2Proof.Machine.execSrli u t d a imm s
  | .srai u t d a imm => Sys2Proof.Machine.execSrai u t d a imm s
  | .lui u t d imm => Sys2Proof.Machine.execLui u t d imm s
  | .li u t d imm r1 => Sys2Proof.Machine.execLi u t d imm r1 s
  | .lih u t d imm r1 => Sys2Proof.Machine.execLih u t d imm r1 s
  | .br u t c a b off => Sys2Proof.Machine.execBr u t c a b off s
  | .jal u t d imm => Sys2Proof.Machine.execJal u t d imm s
  | .jalr u t d a imm f3 => Sys2Proof.Machine.execJalr u t d a imm f3 s
  | .srd u t d a idx => Sys2Proof.Machine.execSrd u t d a idx s
  | .swr u t d a idx => Sys2Proof.Machine.execSwr u t d a idx s
  | .ld u t sz d a imm => Sys2Proof.Machine.execLd u t sz d a imm s
  | .st u t sz a b imm => Sys2Proof.Machine.execSt u t sz a b imm s
  | .lds u t sz d a imm => Sys2Proof.Machine.execLds u t sz d a imm s
  | .sts u t sz a b imm => Sys2Proof.Machine.execSts u t sz a b imm s
  | .vadd u t et z pg vb va vd => Sys2Proof.Machine.execVadd u t et z pg vb va vd s
  | .vsub u t et z pg vb va vd => Sys2Proof.Machine.execVsub u t et z pg vb va vd s
  | .vmul u t et z pg vb va vd => Sys2Proof.Machine.execVmul u t et z pg vb va vd s
  | .vmin u t et z pg vb va vd => Sys2Proof.Machine.execVmin u t et z pg vb va vd s
  | .vmax u t et z pg vb va vd => Sys2Proof.Machine.execVmax u t et z pg vb va vd s
  | .vminu u t et z pg vb va vd => Sys2Proof.Machine.execVminu u t et z pg vb va vd s
  | .vmaxu u t et z pg vb va vd => Sys2Proof.Machine.execVmaxu u t et z pg vb va vd s
  | .vand u t et z pg vb va vd => Sys2Proof.Machine.execVand u t et z pg vb va vd s
  | .vor u t et z pg vb va vd => Sys2Proof.Machine.execVor u t et z pg vb va vd s
  | .vxor u t et z pg vb va vd => Sys2Proof.Machine.execVxor u t et z pg vb va vd s
  | .vshl u t et z pg vb va vd => Sys2Proof.Machine.execVshl u t et z pg vb va vd s
  | .vshr u t et z pg vb va vd => Sys2Proof.Machine.execVshr u t et z pg vb va vd s
  | .vsra u t et z pg vb va vd => Sys2Proof.Machine.execVsra u t et z pg vb va vd s
  | .vceq u t et z pg vb va vd => Sys2Proof.Machine.execVceq u t et z pg vb va vd s
  | .vclt u t et z pg vb va vd => Sys2Proof.Machine.execVclt u t et z pg vb va vd s
  | .vcltu u t et z pg vb va vd => Sys2Proof.Machine.execVcltu u t et z pg vb va vd s
  | .vfceq u t et z pg vb va vd => Sys2Proof.Machine.execVfceq u t et z pg vb va vd s
  | .vfclt u t et z pg vb va vd => Sys2Proof.Machine.execVfclt u t et z pg vb va vd s
  | .vfcle u t et z pg vb va vd => Sys2Proof.Machine.execVfcle u t et z pg vb va vd s
  | .vfadd u t et z pg vb va vd => Sys2Proof.Machine.execVfadd u t et z pg vb va vd s
  | .vfsub u t et z pg vb va vd => Sys2Proof.Machine.execVfsub u t et z pg vb va vd s
  | .vfmul u t et z pg vb va vd => Sys2Proof.Machine.execVfmul u t et z pg vb va vd s
  | .vfma u t et z pg vb va vd => Sys2Proof.Machine.execVfma u t et z pg vb va vd s
  | .vfmin u t et z pg vb va vd => Sys2Proof.Machine.execVfmin u t et z pg vb va vd s
  | .vfmax u t et z pg vb va vd => Sys2Proof.Machine.execVfmax u t et z pg vb va vd s
  | .vexp u t et z pg vb va vd => Sys2Proof.Machine.execVexp u t et z pg vb va vd s
  | .vlog u t et z pg vb va vd => Sys2Proof.Machine.execVlog u t et z pg vb va vd s
  | .vrcp u t et z pg vb va vd => Sys2Proof.Machine.execVrcp u t et z pg vb va vd s
  | .vrsq u t et z pg vb va vd => Sys2Proof.Machine.execVrsq u t et z pg vb va vd s
  | .vtanh u t et z pg vb va vd => Sys2Proof.Machine.execVtanh u t et z pg vb va vd s
  | .vxpc u t et z pg vb va vd => Sys2Proof.Machine.execVxpc u t et z pg vb va vd s
  | .vredadd u t et z pg vb va vd => Sys2Proof.Machine.execVredadd u t et z pg vb va vd s
  | .vfredadd u t et z pg vb va vd => Sys2Proof.Machine.execVfredadd u t et z pg vb va vd s
  | .vsel u t et z pg vb va vd => Sys2Proof.Machine.execVsel u t et z pg vb va vd s
  | .vperm u t et z pg vb va vd => Sys2Proof.Machine.execVperm u t et z pg vb va vd s
  | .vcvt u t code et z pg vb va vd => Sys2Proof.Machine.execVcvt u t code et z pg vb va vd s
  | .vld u t imm z pg sa vd => Sys2Proof.Machine.execVld u t imm z pg sa vd s
  | .vst u t imm z pg sa vd => Sys2Proof.Machine.execVst u t imm z pg sa vd s
  | .vlds u t imm z pg sa vd => Sys2Proof.Machine.execVlds u t imm z pg sa vd s
  | .vsts u t imm z pg sa vd => Sys2Proof.Machine.execVsts u t imm z pg sa vd s
  | .pand u t pb pa pd => Sys2Proof.Machine.execPand u t pb pa pd s
  | .por u t pb pa pd => Sys2Proof.Machine.execPor u t pb pa pd s
  | .pxor u t pb pa pd => Sys2Proof.Machine.execPxor u t pb pa pd s
  | .pandn u t pb pa pd => Sys2Proof.Machine.execPandn u t pb pa pd s
  | .pnot u t pb pa pd => Sys2Proof.Machine.execPnot u t pb pa pd s
  | .pall u t pb pa pd => Sys2Proof.Machine.execPall u t pb pa pd s
  | .pnone u t pb pa pd => Sys2Proof.Machine.execPnone u t pb pa pd s
  | .vbcast u t lane et sr v => Sys2Proof.Machine.execVbcast u t lane et sr v s
  | .vext u t lane et sr v => Sys2Proof.Machine.execVext u t lane et sr v s
  | .vins u t lane et sr v => Sys2Proof.Machine.execVins u t lane et sr v s
  | .ptos u t lane et sr v => Sys2Proof.Machine.execPtos u t lane et sr v s
  | .stop u t lane et sr v => Sys2Proof.Machine.execStop u t lane et sr v s
  | .pcnt u t lane et sr v => Sys2Proof.Machine.execPcnt u t lane et sr v s
  | .pfirst u t lane et sr v => Sys2Proof.Machine.execPfirst u t lane et sr v s
  | .aclaim u t acc rsv => Sys2Proof.Machine.execAclaim u t acc rsv s
  | .arel u t acc rsv => Sys2Proof.Machine.execArel u t acc rsv s
  | .azero u t acc rsv => Sys2Proof.Machine.execAzero u t acc rsv s
  | .mwait u t acc rsv => Sys2Proof.Machine.execMwait u t acc rsv s
  | .mma u t cont acc sc sb sa fb fa r1 r2 => Sys2Proof.Machine.execMma u t cont acc sc sb sa fb fa r1 r2 s
  | .mst u t acc sa srnd fd r1 r2 => Sys2Proof.Machine.execMst u t acc sa srnd fd r1 r2 s
  | .dma u t sn tag sb sa sl dstSp srcSp r1 r2 => Sys2Proof.Machine.execDma u t sn tag sb sa sl dstSp srcSp r1 r2 s
  | .rld u t sn sb sa sd sc sz r1 r2 => Sys2Proof.Machine.execRld u t sn sb sa sd sc sz r1 r2 s
  | .rst u t sn sb sa sd sc sz r1 r2 => Sys2Proof.Machine.execRst u t sn sb sa sd sc sz r1 r2 s
  | .aadd u t sn sb sa sd sc sz r1 r2 => Sys2Proof.Machine.execAadd u t sn sb sa sd sc sz r1 r2 s
  | .afadd u t sn sb sa sd sc sz r1 r2 => Sys2Proof.Machine.execAfadd u t sn sb sa sd sc sz r1 r2 s
  | .aand u t sn sb sa sd sc sz r1 r2 => Sys2Proof.Machine.execAand u t sn sb sa sd sc sz r1 r2 s
  | .aor u t sn sb sa sd sc sz r1 r2 => Sys2Proof.Machine.execAor u t sn sb sa sd sc sz r1 r2 s
  | .axor u t sn sb sa sd sc sz r1 r2 => Sys2Proof.Machine.execAxor u t sn sb sa sd sc sz r1 r2 s
  | .amin u t sn sb sa sd sc sz r1 r2 => Sys2Proof.Machine.execAmin u t sn sb sa sd sc sz r1 r2 s
  | .amax u t sn sb sa sd sc sz r1 r2 => Sys2Proof.Machine.execAmax u t sn sb sa sd sc sz r1 r2 s
  | .aminu u t sn sb sa sd sc sz r1 r2 => Sys2Proof.Machine.execAminu u t sn sb sa sd sc sz r1 r2 s
  | .amaxu u t sn sb sa sd sc sz r1 r2 => Sys2Proof.Machine.execAmaxu u t sn sb sa sd sc sz r1 r2 s
  | .axchg u t sn sb sa sd sc sz r1 r2 => Sys2Proof.Machine.execAxchg u t sn sb sa sd sc sz r1 r2 s
  | .acas u t sn sb sa sd sc sz r1 r2 => Sys2Proof.Machine.execAcas u t sn sb sa sd sc sz r1 r2 s
  | .vaflt u t pg sa va pd r1 r2 => Sys2Proof.Machine.execVaflt u t pg sa va pd r1 r2 s
  | .tki u t sb pg sa vb va r1 r2 => Sys2Proof.Machine.execTki u t sb pg sa vb va r1 r2 s
  | .nop u t d a b => Sys2Proof.Machine.execNop u t d a b s
  | .endThread u t d a b => Sys2Proof.Machine.execEndThread u t d a b s
  | .brk u t d a b => Sys2Proof.Machine.execBrk u t d a b s
  | .bar u t d a b => Sys2Proof.Machine.execBar u t d a b s
  | .fence u t d a b => Sys2Proof.Machine.execFence u t d a b s
  | .dwait u t d a b => Sys2Proof.Machine.execDwait u t d a b s
  | .vwait u t d a b => Sys2Proof.Machine.execVwait u t d a b s
  | .waite u t d a b => Sys2Proof.Machine.execWaite u t d a b s
  | .vectorEngineExecute u => Sys2Proof.Machine.execVectorEngineExecute u s
  | .matrixEngineExecute u => Sys2Proof.Machine.execMatrixEngineExecute u s
  | .matrixOpComplete u => Sys2Proof.Machine.execMatrixOpComplete u s
  | .loadReturn u t k => Sys2Proof.Machine.execLoadReturn u t k s
  | .writeBufferComplete u k => Sys2Proof.Machine.execWriteBufferComplete u k s
  | .dmaTagComplete u t tag => Sys2Proof.Machine.execDmaTagComplete u t tag s
  | .remoteTimeout die tag => Sys2Proof.Machine.execRemoteTimeout die tag s
  | .waiteTimeout u t => Sys2Proof.Machine.execWaiteTimeout u t s
  | .barrierRelease cl => Sys2Proof.Machine.execBarrierRelease cl s
  | .threadDrained u t => Sys2Proof.Machine.execThreadDrained u t s
  | .groupEnd cl => Sys2Proof.Machine.execGroupEnd cl s
  | .takeGroupNumber die ctx => Sys2Proof.Machine.execTakeGroupNumber die ctx s
  | .placeGroup die ctx => Sys2Proof.Machine.execPlaceGroup die ctx s
  | .deferredWake die rgn => Sys2Proof.Machine.execDeferredWake die rgn s
  | .regionActive die rgn => Sys2Proof.Machine.execRegionActive die rgn s
  | .idleDelayExpiry die rgn => Sys2Proof.Machine.execIdleDelayExpiry die rgn s
  | .offDelayExpiry die rgn => Sys2Proof.Machine.execOffDelayExpiry die rgn s
  | .regionEntryComplete die rgn => Sys2Proof.Machine.execRegionEntryComplete die rgn s
  | .kernelStart ctx => Sys2Proof.Machine.execKernelStart ctx s
  | .persistentRelease ctx => Sys2Proof.Machine.execPersistentRelease ctx s
  | .kernelEnd ctx => Sys2Proof.Machine.execKernelEnd ctx s
  | .katSlice u => Sys2Proof.Machine.execKatSlice u s
  | .katSliceEnd u pass firstDiff => Sys2Proof.Machine.execKatSliceEnd u pass firstDiff s
  | .katInterval u => Sys2Proof.Machine.execKatInterval u s
  | .launch ctx d => Sys2Proof.Machine.execLaunch ctx d s
  | .search ctx d => Sys2Proof.Machine.execSearch ctx d s
  | .gather ctx d => Sys2Proof.Machine.execGather ctx d s
  | .gatherPool ctx d => Sys2Proof.Machine.execGatherPool ctx d s
  | .scatterSet ctx d => Sys2Proof.Machine.execScatterSet ctx d s
  | .scatterAdd ctx d => Sys2Proof.Machine.execScatterAdd ctx d s
  | .publishOpen ctx d => Sys2Proof.Machine.execPublishOpen ctx d s
  | .publishExtent ctx d => Sys2Proof.Machine.execPublishExtent ctx d s
  | .publishShare ctx d => Sys2Proof.Machine.execPublishShare ctx d s
  | .publishSeal ctx d => Sys2Proof.Machine.execPublishSeal ctx d s
  | .publishAbort ctx d => Sys2Proof.Machine.execPublishAbort ctx d s
  | .vintageRetire ctx d => Sys2Proof.Machine.execVintageRetire ctx d s
  | .counterRead ctx d => Sys2Proof.Machine.execCounterRead ctx d s
  | .hubOrderRun ctx => Sys2Proof.Machine.execHubOrderRun ctx s
  | .svcSend ctx d => Sys2Proof.Machine.execSvcSend ctx d s
  | .svcSendAck ctx k => Sys2Proof.Machine.execSvcSendAck ctx k s
  | .contextSet ctx d => Sys2Proof.Machine.execContextSet ctx d s
  | .contextReset ctx d => Sys2Proof.Machine.execContextReset ctx d s
  | .contextAbort ctx d => Sys2Proof.Machine.execContextAbort ctx d s
  | .contextFree ctx d => Sys2Proof.Machine.execContextFree ctx d s
  | .segSet ctx d => Sys2Proof.Machine.execSegSet ctx d s
  | .segRebind ctx d => Sys2Proof.Machine.execSegRebind ctx d s
  | .segDelete ctx d => Sys2Proof.Machine.execSegDelete ctx d s
  | .resume ctx d => Sys2Proof.Machine.execResume ctx d s
  | .faultRecordDelayedPost => Sys2Proof.Machine.execFaultRecordDelayedPost s
  | .serviceTimeout u t => Sys2Proof.Machine.execServiceTimeout u t s
  | .pageRelease die page => Sys2Proof.Machine.execPageRelease die page s
  | .tableSet ctx d => Sys2Proof.Machine.execTableSet ctx d s
  | .svcIntake ctx d => Sys2Proof.Machine.execSvcIntake ctx d s
  | .svcPost ctx d => Sys2Proof.Machine.execSvcPost ctx d s
  | .cohAttach ctx d => Sys2Proof.Machine.execCohAttach ctx d s
  | .qpSet ctx d => Sys2Proof.Machine.execQpSet ctx d s
  | .keySet ctx d => Sys2Proof.Machine.execKeySet ctx d s
  | .cringSet ctx d => Sys2Proof.Machine.execCringSet ctx d s
  | .mapPropose ctx d => Sys2Proof.Machine.execMapPropose ctx d s
  | .keyRevoke ctx d => Sys2Proof.Machine.execKeyRevoke ctx d s
  | .ledgerSet ctx d => Sys2Proof.Machine.execLedgerSet ctx d s
  | .ckptSet ctx d => Sys2Proof.Machine.execCkptSet ctx d s
  | .ckptTake ctx d => Sys2Proof.Machine.execCkptTake ctx d s
  | .ckptRestore ctx d => Sys2Proof.Machine.execCkptRestore ctx d s
  | .commandWindowWrite qp key va descs => Sys2Proof.Machine.execCommandWindowWrite qp key va descs s
  | .sysDesc d => Sys2Proof.Machine.execSysDesc d s
  | .postAreaConsume u t tag => Sys2Proof.Machine.execPostAreaConsume u t tag s
  | .completionWrite ctx ring => Sys2Proof.Machine.execCompletionWrite ctx ring s
  | .freedUpdate ctx which => Sys2Proof.Machine.execFreedUpdate ctx which s
  | .ident ch id sectors version => Sys2Proof.Machine.execIdent ch id sectors version s
  | .readData ch e status bad data => Sys2Proof.Machine.execReadData ch e status bad data s
  | .writeAck ch e status => Sys2Proof.Machine.execWriteAck ch e status s
  | .trimAck ch h => Sys2Proof.Machine.execTrimAck ch h s
  | .status ch st health spare temp => Sys2Proof.Machine.execStatus ch st health spare temp s
  | .error ch hdr => Sys2Proof.Machine.execError ch hdr s
  | .cellarReadTimeout ch tag => Sys2Proof.Machine.execCellarReadTimeout ch tag s
  | .cellarStatusTimeout ch => Sys2Proof.Machine.execCellarStatusTimeout ch s
  | .cellarLinkDownTimeout ch => Sys2Proof.Machine.execCellarLinkDownTimeout ch s
  | .rebuildPeriod => Sys2Proof.Machine.execRebuildPeriod s
  | .cellarScrubPeriod found => Sys2Proof.Machine.execCellarScrubPeriod found s
  | .larderScrub die stack ce ue => Sys2Proof.Machine.execLarderScrub die stack ce ue s
  | .searchForward src ctx d nLists queries => Sys2Proof.Machine.execSearchForward src ctx d nLists queries s
  | .listBatchIssue die ctx => Sys2Proof.Machine.execListBatchIssue die ctx s
  | .listBatchEnd die rgn => Sys2Proof.Machine.execListBatchEnd die rgn s
  | .searchRoundEnd ctx => Sys2Proof.Machine.execSearchRoundEnd ctx s
  | .searchPeerReply ctx peer reply => Sys2Proof.Machine.execSearchPeerReply ctx peer reply s
  | .searchPeerTimeout ctx peer => Sys2Proof.Machine.execSearchPeerTimeout ctx peer s
  | .searchAbort m => Sys2Proof.Machine.execSearchAbort m s
  | .prefetch ctx tab => Sys2Proof.Machine.execPrefetch ctx tab s
  | .embUpdate m => Sys2Proof.Machine.execEmbUpdate m s
  | .endMarker l h ctx tab batch src => Sys2Proof.Machine.execEndMarker l h ctx tab batch src s
  | .collectiveTimeout ctx tab => Sys2Proof.Machine.execCollectiveTimeout ctx tab s
  | .embWindowEnd => Sys2Proof.Machine.execEmbWindowEnd s
  | .shardCountReport ctx tab src count rows => Sys2Proof.Machine.execShardCountReport ctx tab src count rows s
  | .migrationOffer ctx tab peer ver rows => Sys2Proof.Machine.execMigrationOffer ctx tab peer ver rows s
  | .migrationReady ctx tab peer ver slots => Sys2Proof.Machine.execMigrationReady ctx tab peer ver slots s
  | .transfer ctx tab peer ver rows => Sys2Proof.Machine.execTransfer ctx tab peer ver rows s
  | .transferAccepted ctx tab peer ver => Sys2Proof.Machine.execTransferAccepted ctx tab peer ver s
  | .forwardedRequest m isRead => Sys2Proof.Machine.execForwardedRequest m isRead s
  | .intakeFrame qp imm data => Sys2Proof.Machine.execIntakeFrame qp imm data s
  | .linkTrainingComplete l => Sys2Proof.Machine.execLinkTrainingComplete l s
  | .linkTrainingTimeout l => Sys2Proof.Machine.execLinkTrainingTimeout l s
  | .hello l f h => Sys2Proof.Machine.execHello l f h s
  | .helloTimer l => Sys2Proof.Machine.execHelloTimer l s
  | .helloTimeout l => Sys2Proof.Machine.execHelloTimeout l s
  | .dataFlit l f => Sys2Proof.Machine.execDataFlit l f s
  | .idleFlit l f => Sys2Proof.Machine.execIdleFlit l f s
  | .replayRequest l f => Sys2Proof.Machine.execReplayRequest l f s
  | .linkRetryTimeout l => Sys2Proof.Machine.execLinkRetryTimeout l s
  | .glyEnable l en => Sys2Proof.Machine.execGlyEnable l en s
  | .glyRetrain l => Sys2Proof.Machine.execGlyRetrain l s
  | .portState l plane port st role pod => Sys2Proof.Machine.execPortState l plane port st role pod s
  | .rd l h => Sys2Proof.Machine.execRd l h s
  | .wr l h data => Sys2Proof.Machine.execWr l h data s
  | .pwr l h data => Sys2Proof.Machine.execPwr l h data s
  | .rdShelf l h => Sys2Proof.Machine.execRdShelf l h s
  | .wrShelf l h data => Sys2Proof.Machine.execWrShelf l h data s
  | .atomic l h aop data => Sys2Proof.Machine.execAtomic l h aop data s
  | .takeShared l h => Sys2Proof.Machine.execTakeShared l h s
  | .takeOwned l h => Sys2Proof.Machine.execTakeOwned l h s
  | .promote l h => Sys2Proof.Machine.execPromote l h s
  | .giveDirty l h data => Sys2Proof.Machine.execGiveDirty l h data s
  | .giveClean l h => Sys2Proof.Machine.execGiveClean l h s
  | .callShare l h => Sys2Proof.Machine.execCallShare l h s
  | .callDrop l h => Sys2Proof.Machine.execCallDrop l h s
  | .data l h data => Sys2Proof.Machine.execData l h data s
  | .comp l h => Sys2Proof.Machine.execComp l h s
  | .nack l h epoch word => Sys2Proof.Machine.execNack l h epoch word s
  | .retry l h backoff => Sys2Proof.Machine.execRetry l h backoff s
  | .epochHoldTimeout k => Sys2Proof.Machine.execEpochHoldTimeout k s
  | .requestReissue dest => Sys2Proof.Machine.execRequestReissue dest s
  | .planeSwitch dest => Sys2Proof.Machine.execPlaneSwitch dest s
  | .attached l h ctx seg agent tag mode lease => Sys2Proof.Machine.execAttached l h ctx seg agent tag mode lease s
  | .detached l h ctx seg agent tag => Sys2Proof.Machine.execDetached l h ctx seg agent tag s
  | .lease l h mask => Sys2Proof.Machine.execLease l h mask s
  | .leaseAck l h mask => Sys2Proof.Machine.execLeaseAck l h mask s
  | .lost l h mask cause => Sys2Proof.Machine.execLost l h mask cause s
  | .homeTransactionBegin die id => Sys2Proof.Machine.execHomeTransactionBegin die id s
  | .resnoopTimer die id port => Sys2Proof.Machine.execResnoopTimer die id port s
  | .snoopTimeout die id port => Sys2Proof.Machine.execSnoopTimeout die id port s
  | .leaseExpiry port agent => Sys2Proof.Machine.execLeaseExpiry port agent s
  | .cellAdmit inp out cls owner first ip => Sys2Proof.Machine.execCellAdmit inp out cls owner first ip s
  | .frameAdmit inp out cls owner bytes ecn ip => Sys2Proof.Machine.execFrameAdmit inp out cls owner bytes ecn ip s
  | .cellDepart out => Sys2Proof.Machine.execCellDepart out s
  | .partitionSlotEnd => Sys2Proof.Machine.execPartitionSlotEnd s
  | .meterWrite m v => Sys2Proof.Machine.execMeterWrite m v s
  | .ethLinkUp e => Sys2Proof.Machine.execEthLinkUp e s
  | .ethLinkDown e => Sys2Proof.Machine.execEthLinkDown e s
  | .ethRetrain e => Sys2Proof.Machine.execEthRetrain e s
  | .ethSplit n split => Sys2Proof.Machine.execEthSplit n split s
  | .frameReceive e f => Sys2Proof.Machine.execFrameReceive e f s
  | .pfcFrame e prio quanta heldTo => Sys2Proof.Machine.execPfcFrame e prio quanta heldTo s
  | .pauseFrame e => Sys2Proof.Machine.execPauseFrame e s
  | .pfcQuantaExpiry e prio => Sys2Proof.Machine.execPfcQuantaExpiry e prio s
  | .lldpdu e chassis portId ttl tlv => Sys2Proof.Machine.execLldpdu e chassis portId ttl tlv s
  | .lldpTxTimer e => Sys2Proof.Machine.execLldpTxTimer e s
  | .lldpTtlExpiry e => Sys2Proof.Machine.execLldpTtlExpiry e s
  | .partnerReport pkg kind num arrival partner => Sys2Proof.Machine.execPartnerReport pkg kind num arrival partner s
  | .arpRequest e ip mac sip => Sys2Proof.Machine.execArpRequest e ip mac sip s
  | .neighbourSolicitation e ip mac sip => Sys2Proof.Machine.execNeighbourSolicitation e ip mac sip s
  | .send qp ce psn imm data => Sys2Proof.Machine.execSend qp ce psn imm data s
  | .rdmaWrite qp ce psn key va data => Sys2Proof.Machine.execRdmaWrite qp ce psn key va data s
  | .rdmaRead qp ce psn key va len => Sys2Proof.Machine.execRdmaRead qp ce psn key va len s
  | .acknowledge qp psn => Sys2Proof.Machine.execAcknowledge qp psn s
  | .nak qp psn syndrome => Sys2Proof.Machine.execNak qp psn syndrome s
  | .cnp qp => Sys2Proof.Machine.execCnp qp s
  | .ackTimeout qp => Sys2Proof.Machine.execAckTimeout qp s
  | .ccStep => Sys2Proof.Machine.execCcStep s
  | .mapAppend src epoch term p => Sys2Proof.Machine.execMapAppend src epoch term p s
  | .mapAck src epoch term => Sys2Proof.Machine.execMapAck src epoch term s
  | .mapNack src epoch term status => Sys2Proof.Machine.execMapNack src epoch term status s
  | .mapCommit src epoch term => Sys2Proof.Machine.execMapCommit src epoch term s
  | .mapAbandon src epoch term status => Sys2Proof.Machine.execMapAbandon src epoch term status s
  | .mapCommitTimeout => Sys2Proof.Machine.execMapCommitTimeout s
  | .epochApply => Sys2Proof.Machine.execEpochApply s
  | .epochDrain => Sys2Proof.Machine.execEpochDrain s
  | .mapHeartbeat src epoch term table => Sys2Proof.Machine.execMapHeartbeat src epoch term table s
  | .heartbeatTimer => Sys2Proof.Machine.execHeartbeatTimer s
  | .heartbeatLoss pkg => Sys2Proof.Machine.execHeartbeatLoss pkg s
  | .logCatchUp src epoch term p => Sys2Proof.Machine.execLogCatchUp src epoch term p s
  | .ownershipDispute state a b va vb aOwn bOwn reachA reachB => Sys2Proof.Machine.execOwnershipDispute state a b va vb aOwn bOwn reachA reachB s
  | .ownerSet state owner ver => Sys2Proof.Machine.execOwnerSet state owner ver s
  | .chargeRecordTimer => Sys2Proof.Machine.execChargeRecordTimer s
  | .revocationComplete k => Sys2Proof.Machine.execRevocationComplete k s
  | .packageQuiescent tag => Sys2Proof.Machine.execPackageQuiescent tag s
  | .quiescent tag src round held => Sys2Proof.Machine.execQuiescent tag src round held s
  | .roundClose tag round => Sys2Proof.Machine.execRoundClose tag round s
  | .exactSumResume die k => Sys2Proof.Machine.execExactSumResume die k s
  | .ckptInterval tag => Sys2Proof.Machine.execCkptInterval tag s
  | .freeze tag n => Sys2Proof.Machine.execFreeze tag n s
  | .drainComplete tag => Sys2Proof.Machine.execDrainComplete tag s
  | .drained tag n src => Sys2Proof.Machine.execDrained tag n src s
  | .copy tag n => Sys2Proof.Machine.execCopy tag n s
  | .staged tag n src => Sys2Proof.Machine.execStaged tag n src s
  | .ckptCommit tag n => Sys2Proof.Machine.execCkptCommit tag n s
  | .ckptAbort tag n => Sys2Proof.Machine.execCkptAbort tag n s
  | .ckptTimeout tag => Sys2Proof.Machine.execCkptTimeout tag s
  | .restore tag n => Sys2Proof.Machine.execRestore tag n s
  | .spareSwitchIn die rgn cl unit whole => Sys2Proof.Machine.execSpareSwitchIn die rgn cl unit whole s
  | .healthSaveTimer => Sys2Proof.Machine.execHealthSaveTimer s
  | .rattleUnlock => Sys2Proof.Machine.execRattleUnlock s
  | .rattleLock => Sys2Proof.Machine.execRattleLock s
  | .rattleInject => Sys2Proof.Machine.execRattleInject s
  | .pwrfailNFall => Sys2Proof.Machine.execPwrfailNFall s
  | .powerFailFlushDone => Sys2Proof.Machine.execPowerFailFlushDone s
  | .pwrfailNRise => Sys2Proof.Machine.execPwrfailNRise s
  | .tokenRefill => Sys2Proof.Machine.execTokenRefill s
  | .suppressNote code => Sys2Proof.Machine.execSuppressNote code s
  | .irqLeafWrite g j v => Sys2Proof.Machine.execIrqLeafWrite g j v s
  | .pwrTripWrite v => Sys2Proof.Machine.execPwrTripWrite v s
  | .standbySupplyApplied => Sys2Proof.Machine.execStandbySupplyApplied s
  | .porstNFall => Sys2Proof.Machine.execPorstNFall s
  | .porstNRelease => Sys2Proof.Machine.execPorstNRelease s
  | .warmN counts => Sys2Proof.Machine.execWarmN counts s
  | .startCtrlCold => Sys2Proof.Machine.execStartCtrlCold s
  | .startCtrlWarm => Sys2Proof.Machine.execStartCtrlWarm s
  | .startCtrlLoader => Sys2Proof.Machine.execStartCtrlLoader s
  | .fwCommit => Sys2Proof.Machine.execFwCommit s
  | .startStepComplete ok cause => Sys2Proof.Machine.execStartStepComplete ok cause s
  | .startStepTimeout => Sys2Proof.Machine.execStartStepTimeout s
  | .startRejoinTimeout => Sys2Proof.Machine.execStartRejoinTimeout s
  | .refclkLoss => Sys2Proof.Machine.execRefclkLoss s
  | .refclkReturn => Sys2Proof.Machine.execRefclkReturn s
  | .throttle die rgn temp => Sys2Proof.Machine.execThrottle die rgn temp s
  | .thermTrip die temp => Sys2Proof.Machine.execThermTrip die temp s
  | .avsFault die st => Sys2Proof.Machine.execAvsFault die st s
  | .voltageStep die up => Sys2Proof.Machine.execVoltageStep die up s
  | .railFault die mv => Sys2Proof.Machine.execRailFault die mv s
  | .enroll => Sys2Proof.Machine.execEnroll s
  | .svnCommit => Sys2Proof.Machine.execSvnCommit s
  | .debugUnlock => Sys2Proof.Machine.execDebugUnlock s
  | .spiUnlock => Sys2Proof.Machine.execSpiUnlock s
  | .spiLock => Sys2Proof.Machine.execSpiLock s
  | .attestGo => Sys2Proof.Machine.execAttestGo s
  | .attestDone => Sys2Proof.Machine.execAttestDone s
  | .linkKeyWrite n v => Sys2Proof.Machine.execLinkKeyWrite n v s
  | .spiRead off len => Sys2Proof.Machine.execSpiRead off len s
  | .spiWrite off data => Sys2Proof.Machine.execSpiWrite off data s
  | .i3cPrivateWrite off => Sys2Proof.Machine.execI3cPrivateWrite off s
  | .i3cPrivateRead len => Sys2Proof.Machine.execI3cPrivateRead len s
  | .entdaa addr => Sys2Proof.Machine.execEntdaa addr s
  | .sensorRefresh => Sys2Proof.Machine.execSensorRefresh s
  | .extest => Sys2Proof.Machine.execExtest s
  | .samplePreload v => Sys2Proof.Machine.execSamplePreload v s
  | .idcode => Sys2Proof.Machine.execIdcode s
  | .bypass => Sys2Proof.Machine.execBypass s
  | .registerWrite off v => Sys2Proof.Machine.execRegisterWrite off v s
  | .regionFault die rgn cause => Sys2Proof.Machine.execRegionFault die rgn cause s
  | .temperatureBandChange die rgn temp => Sys2Proof.Machine.execTemperatureBandChange die rgn temp s
  | .ethEnable e en => Sys2Proof.Machine.execEthEnable e en s
  | .reproDefaultsWrite v => Sys2Proof.Machine.execReproDefaultsWrite v s
  | .standbySupplyLoss => Sys2Proof.Machine.execStandbySupplyLoss s
  | .proposalForward src p => Sys2Proof.Machine.execProposalForward src p s
  | .replacementComplete die rgn => Sys2Proof.Machine.execReplacementComplete die rgn s

end Sys2Proof.Machine
end

