-- ==== Sys2Proof/Machine/Tick.lean ====
section
/-! DEFINITION. One tick of the 25 MHz local clock (R7). -/

namespace Sys2Proof.Machine

/-- The local count advances by one while standby supply is present (R7, R468). -/
def State.clock (s : State) : State := if s.start.mode = .off then s else s.pass 1

end Sys2Proof.Machine
end

