-- ==== Sys2Proof/Safety.lean ====
section
/-! DEFINITION. The terms in which claims speak: a safe step, the well-formedness of the state's memories, when a thread
issues, and what a step leaves unchanged. -/

namespace Sys2Proof.Machine

/-- A step that stops on nothing. -/
def Safe (s : State) : Prop := ∃ t, step s = .next t

/-- The byte memories keep their canonical form. -/
def State.Wf (s : State) : Prop := Memory.wf s.larder = true ∧ Memory.wf s.shelf = true

/-- A command answers a next state, and that state has a property. -/
def Yields (s : State) (i : Instr) (p : State → Prop) : Prop := ∃ r, exec i s = .next r ∧ p r

/-- The next instruction of a thread, `len` bytes long, issues now: the package runs, the unit exists, the issue stage
selects the slot (R39), the fetch passes and has come (R76), its lines are clean, no error lies on them, in the region cache
or in the control path of the unit's engines (R155, R416, R417), what the instruction needs is there (R41, R42) and no register
that it reads holds a mark (R108). -/
structure State.Issues (s : State) (u t len : Nat) (w : Want) (srcs : List Reg) : Prop where
  runs : s.dead = false
  unit : s.unitOk u = true
  chosen : s.selected u t = true
  fetch : s.fetchCheck (s.thr u t).ctx (s.thr u t).pc.toNat len = none
  here : s.absent (s.thr u t).ctx (s.thr u t).pc.toNat = false
  came : s.fetchFar (s.thr u t).ctx (s.thr u t).pc.toNat len = true →
    s.fetchCame u t (s.thr u t).ctx (s.thr u t).pc.toNat len = true
  clean : (s.fetched u t len).1 = false
  whole : s.issueFlaw u (s.thr u t).ctx (s.thr u t).pc.toNat len = false
  free : (s.unt u).wantOk t w = true
  sound : ∀ r ∈ srcs, (s.thr u t).mark? r = none

/-- Everything but the units is as it was, and so is every unit but `u`. -/
def State.OnlyUnit (s r : State) (u : Nat) : Prop :=
  { r with units := s.units } = s ∧ ∀ v, v ≠ u → r.unt v = s.unt v

/-- A unit whose thread `t` has issued an instruction of `len` bytes: the pointer moves on and the pc past it (R39). -/
def Unt.past (x : Unt) (t len : Nat) : Unt :=
  ({ x with ptr := (t + 1) % 8 }).setThr t { x.thr t with pc := (x.thr t).pc + BitVec.ofNat 64 len }

/-- An instruction of a thread had an effect on its unit alone, beside its fetch: `f` of the unit from which it has issued.
The number of free choices, the model's own, may have advanced. -/
def State.Ran (s r : State) (u t len : Nat) (f : Unt → Unt) : Prop :=
  let q := s.atIssue u t len
  q.OnlyUnit { r with nonce := q.nonce } u ∧ r.unt u = f ((q.unt u).past t len)

/-- The same, for an instruction that changes only its own thread. -/
def State.RanThr (s r : State) (u t len : Nat) (f : Thread → Thread) : Prop :=
  s.Ran r u t len (fun x => x.setThr t (f (x.thr t)))

/-- The checks of one end of a DMA that pass (R94): in the unit's own Shelf (0) and in another unit's (2), inside the Shelf; a
program address, here (1) or of a package named by `sn` (3) that is this one, granted, present and, written, outside the post
areas; the package named exists, and a unit of this one is in the kernel's region set. -/
def State.DmaMay (s : State) (c sp a n perm : Nat) (sn : Word) (post : Bool) : Prop :=
  let here : Prop := s.segCheck c a n perm = none ∧ s.absent c a = false ∧
    (perm = permR ∨ post = true ∨ s.postHit c a n = false)
  let pkg := bits sn.toNat 35 20
  let unit := bits sn.toNat 19 0
  (sp = 0 ∧ a + n ≤ 16384) ∨ (sp = 1 ∧ here) ∨
  (sp = 2 ∧ bits sn.toNat 35 26 ≤ 767 ∧ a + n ≤ 16384 ∧
    (pkg = s.self → s.unitOk unit = true ∧ s.inRegionSet c unit = true)) ∨
  (sp = 3 ∧ bits sn.toNat 35 26 ≤ 767 ∧ a % 2 ^ 60 + n ≤ 2 ^ 48 ∧ (pkg = s.self → here))

/-- A descriptor as it is consumed from a window, with its opcode set. -/
def descOf (op : Nat) (d : Vec) : QDesc :=
  { op := dOp (withOp op d), seq := dSeq (withOp op d), d := withOp op d, sys := false, status := none, post := none, fwd := none }

/-- The state once the descriptor that context `c` expects next has been counted and its SEQ passed (R365). -/
def State.consumed (s : State) (c : Nat) : State :=
  (s.inc rETH_DESC 63 0).updCtx c (fun x => { x with nextSeq := ((s.ctx c).nextSeq + 1) % 2 ^ 32 })

/-- The package runs, the descriptor has the SEQ that the window expects, the context is not halted, and an Unset one takes
the descriptor. -/
structure State.Consumes (s : State) (c op : Nat) (d : Vec) : Prop where
  runs : s.dead = false
  seq : dSeq (withOp op d) = (s.ctx c).nextSeq
  running : (s.ctx c).st ≠ .halted
  own : (s.ctx c).st = .unset → unsetTakes c op (withOp op d) = true

/-- The same, for a descriptor that is queued: the context is set, and fewer than 1,024 descriptors are open. -/
structure State.Queues (s : State) (c op : Nat) (d : Vec) : Prop where
  takes : s.Consumes c op d
  room : s.openDescs c < 1024
  known : (s.ctx c).st ≠ .unset

/-- Control descriptor `op` of the window of context `c` is consumed, leaves `q` and completes with OK and a DETAIL. -/
def State.Does (s : State) (i : Instr) (c op : Nat) (d : Vec) (detail : Nat) (q : State) : Prop :=
  exec i s = .next (q.complete c (descOf op d) { status := stOK, detail := detail })

/-- Control descriptor `op` of the window of context `c` is consumed and completes with a status other than OK. -/
def State.Denies (s : State) (i : Instr) (c op : Nat) (d : Vec) (status : Nat) : Prop :=
  exec i s = .next ((s.consumed c).complete c (descOf op d) { status := status })

/-- The commands that are descriptors of a context's window, with their opcodes (Table 14-4). -/
def windowCommands : List (Nat × (BitVec 12 → BitVec 512 → Instr)) :=
  [(0x1, .launch), (0x2, .search), (0x3, .gather), (0x4, .gatherPool), (0x5, .scatterSet), (0x6, .scatterAdd),
   (0x10, .publishOpen), (0x11, .publishExtent), (0x12, .publishShare), (0x13, .publishSeal), (0x14, .publishAbort),
   (0x15, .vintageRetire), (0x16, .counterRead), (0x18, .svcSend), (0x20, .contextSet), (0x21, .contextReset),
   (0x22, .contextAbort), (0x23, .contextFree), (0x24, .segSet), (0x25, .segRebind), (0x26, .segDelete), (0x27, .resume),
   (0x28, .tableSet), (0x29, .svcIntake), (0x2A, .svcPost), (0x2B, .cohAttach), (0x2C, .qpSet), (0x2D, .keySet),
   (0x2E, .cringSet), (0x100, .mapPropose), (0x101, .keyRevoke), (0x102, .ledgerSet), (0x200, .ckptSet),
   (0x201, .ckptTake), (0x202, .ckptRestore)]

/-- Every byte of the two memories reads as it did. -/
def State.SameMem (s r : State) : Prop :=
  (∀ a, Memory.get r.larder a = Memory.get s.larder a) ∧ ∀ a, Memory.get r.shelf a = Memory.get s.shelf a

end Sys2Proof.Machine
end

