-- ==== Sys2Proof/Certificates/Slice0/Obligations.lean ====
section
/-! DEFINITION. The statements for the provers: what the commands of the block do, one statement a group, and the invariants
of its step. -/

open Sys2Proof Sys2Proof.Machine

/-! ### The machine as a whole -/

/-- The step of a state with a command in front of its queue is `exec` of that command on the state with the rest of the
queue. With no command waiting, the step is one tick of the local clock: the count rises by one while standby supply is
present, and nothing but the count and the charge totals of the map changes (the model's choice: log entry 1). -/
def Obligations.StepRunsTheFrontCommandOrTicks : Prop :=
  (∀ (c : Instr) (l : List Instr) (s : State), step { s with pending := c :: l } = exec c { s with pending := l }) ∧
  (∀ s : State, s.pending = [] → ∃ r, step s = .next r ∧
     r.count = (if s.start.mode = .off then s.count else (s.count + 1) % 2 ^ 64) ∧
     { r with count := s.count, map := { r.map with charge := s.map.charge } } = s)

/-- After reset the package waits in step 1 of a cold start with nothing commanded, every memory byte reads zero, every unit
has eight empty threads and unheld, unset accumulators, and every control register reads its reset value (the values that
the manual does not state are the model's: log entries 2 and 3). At reset both byte memories have their canonical form. -/
def Obligations.ResetLeavesEverythingEmpty : Prop :=
  (State.reset.pending = [] ∧ State.reset.count = 0 ∧ State.reset.start.mode = .starting ∧ State.reset.start.step = 1 ∧
   (∀ a, Memory.get State.reset.larder a = 0 ∧ Memory.get State.reset.shelf a = 0) ∧
   (∀ u t, (State.reset.thr u t).st = .empty) ∧
   (∀ u n, ((State.reset.unt u).accu n).holder = none ∧ ((State.reset.unt u).accu n).fmt = 0) ∧
   (∀ (r : RegDef) (i j : Nat), State.reset.rd r i j = r.resetAt i j) ∧
   (∀ c, c ≠ 0 → (State.reset.ctx c).st = .unset) ∧ (State.reset.ctx 0).st = .idle ∧
   State.reset.map.podPkg = none ∧ State.reset.map.epoch = 0 ∧ State.reset.tx = []) ∧
  (State.reset.Wf)

/-- Every step keeps the canonical form of both byte memories: addresses strictly rising and no listed byte zero. No step
changes what the part was made as: its grade, its unique addresses, the digests of its fused keys, its identity and its
certificate. -/
def Obligations.EveryStepKeepsMemoriesAndPart : Prop :=
  (∀ s t : State, s.Wf → step s = .next t → t.Wf) ∧
  (∀ s t : State, step s = .next t → t.part = s.part)

/-- A package that is in standby, has failed, has lost its clock, is in the recovery loader or has no supply runs nothing:
no instruction, engine, descriptor, message, port or map command changes its state. -/
def Obligations.PackageThatIsDownRunsNothing : Prop :=
  ∀ s : State, s.dead = true →
    (∀ u t d a b, s.unitOk u.toNat = true → exec (.add u t d a b) s = .next s) ∧
    (∀ u, s.unitOk u.toNat = true → exec (.vectorEngineExecute u) s = .next s ∧ exec (.matrixEngineExecute u) s = .next s) ∧
    (∀ c d, exec (.launch c d) s = .next s ∧ exec (.segSet c d) s = .next s ∧ exec (.contextSet c d) s = .next s) ∧
    (∀ d, exec (.sysDesc d) s = .next s) ∧
    (∀ c, exec (.kernelStart c) s = .next s ∧ exec (.kernelEnd c) s = .next s ∧ exec (.hubOrderRun c) s = .next s) ∧
    (∀ l h, exec (.rd l h) s = .next s ∧ exec (.takeShared l h) s = .next s) ∧
    (∀ l h b, exec (.wr l h b) s = .next s) ∧
    (∀ l f h, exec (.hello l f h) s = .next s ∧ exec (.dataFlit l f) s = .next s) ∧
    (∀ c i v n h st bad, exec (.ident c i v n) s = .next s ∧ exec (.readData c h st bad []) s = .next s) ∧
    (∀ e f, exec (.frameReceive e f) s = .next s) ∧
    (∀ q ce p i b, exec (.send q ce p i b) s = .next s) ∧
    (∀ src e t p, exec (.mapAppend src e t p) s = .next s ∧ exec (.mapCommit src e t) s = .next s) ∧
    (∀ tag n, exec (.freeze tag n) s = .next s ∧ exec (.restore tag n) s = .next s) ∧
    exec .rattleInject s = .next s ∧ exec .attestGo s = .next s ∧ exec .enroll s = .next s

/-! ### The scalar engine -/

/-- A scalar register write: `d` takes the value, except that s0 discards it; every other scalar register keeps its own, and
s0 reads zero. The 24 register operations of SALU (Table 03-7): when the instruction issues, `d` receives the operation's
result, the pc moves past the instruction, and nothing else changes. -/
def Obligations.ScalarOperationsWriteTheirResult : Prop :=
  (∀ (th : Thread) (d : BitVec 5) (v : Word),
     (∀ i : BitVec 5, (th.setS d.toNat v).gs i.toNat = if i = d ∧ d ≠ 0 then v else th.gs i.toNat) ∧ th.gs 0 = 0 ∧
     (∀ i, (th.setS d.toNat v).gv i = th.gv i ∧ (th.setS d.toNat v).gp i = th.gp i) ∧
     (∀ p i : Fin 8, (th.setP p.val v).gp i.val = if i = p ∧ p ≠ 0 then v else th.gp i.val) ∧ th.gp 0 = BitVec.allOnes 64 ∧
     (th.setS d.toNat v).pc = th.pc ∧ (th.setS d.toNat v).st = th.st ∧ (th.setS d.toNat v).vflags = th.vflags ∧
     (th.setS d.toNat v).fpctl = th.fpctl ∧ (th.setS d.toNat v).rtmo = th.rtmo) ∧
  (∀ (u : BitVec 20) (t : BitVec 3) (d a b : BitVec 5) (s : State),
     let x := (s.thr u.toNat t.toNat).gs a.toNat
     let y := (s.thr u.toNat t.toNat).gs b.toNat
     let gives (i : Instr) (v : Word) : Prop := Yields s i (fun r => s.RanThr r u.toNat t.toNat 4 (·.setS d.toNat v))
     s.Issues u.toNat t.toNat 4 (wantS [d.toNat, a.toNat, b.toNat]) [.s a.toNat, .s b.toNat] →
       gives (.add u t d a b) (x + y) ∧ gives (.sub u t d a b) (x - y) ∧ gives (.and_ u t d a b) (x &&& y) ∧
       gives (.or_ u t d a b) (x ||| y) ∧ gives (.xor_ u t d a b) (x ^^^ y) ∧
       gives (.sll u t d a b) (x <<< (y.toNat % 64)) ∧ gives (.srl u t d a b) (x >>> (y.toNat % 64)) ∧
       gives (.sra u t d a b) (x.sshiftRight (y.toNat % 64)) ∧
       gives (.slt u t d a b) (if x.toInt < y.toInt then 1 else 0) ∧
       gives (.sltu u t d a b) (if x.toNat < y.toNat then 1 else 0) ∧
       gives (.mul u t d a b) (BitVec.ofNat 64 (x.toNat * y.toNat)) ∧
       gives (.mulhu u t d a b) (BitVec.ofNat 64 (x.toNat * y.toNat / 2 ^ 64)) ∧
       gives (.mulh u t d a b) (BitVec.ofInt 64 (x.toInt * y.toInt / 2 ^ 64)) ∧
       gives (.div u t d a b) (if y = 0 then BitVec.allOnes 64 else BitVec.ofInt 64 (x.toInt.tdiv y.toInt)) ∧
       gives (.divu u t d a b) (if y = 0 then BitVec.allOnes 64 else BitVec.ofNat 64 (x.toNat / y.toNat)) ∧
       gives (.rem u t d a b) (if y = 0 then x else BitVec.ofInt 64 (x.toInt.tmod y.toInt)) ∧
       gives (.remu u t d a b) (if y = 0 then x else BitVec.ofNat 64 (x.toNat % y.toNat)) ∧
       gives (.min u t d a b) (if x.toInt < y.toInt then x else y) ∧
       gives (.max u t d a b) (if x.toInt < y.toInt then y else x) ∧
       gives (.minu u t d a b) (if x.toNat < y.toNat then x else y) ∧
       gives (.maxu u t d a b) (if x.toNat < y.toNat then y else x) ∧
       (b ≠ 0 → ∀ i, i = Instr.popc u t d a b ∨ i = .clz u t d a b ∨ i = .ctz u t d a b →
         ∃ w, Yields s i (fun r => r = (s.atIssue u.toNat t.toNat 4).takeExc u.toNat t.toNat 0x01 w)) ∧
       (b = 0 → gives (.popc u t d a b) (BitVec.ofNat 64 ((List.range 64).countP (fun i => x.getLsbD i))) ∧
         gives (.clz u t d a b) (BitVec.ofNat 64 (((List.range 64).find? (fun i => x.getLsbD (63 - i))).getD 64)) ∧
         gives (.ctz u t d a b) (BitVec.ofNat 64 (((List.range 64).find? (fun i => x.getLsbD i)).getD 64))))

/-- The immediate forms, LUI, LI and LIH: the immediate is sign-extended; a shift count of 64 or more raises ILLEGAL; LI and
LIH are eight bytes long. -/
def Obligations.ScalarImmediatesWriteTheirResult : Prop :=
  ∀ (u : BitVec 20) (t : BitVec 3) (d a : BitVec 5) (s : State),
    let th := s.thr u.toNat t.toNat
    let x := th.gs a.toNat
    let gives (i : Instr) (len : Nat) (v : Word) : Prop :=
      Yields s i (fun r => s.RanThr r u.toNat t.toNat len (·.setS d.toNat v))
    (s.Issues u.toNat t.toNat 4 (wantS [d.toNat, a.toNat]) [.s a.toNat] →
      (∀ imm : BitVec 12,
        let y : Word := imm.signExtend 64
        gives (.addi u t d a imm) 4 (x + y) ∧ gives (.andi u t d a imm) 4 (x &&& y) ∧ gives (.ori u t d a imm) 4 (x ||| y) ∧
        gives (.xori u t d a imm) 4 (x ^^^ y) ∧ gives (.slti u t d a imm) 4 (if x.toInt < y.toInt then 1 else 0) ∧
        (imm.toNat < 64 → gives (.slli u t d a imm) 4 (x <<< imm.toNat) ∧ gives (.srli u t d a imm) 4 (x >>> imm.toNat) ∧
          gives (.srai u t d a imm) 4 (x.sshiftRight imm.toNat)) ∧
        (64 ≤ imm.toNat → ∀ i, i = Instr.slli u t d a imm ∨ i = .srli u t d a imm ∨ i = .srai u t d a imm →
          ∃ w, Yields s i (fun r => r = (s.atIssue u.toNat t.toNat 4).takeExc u.toNat t.toNat 0x01 w)))) ∧
    (s.Issues u.toNat t.toNat 4 (wantS [d.toNat]) [] →
      ∀ imm : BitVec 20, gives (.lui u t d imm) 4 ((imm ++ (0 : BitVec 12)).signExtend 64)) ∧
    (s.Issues u.toNat t.toNat 8 (wantS [d.toNat]) [] → ∀ imm : BitVec 32, gives (.li u t d imm 0) 8 (imm.signExtend 64)) ∧
    (s.Issues u.toNat t.toNat 8 (wantS [d.toNat, d.toNat]) [.s d.toNat] →
      ∀ imm : BitVec 32, gives (.lih u t d imm 0) 8 (imm ++ (th.gs d.toNat).extractLsb' 0 32))

/-- Branches and jumps: a taken branch goes to its own address plus four times the offset; JAL and JALR link the address of
the next instruction; a JALR target that is not a multiple of 4 raises MISALIGNED with the target as its detail. -/
def Obligations.BranchesAndJumpsSetThePc : Prop :=
  ∀ (u : BitVec 20) (t : BitVec 3) (s : State),
    let th := s.thr u.toNat t.toNat
    (∀ (c a b : BitVec 5) (off : BitVec 10),
      let x := th.gs a.toNat
      let y := th.gs b.toNat
      let taken : Prop := (c = 0 ∧ x = y) ∨ (c = 1 ∧ x ≠ y) ∨ (c = 2 ∧ x.toInt < y.toInt) ∨ (c = 3 ∧ y.toInt ≤ x.toInt) ∨
        (c = 4 ∧ x.toNat < y.toNat) ∨ (c = 5 ∧ y.toNat ≤ x.toNat)
      let goes (p : Word) : Prop := Yields s (.br u t c a b off) (fun r => s.RanThr r u.toNat t.toNat 4 (fun h => { h with pc := p }))
      c.toNat ≤ 5 → s.Issues u.toNat t.toNat 4 (wantS [a.toNat, b.toNat]) [.s a.toNat, .s b.toNat] →
        (taken → goes (th.pc + off.signExtend 64 * 4)) ∧ (¬taken → goes (th.pc + 4))) ∧
    (∀ (c a b : BitVec 5) (off : BitVec 10), 5 < c.toNat →
      s.Issues u.toNat t.toNat 4 (wantS [a.toNat, b.toNat]) [.s a.toNat, .s b.toNat] →
        ∃ w, Yields s (.br u t c a b off) (fun r => r = (s.atIssue u.toNat t.toNat 4).takeExc u.toNat t.toNat 0x01 w)) ∧
    (∀ (d : BitVec 5) (imm : BitVec 20), s.Issues u.toNat t.toNat 4 (wantS [d.toNat]) [] →
      Yields s (.jal u t d imm) (fun r => s.RanThr r u.toNat t.toNat 4
        (fun h => { h.setS d.toNat (th.pc + 4) with pc := th.pc + imm.signExtend 64 * 4 }))) ∧
    (∀ (d a : BitVec 5) (imm : BitVec 12), s.Issues u.toNat t.toNat 4 (wantS [d.toNat, a.toNat]) [.s a.toNat] →
      let target := th.gs a.toNat + imm.signExtend 64
      (target.toNat % 4 = 0 → Yields s (.jalr u t d a imm 0) (fun r => s.RanThr r u.toNat t.toNat 4
        (fun h => { h.setS d.toNat (th.pc + 4) with pc := target }))) ∧
      (target.toNat % 4 ≠ 0 → Yields s (.jalr u t d a imm 0) (fun r => r = (s.atIssue u.toNat t.toNat 4).takeExc u.toNat t.toNat 0x06 target)))

/-- SRD copies a special register into `d`; SWR writes one that may be written, when no bit outside its fields is set; a
read-only or undefined register raises SPECIAL with its index as detail. -/
def Obligations.SpecialRegistersReadAndWrite : Prop :=
  ∀ (u : BitVec 20) (t : BitVec 3) (s : State),
    let u' := u.toNat
    let t' := t.toNat
    let th := s.thr u' t'
    let reads (d : BitVec 5) (idx : BitVec 12) (v : Word) : Prop :=
      Yields s (.srd u t d 0 idx) (fun r => r.nonce = (s.atIssue u' t' 4).nonce + 1 ∧ s.RanThr r u' t' 4 (·.setS d.toNat v))
    let writes (a : BitVec 5) (idx : BitVec 12) (f : Thread → Thread) : Prop :=
      Yields s (.swr u t 0 a idx) (fun r => s.RanThr r u' t' 4 f)
    (∀ d : BitVec 5, s.Issues u' t' 4 (wantS [d.toNat]) [] →
      reads d 0x000 (w64 th.tid) ∧ reads d 0x001 (w64 th.group) ∧ reads d 0x002 (w64 (dGroups (s.kdesc th.ctx))) ∧
      reads d 0x003 (w64 (dThreads (s.kdesc th.ctx))) ∧ reads d 0x005 (w64 (s.locator u')) ∧ reads d 0x006 (w64 th.ctx) ∧
      reads d 0x007 (w64 (s.compOf th.ctx)) ∧ reads d 0x008 (w64 (s.kseq th.ctx)) ∧ reads d 0x010 (w64 s.count) ∧
      reads d 0x020 th.fpctl ∧ reads d 0x022 th.srseed ∧ reads d 0x030 th.rtmo ∧
      Yields s (.srd u t d 0 0x040) (fun r => r = (s.atIssue u' t' 4).takeExc u' t' 0x02 0x040)) ∧
    (∀ d : BitVec 5, s.Issues u' t' 4 { wantS [d.toNat] with vdone := true } [] → reads d 0x021 th.vflags) ∧
    (∀ a : BitVec 5, s.Issues u' t' 4 (wantS [a.toNat]) [.s a.toNat] →
      let v := th.gs a.toNat
      (v &&& ~~~ (0x7 : Word) = 0 → writes a 0x020 (fun h => { h with fpctl := v })) ∧
      (v &&& ~~~ (0x11F : Word) = 0 → writes a 0x021 (fun h => { h with vflags := v })) ∧
      writes a 0x022 (fun h => { h with srseed := v }) ∧
      (v.toNat < 2 ^ 32 → writes a 0x030 (fun h => { h with rtmo := v })) ∧
      Yields s (.swr u t 0 a 0x010) (fun r => r = (s.atIssue u' t' 4).takeExc u' t' 0x02 0x010) ∧
      (v &&& ~~~ (0x7 : Word) ≠ 0 → Yields s (.swr u t 0 a 0x020) (fun r => r = (s.atIssue u' t' 4).takeExc u' t' 0x02 0x020)))

/-! ### Loads and stores of the scalar and vector engines -/

/-- Shelf accesses of the scalar engine: LDS brings the bytes, sign- or zero-extended by SZ, into `d` at issue, and STS
writes the low bytes of `b` at issue; both need an aligned extent inside the Shelf. LDS finds the errors of the words that it
reads, and raises POISON with detail 0 when a row is poisoned or a word cannot be corrected. -/
def Obligations.ShelfLoadsAndStoresActAtIssue : Prop :=
  ∀ (u : BitVec 20) (t : BitVec 3) (sz : BitVec 3) (a : BitVec 5) (imm : BitVec 12) (s : State),
    let u' := u.toNat
    let t' := t.toNat
    let th := s.thr u' t'
    let o := (th.gs a.toNat + imm.signExtend 64).toNat
    (∀ d : BitVec 5, s.Issues u' t' 4 (wantS [d.toNat, a.toNat]) [.s a.toNat] → sz ≠ 7 →
      let n := szBytes sz.toNat
      (o % n = 0 → o + n ≤ 16384 → s.rowsPoison u' o n = false →
        Yields s (.lds u t sz d a imm) (fun r => ∃ q : State, r = q.shelfMeet u' o n 2 ∧
          s.RanThr q u' t' 4 (·.setS d.toNat (loadValue sz.toNat (s.shelfNat u' o n))))) ∧
      (o % n = 0 → o + n ≤ 16384 → s.rowsPoison u' o n = true →
        Yields s (.lds u t sz d a imm) (fun r => r = ((s.atIssue u' t' 4).shelfMeet u' o n 2).takeExc u' t' 0x10 0)) ∧
      (o % n ≠ 0 → Yields s (.lds u t sz d a imm) (fun r => r = (s.atIssue u' t' 4).takeExc u' t' 0x06 (w64 o))) ∧
      (o % n = 0 → 16384 < o + n → Yields s (.lds u t sz d a imm) (fun r => r = (s.atIssue u' t' 4).takeExc u' t' 0x07 (w64 o)))) ∧
    (∀ b : BitVec 5, s.Issues u' t' 4 (wantS [a.toNat, b.toNat]) [.s a.toNat, .s b.toNat] → sz.toNat ≤ 3 →
      let n := 2 ^ sz.toNat
      o % n = 0 → o + n ≤ 16384 → Memory.wf s.shelf = true →
        ∃ q : State, Yields s (.sts u t sz a b imm) (fun r => r = q.waiteCheck u') ∧
          q.larder = s.larder ∧
          (∀ k, Memory.get q.shelf k =
            if u' * 2 ^ 14 + o ≤ k ∧ k < u' * 2 ^ 14 + o + n then
              BitVec.ofNat 8 ((th.gs b.toNat).toNat / 256 ^ (k - (u' * 2 ^ 14 + o)))
            else Memory.get s.shelf k) ∧
          q.unt u' = ((s.atIssue u' t' 4).unt u').past t' 4 ∧ (∀ v, v ≠ u' → q.unt v = s.unt v))

/-- Program-address loads and stores of a Larder place of this package: the access is aligned, its segment grants it and is
present; LD takes a scoreboard entry and leaves every register as it was until LOAD_RETURN, and ST takes a write-buffer
entry that holds the bytes; no memory byte changes at issue. -/
def Obligations.LoadsAndStoresStartAtIssue : Prop :=
  ∀ (u : BitVec 20) (t : BitVec 3) (sz : BitVec 3) (a : BitVec 5) (imm : BitVec 12) (s : State),
    let u' := u.toNat
    let t' := t.toNat
    let th := s.thr u' t'
    let ea := (th.gs a.toNat + imm.signExtend 64).toNat
    (∀ d : BitVec 5, sz ≠ 7 →
      let n := szBytes sz.toNat
      s.Issues u' t' 4 { wantS [d.toNat, a.toNat] with score := true } [.s a.toNat] → ea % n = 0 →
      s.segCheck th.ctx ea n permR = none → s.absent th.ctx ea = false → s.extentSectors th.ctx ea n = [] →
      s.extentRemote th.ctx ea n = [] →
        Yields s (.ld u t sz d a imm) (fun r => s.SameMem r ∧ ∃ l : Load, l.reg = .s d.toNat ∧ l.addr = ea ∧ l.sz = sz.toNat ∧
          l.remote = false ∧ l.id = (s.atIssue u' t' 4).nonce ∧ r.nonce = (s.atIssue u' t' 4).nonce + 1 ∧
          s.RanThr r u' t' 4 (fun h => { h with loads := h.loads ++ [l] }))) ∧
    (∀ b : BitVec 5, sz.toNat ≤ 3 →
      let n := 2 ^ sz.toNat
      s.Issues u' t' 4 { wantS [a.toNat, b.toNat] with wb := true } [.s a.toNat, .s b.toNat] → ea % n = 0 →
      s.segCheck th.ctx ea n permW = none → s.postHit th.ctx ea n = false → s.absent th.ctx ea = false →
      s.extentRemote th.ctx ea n = [] →
        Yields s (.st u t sz a b imm) (fun r => s.SameMem r ∧ ∃ e : WbEntry, e.slot = t' ∧ e.addr = ea ∧ e.len = n ∧
          e.data = (th.gs b.toNat).toNat % 256 ^ n ∧ e.remote = false ∧ e.sent = true ∧ r.nonce = (s.atIssue u' t' 4).nonce + 1 ∧
          s.Ran r u' t' 4 (fun x => { x with wb := x.wb ++ [e] })))

/-- Vector accesses: with no active byte VLD and VST do nothing and check nothing; else, aligned to 64 bytes and granted,
VLD takes a scoreboard entry and VST a write-buffer entry with the whole register and its active bytes. VLDS and VSTS enter
the vector queue. -/
def Obligations.VectorAccessesStartAtIssue : Prop :=
  ∀ (u : BitVec 20) (t : BitVec 3) (imm : BitVec 13) (z : Bool) (pg vd : BitVec 3) (sa : BitVec 5) (s : State),
    let u' := u.toNat
    let t' := t.toNat
    let th := s.thr u' t'
    let p := (th.gp pg.toNat).toNat
    let a := (th.gs sa.toNat + imm.signExtend 64 * 64).toNat
    let lo := a + loByte p
    let n := hiByte p + 1 - loByte p
    (s.Issues u' t' 4 { regs := [.v vd.toNat, .s sa.toNat, .p pg.toNat], score := true } [.s sa.toNat, .p pg.toNat] →
      (p = 0 → Yields s (.vld u t imm z pg sa vd) (fun r => s.RanThr r u' t' 4 id)) ∧
      (p ≠ 0 → a % 64 = 0 → s.segCheck th.ctx lo n permR = none → s.absent th.ctx lo = false →
        s.extentSectors th.ctx lo n = [] → s.extentRemote th.ctx lo n = [] →
        Yields s (.vld u t imm z pg sa vd) (fun r => s.SameMem r ∧ ∃ l : Load, l.reg = .v vd.toNat ∧ l.addr = lo ∧ l.mask = p ∧
          l.zero = z ∧ l.remote = false ∧ r.nonce = (s.atIssue u' t' 4).nonce + 1 ∧
          s.RanThr r u' t' 4 (fun h => { h with loads := h.loads ++ [l] })))) ∧
    (s.Issues u' t' 4 { regs := [.v vd.toNat, .s sa.toNat, .p pg.toNat], wb := true } [.v vd.toNat, .s sa.toNat, .p pg.toNat] →
      (p = 0 → Yields s (.vst u t imm z pg sa vd) (fun r => s.RanThr r u' t' 4 id)) ∧
      (p ≠ 0 → a % 64 = 0 → s.segCheck th.ctx lo n permW = none → s.postHit th.ctx lo n = false → s.absent th.ctx lo = false →
        s.extentRemote th.ctx a 64 = [] →
        Yields s (.vst u t imm z pg sa vd) (fun r => s.SameMem r ∧ ∃ e : WbEntry, e.slot = t' ∧ e.addr = a ∧ e.mask = p ∧
          e.data = (th.gv vd.toNat).toNat ∧ e.remote = false ∧ e.sent = true ∧ r.nonce = (s.atIssue u' t' 4).nonce + 1 ∧
          s.Ran r u' t' 4 (fun x => { x with wb := x.wb ++ [e] })))) ∧
    (p ≠ 0 → a % 64 = 0 → a < 16384 →
      (s.Issues u' t' 4 { regs := [.v vd.toNat, .s sa.toNat, .p pg.toNat], vq := true } [.s sa.toNat, .p pg.toNat] →
        Yields s (.vlds u t imm z pg sa vd) (fun r => s.SameMem r ∧ ∃ o : VOp, o.cls = .vlds ∧ o.slot = t' ∧ o.off = a ∧ o.pg = p ∧
          o.zero = z ∧ o.dst = some (.v vd.toNat) ∧ r.nonce = (s.atIssue u' t' 4).nonce + 1 ∧
          s.Ran r u' t' 4 (fun x => { x with vq := x.vq ++ [o] }))) ∧
      (s.Issues u' t' 4 { regs := [.v vd.toNat, .s sa.toNat, .p pg.toNat], vq := true } [.s sa.toNat, .p pg.toNat, .v vd.toNat] →
        Yields s (.vsts u t imm z pg sa vd) (fun r => s.SameMem r ∧ ∃ o : VOp, o.cls = .vsts ∧ o.slot = t' ∧ o.off = a ∧ o.pg = p ∧
          o.va = (th.gv vd.toNat).toNat ∧ o.dst = none ∧ r.nonce = (s.atIssue u' t' 4).nonce + 1 ∧
          s.Ran r u' t' 4 (fun x => { x with vq := x.vq ++ [o] }))))

/-! ### The vector engine -/

/-- A VALU instruction that issues enters the vector queue with the operands, SR_FPCTL and SR_SRSEED that are current, and
changes nothing else; the destination is a predicate for a compare, else a vector. -/
def Obligations.VectorAluEntersTheQueue : Prop :=
  ∀ (u : BitVec 20) (t : BitVec 3) (et : BitVec 2) (z : Bool) (pg vb va vd : BitVec 3) (s : State),
    let u' := u.toNat
    let t' := t.toNat
    let th := s.thr u' t'
    let puts (i : Instr) (fn : Nat) (dst : Reg) (old : Nat) : Prop :=
      Yields s i (fun r => r.nonce = (s.atIssue u' t' 4).nonce + 1 ∧ ∃ o : VOp,
        (o.slot, o.cls, o.fn, o.et, o.zero, o.dst) = (t', VCls.valu, fn, et.toNat, z, some dst) ∧
        (o.pg, o.va, o.vb, o.old) = ((th.gp pg.toNat).toNat, (th.gv va.toNat).toNat, (th.gv vb.toNat).toNat, old) ∧
        o.fpctl = th.fpctl.toNat ∧ o.seed = th.srseed ∧
        s.Ran r u' t' 4 (fun x => { x with vq := x.vq ++ [o] }))
    let vec (i : Instr) (fn : Nat) : Prop := puts i fn (.v vd.toNat) (th.gv vd.toNat).toNat
    let prd (i : Instr) (fn : Nat) : Prop := puts i fn (.p vd.toNat) (th.gp vd.toNat).toNat
    let two : List Reg := [.v va.toNat, .p pg.toNat, .v vb.toNat]
    let one : List Reg := [.v va.toNat, .p pg.toNat]
    (s.Issues u' t' 4 { regs := .v vd.toNat :: two, vq := true } two →
      vec (.vxpc u t et z pg vb va vd) 0x040 ∧
      (et ≠ 3 →
        vec (.vadd u t et z pg vb va vd) 0x000 ∧ vec (.vsub u t et z pg vb va vd) 0x001 ∧ vec (.vmul u t et z pg vb va vd) 0x002 ∧
        vec (.vmin u t et z pg vb va vd) 0x003 ∧ vec (.vmax u t et z pg vb va vd) 0x004 ∧ vec (.vminu u t et z pg vb va vd) 0x005 ∧
        vec (.vmaxu u t et z pg vb va vd) 0x006 ∧ vec (.vand u t et z pg vb va vd) 0x008 ∧ vec (.vor u t et z pg vb va vd) 0x009 ∧
        vec (.vxor u t et z pg vb va vd) 0x00A ∧ vec (.vshl u t et z pg vb va vd) 0x00B ∧ vec (.vshr u t et z pg vb va vd) 0x00C ∧
        vec (.vsra u t et z pg vb va vd) 0x00D ∧ vec (.vsel u t et z pg vb va vd) 0x048 ∧ vec (.vperm u t et z pg vb va vd) 0x049) ∧
      (et = 2 →
        vec (.vfadd u t et z pg vb va vd) 0x020 ∧ vec (.vfsub u t et z pg vb va vd) 0x021 ∧ vec (.vfmul u t et z pg vb va vd) 0x022 ∧
        vec (.vfmin u t et z pg vb va vd) 0x024 ∧ vec (.vfmax u t et z pg vb va vd) 0x025)) ∧
    (s.Issues u' t' 4 { regs := .v vd.toNat :: (two ++ [.v vd.toNat]), vq := true } (two ++ [.v vd.toNat]) → et = 2 →
      vec (.vfma u t et z pg vb va vd) 0x023) ∧
    (s.Issues u' t' 4 { regs := .v vd.toNat :: one, vq := true } one →
      (et ≠ 3 → vec (.vredadd u t et z pg vb va vd) 0x041) ∧ (et = 2 → vec (.vfredadd u t et z pg vb va vd) 0x042) ∧
      (et = 2 → vb = 0 →
        vec (.vexp u t et z pg vb va vd) 0x030 ∧ vec (.vlog u t et z pg vb va vd) 0x031 ∧ vec (.vrcp u t et z pg vb va vd) 0x032 ∧
        vec (.vrsq u t et z pg vb va vd) 0x033 ∧ vec (.vtanh u t et z pg vb va vd) 0x034)) ∧
    (s.Issues u' t' 4 { regs := .p vd.toNat :: two, vq := true } two →
      (et ≠ 3 → prd (.vceq u t et z pg vb va vd) 0x010 ∧ prd (.vclt u t et z pg vb va vd) 0x011 ∧
        prd (.vcltu u t et z pg vb va vd) 0x012) ∧
      (et = 2 → prd (.vfceq u t et z pg vb va vd) 0x013 ∧ prd (.vfclt u t et z pg vb va vd) 0x014 ∧
        prd (.vfcle u t et z pg vb va vd) 0x015))

/-- Conversions, predicate operations, moves, VAFLT and TKI enter the vector queue with the operands they capture; VCVT with
SRND set is counted for the stochastic draws. -/
def Obligations.OtherVectorWorkEntersTheQueue : Prop :=
  ∀ (u : BitVec 20) (t : BitVec 3) (s : State),
    let u' := u.toNat
    let t' := t.toNat
    let th := s.thr u' t'
    let puts (i : Instr) (len : Nat) (f : Thread → Thread) (p : VOp → Prop) : Prop :=
      Yields s i (fun r => r.nonce = (s.atIssue u' t' len).nonce + 1 ∧ ∃ o : VOp, o.slot = t' ∧ o.fpctl = th.fpctl.toNat ∧ p o ∧
        s.Ran r u' t' len (fun x => let y := { x with vq := x.vq ++ [o] }; y.setThr t' (f (y.thr t'))))
    let vq (l : List Reg) : Want := { regs := l, vq := true }
    (∀ (code : BitVec 8) (z : Bool) (pg vb va vd : BitVec 3), cvtDefined code.toNat = true → cvtReadsB code.toNat = false →
      s.Issues u' t' 4 (vq [.v vd.toNat, .v va.toNat, .p pg.toNat]) [.v va.toNat, .p pg.toNat] →
      puts (.vcvt u t code 0 z pg vb va vd) 4 (fun h => if bitOf th.fpctl.toNat 2 then { h with srn := h.srn + 1 } else h)
        (fun o => o.cls = .vcvt ∧ o.fn = code.toNat ∧ o.va = (th.gv va.toNat).toNat ∧ o.dst = some (.v vd.toNat))) ∧
    (∀ (pb pa pd : BitVec 3),
      let pr (i : Instr) (fn : Nat) : Prop := puts i 4 id (fun o => o.cls = .pred ∧ o.fn = fn ∧ o.dst = some (.p pd.toNat) ∧
        o.va = (th.gp pa.toNat).toNat ∧ o.vb = (th.gp pb.toNat).toNat)
      (s.Issues u' t' 4 (vq [.p pd.toNat, .p pa.toNat, .p pb.toNat]) [.p pa.toNat, .p pb.toNat] →
        pr (.pand u t pb pa pd) 0 ∧ pr (.por u t pb pa pd) 1 ∧ pr (.pxor u t pb pa pd) 2 ∧ pr (.pandn u t pb pa pd) 3) ∧
      (s.Issues u' t' 4 (vq [.p pd.toNat, .p pa.toNat]) [.p pa.toNat] → pb = 0 → pr (.pnot u t pb pa pd) 4) ∧
      (s.Issues u' t' 4 (vq [.p pd.toNat]) [] → pb = 0 → pa = 0 → pr (.pall u t pb pa pd) 5 ∧ pr (.pnone u t pb pa pd) 6)) ∧
    (∀ (lane : BitVec 6) (et : BitVec 2) (sc : BitVec 5) (v : BitVec 3),
      let mv (i : Instr) (fn val : Nat) (dst : Reg) : Prop := puts i 4 id (fun o => o.cls = .vmov ∧ o.fn = fn ∧ o.et = et.toNat ∧
        o.dst = some dst ∧ o.off = lane.toNat ∧ o.va = val ∧ o.sval = (th.gs sc.toNat).toNat)
      (et ≠ 3 → lane.toNat < elems et.toNat →
        (s.Issues u' t' 4 (vq [.v v.toNat, .s sc.toNat]) [.s sc.toNat] →
          mv (.vbcast u t lane et sc v) 0 (th.gv v.toNat).toNat (.v v.toNat)) ∧
        (s.Issues u' t' 4 (vq [.s sc.toNat, .v v.toNat]) [.v v.toNat] →
          mv (.vext u t lane et sc v) 1 (th.gv v.toNat).toNat (.s sc.toNat)) ∧
        (s.Issues u' t' 4 (vq [.v v.toNat, .s sc.toNat, .v v.toNat]) [.s sc.toNat, .v v.toNat] →
          mv (.vins u t lane et sc v) 2 (th.gv v.toNat).toNat (.v v.toNat))) ∧
      (et = 0 → lane = 0 →
        (s.Issues u' t' 4 (vq [.s sc.toNat, .p v.toNat]) [.p v.toNat] →
          mv (.ptos u t lane et sc v) 3 (th.gp v.toNat).toNat (.s sc.toNat) ∧
          mv (.pcnt u t lane et sc v) 5 (th.gp v.toNat).toNat (.s sc.toNat) ∧
          mv (.pfirst u t lane et sc v) 6 (th.gp v.toNat).toNat (.s sc.toNat)) ∧
        (s.Issues u' t' 4 (vq [.p v.toNat, .s sc.toNat]) [.s sc.toNat] →
          mv (.stop u t lane et sc v) 4 (th.gp v.toNat).toNat (.p v.toNat)))) ∧
    (∀ (pg va pd : BitVec 3) (sa : BitVec 5), (th.gs sa.toNat).toNat % 32 = 0 → (th.gs sa.toNat).toNat + 32 ≤ 16384 →
      s.Issues u' t' 8 (vq [.p pd.toNat, .v va.toNat, .s sa.toNat, .p pg.toNat]) [.v va.toNat, .s sa.toNat, .p pg.toNat] →
      puts (.vaflt u t pg sa va pd 0 0) 8 id (fun o => o.cls = .vaflt ∧ o.off = (th.gs sa.toNat).toNat ∧
        o.pg = (th.gp pg.toNat).toNat ∧ o.va = (th.gv va.toNat).toNat ∧ o.dst = some (.p pd.toNat))) ∧
    (∀ (pg va vb : BitVec 3) (sa sb : BitVec 5), (th.gs sa.toNat).toNat % 4 = 0 → (th.gs sa.toNat).toNat + 16 ≤ 16384 →
      let l : List Reg := [.v va.toNat, .v vb.toNat, .s sa.toNat, .s sb.toNat, .p pg.toNat]
      s.Issues u' t' 8 (vq l) l →
      puts (.tki u t sb pg sa vb va 0 0) 8 id (fun o => o.cls = .tki ∧ o.off = (th.gs sa.toNat).toNat ∧
        o.pg = (th.gp pg.toNat).toNat ∧ o.va = (th.gv va.toNat).toNat ∧ o.vb = (th.gv vb.toNat).toNat ∧
        o.sval = (th.gs sb.toNat).toNat ∧ o.dst = none))

/-- VECTOR_ENGINE_EXECUTE takes the head of a unit's vector queue: a VALU, VCVT, predicate or move operation writes its
result into its destination and adds its flags; a VLDS brings the Shelf's bytes, or a POISON mark when the row is poisoned or
a word of it cannot be corrected, and finds the errors of what it reads; a VSTS writes the active bytes; then the unit's threads settle. With an empty queue nothing changes. What the integer VALU
functions put into an element: the operation on the elements where the predicate is set, and elsewhere zero under Z or the
old element. -/
def Obligations.VectorEngineExecutesTheHeadByTheTable : Prop :=
  (∀ (u : BitVec 20) (s : State), s.dead = false → s.unitOk u.toNat = true →
     let u' := u.toNat
     let x := s.unt u'
     (x.vq = [] → exec (.vectorEngineExecute u) s = .next s) ∧
     (∀ (o : VOp) (l : List VOp), x.vq = o :: l →
       let popped : Unt := { x with vq := l }
       let read (n : Nat) : State := (s.setUnt u' popped).shelfMeet u' o.off n 3
       let writesTo (q : State) (v fl : Nat) : Prop := Yields s (.vectorEngineExecute u) (fun r => ∃ m : State, r = m.settle u' ∧
         q.OnlyUnit m u' ∧
         m.unt u' = popped.setThr o.slot { (x.thr o.slot).setReg o.dst v with vflags := stick (x.thr o.slot).vflags fl })
       let writes : Nat → Nat → Prop := writesTo s
       (o.cls = .valu → (∃ i, o.dst = some (.v i)) →
         writes (valuVec o.fn o.et o.zero o.pg o.va o.vb o.old (.mode (o.fpctl % 4))).1
           (valuVec o.fn o.et o.zero o.pg o.va o.vb o.old (.mode (o.fpctl % 4))).2) ∧
       (o.cls = .valu → (∃ i, o.dst = some (.p i)) → writes (valuPred o.fn o.et o.zero o.pg o.va o.vb o.old) 0) ∧
       (o.cls = .vcvt → writes (vcvt o.fn o.zero o.pg o.va o.vb o.old o.fpctl o.seed o.group o.tid o.n).1
         (vcvt o.fn o.zero o.pg o.va o.vb o.old o.fpctl o.seed o.group o.tid o.n).2) ∧
       (o.cls = .pred → writes (predVal o.fn o.va o.vb) 0) ∧
       (o.cls = .vmov → writes (vmovVal o.fn o.off o.et o.sval o.va) 0) ∧
       (o.cls = .vlds → s.rowsPoison u' o.off 64 = false →
         writesTo (read 64) (mergeBytes o.pg o.zero o.va (s.shelfNat u' o.off 64)) 0) ∧
       (o.cls = .vlds → s.rowsPoison u' o.off 64 = true → ∀ i, o.dst = some (.v i) →
         Yields s (.vectorEngineExecute u) (fun r => ∃ m : State, r = m.settle u' ∧ (read 64).OnlyUnit m u' ∧
           m.unt u' = popped.setThr o.slot ((x.thr o.slot).setMark (.v i) ⟨0x10, 0⟩))) ∧
       (o.cls = .vaflt → s.rowsPoison u' o.off 32 = false → writesTo (read 32) (vafltVal (s.shelfNat u' o.off 32) o.pg o.va) 0) ∧
       (o.cls = .vsts → o.off % 64 = 0 → Memory.wf s.shelf = true → Yields s (.vectorEngineExecute u) (fun r =>
         r.larder = s.larder ∧ ∀ k, Memory.get r.shelf k =
           if u' * 2 ^ 14 + o.off ≤ k ∧ k < u' * 2 ^ 14 + o.off + 64 ∧ bitOf o.pg (k - (u' * 2 ^ 14 + o.off)) = true then
             BitVec.ofNat 8 (o.va / 256 ^ (k - (u' * 2 ^ 14 + o.off)))
           else Memory.get s.shelf k)))) ∧
  (∀ (et va vb old pg i : Nat) (z : Bool), et < 3 → i < 64 / 2 ^ et → va < 2 ^ 512 → vb < 2 ^ 512 → old < 2 ^ 512 →
     let w := 8 * 2 ^ et
     let x := lane w va i
     let y := lane w vb i
     let got (fn : Nat) : Nat := lane w (valuVec fn et z pg va vb old rne).1 i
     (bitOf pg (i * 2 ^ et) = true →
       got 0x000 = (x + y) % 2 ^ w ∧ got 0x001 = (x + 2 ^ w - y) % 2 ^ w ∧ got 0x002 = x * y % 2 ^ w ∧
       got 0x003 = (if toS w x < toS w y then x else y) ∧ got 0x004 = (if toS w x < toS w y then y else x) ∧
       got 0x005 = min x y ∧ got 0x006 = max x y ∧ got 0x008 = x &&& y ∧ got 0x009 = x ||| y ∧ got 0x00A = x ^^^ y ∧
       got 0x00B = x * 2 ^ (y % w) % 2 ^ w ∧ got 0x00C = x / 2 ^ (y % w) ∧ got 0x048 = x) ∧
     (bitOf pg (i * 2 ^ et) = false →
       (∀ fn, fn ≤ 0x00D → got fn = if z then 0 else lane w old i) ∧ got 0x048 = y))

/-! ### The matrix engine -/

/-- ACLAIM takes a free accumulator at once, and waits for one that is held by another thread; AZERO and AREL of an
accumulator held with no block open enter the matrix queue; MWAIT passes when no matrix instruction of the thread is
outstanding. MMA and MST on an accumulator the thread holds, with legal codes and aligned operands inside the Shelf, enter
the matrix queue with their operand addresses; MMA fixes the accumulator's format and, with CONT, leaves its block open; MST
with an open block raises BLOCK, and without the accumulator CLAIM. -/
def Obligations.MatrixInstructionsClaimAndQueue : Prop :=
  (∀ (u : BitVec 20) (t : BitVec 3) (acc : BitVec 2) (s : State),
     let u' := u.toNat
     let t' := t.toNat
     let n := acc.toNat
     let x := s.unt u'
     let a := x.accu n
     let setAcc (y : Unt) (b : Acc) : Unt := { y with acc := y.acc.setIfInBounds n b }
     (s.Issues u' t' 4 (wantS []) [] →
       (a.holder = none → Yields s (.aclaim u t acc 0) (fun r =>
         s.Ran r u' t' 4 (fun y => setAcc y { a with holder := some t', last := t' }))) ∧
       (∀ h, a.holder = some h → h ≠ t' → Yields s (.aclaim u t acc 0) (fun r => (s.atIssue u' t' 4).OnlyUnit r u' ∧
         (r.thr u' t').st = .waiting ∧ (r.thr u' t').wait = some (.claim n) ∧ (r.thr u' t').pc = (s.thr u' t').pc ∧
         (r.unt u').accu n = a)) ∧
       (a.holder = some t' → a.releasing = false → Yields s (.aclaim u t acc 0) (fun r => r = (s.atIssue u' t' 4).takeExc u' t' 0x03 (w64 n))) ∧
       (x.matrixOpen t' = false → Yields s (.mwait u t 0 0) (fun r => s.RanThr r u' t' 4 id)) ∧
       (x.matrixOpen t' = true → Yields s (.mwait u t 0 0) (fun r => (s.atIssue u' t' 4).OnlyUnit r u' ∧ (r.thr u' t').st = .waiting ∧
         (r.thr u' t').wait = some .mwait ∧ (r.thr u' t').pc = (s.thr u' t').pc))) ∧
     (s.Issues u' t' 4 { regs := [], mq := true } [] →
       (a.holder = some t' → a.releasing = false → a.blk = none →
         Yields s (.arel u t acc 0) (fun r => r.nonce = (s.atIssue u' t' 4).nonce + 1 ∧ ∃ o : MOp, o.kind = 3 ∧ o.slot = t' ∧ o.acc = n ∧
           s.Ran r u' t' 4 (fun y => setAcc { y with mq := y.mq ++ [o] } { a with releasing := true })) ∧
         Yields s (.azero u t acc 0) (fun r => r.nonce = (s.atIssue u' t' 4).nonce + 1 ∧ ∃ o : MOp, o.kind = 2 ∧ o.slot = t' ∧ o.acc = n ∧
           s.Ran r u' t' 4 (fun y => setAcc { y with mq := y.mq ++ [o] } { a with ifmt := 0 }))) ∧
       (a.holder ≠ some t' → Yields s (.arel u t acc 0) (fun r => r = (s.atIssue u' t' 4).takeExc u' t' 0x03 (w64 n)) ∧
         Yields s (.azero u t acc 0) (fun r => r = (s.atIssue u' t' 4).takeExc u' t' 0x03 (w64 n))))) ∧
  (∀ (u : BitVec 20) (t : BitVec 3) (acc : BitVec 2) (s : State),
     let u' := u.toNat
     let t' := t.toNat
     let n := acc.toNat
     let x := s.unt u'
     let a := x.accu n
     let th := s.thr u' t'
     let ad (r : BitVec 5) : Nat := (th.gs r.toNat).toNat
     (∀ (cont : Bool) (sc sb sa : BitVec 5) (fb fa : BitVec 4), a.holder = some t' → a.releasing = false → a.blk = none →
       mmaBad fa.toNat fb.toNat sc.toNat cont = false → scaleBytes fa.toNat + scaleBytes fb.toNat = 0 →
       (a.ifmt = 0 ∨ a.ifmt = mmaFmt fa.toNat) → ad sa % 64 = 0 → ad sb % 64 = 0 → ad sa + 1024 ≤ 16384 → ad sb + 1024 ≤ 16384 →
       s.Issues u' t' 8 { wantS [sa.toNat, sb.toNat] with mq := true } [.s sa.toNat, .s sb.toNat] →
       Yields s (.mma u t cont acc sc sb sa fb fa 0 0) (fun r => r.nonce = (s.atIssue u' t' 8).nonce + 1 ∧ ∃ o : MOp, o.kind = 0 ∧ o.slot = t' ∧
         o.acc = n ∧ o.a = ad sa ∧ o.b = ad sb ∧ o.fa = fa.toNat ∧ o.fb = fb.toNat ∧ o.cont = cont ∧
         s.Ran r u' t' 8 (fun y =>
           let a' : Acc := { a with ifmt := mmaFmt fa.toNat, blk := if cont then some (fa.toNat, fb.toNat, opK fa.toNat) else none }
           { y with mq := y.mq ++ [o], acc := y.acc.setIfInBounds n a' }))) ∧
     (∀ (sa : BitVec 5) (srnd : Bool) (fd : BitVec 4), s.Issues u' t' 8 { wantS [sa.toNat] with mq := true } [.s sa.toNat] →
       fdBytes fd.toNat ≠ 0 → (srnd = true → fdBytes fd.toNat ≠ 4) → fdSuits fd.toNat a.ifmt = true →
       ad sa % 64 = 0 → ad sa + 256 * fdBytes fd.toNat ≤ 16384 →
       (a.holder = some t' → a.releasing = false → a.blk = none →
         Yields s (.mst u t acc sa srnd fd 0 0) (fun r => r.nonce = (s.atIssue u' t' 8).nonce + 1 ∧ ∃ o : MOp, o.kind = 1 ∧ o.slot = t' ∧ o.acc = n ∧
           o.a = ad sa ∧ o.fa = fd.toNat ∧ o.srnd = srnd ∧ o.seed = th.srseed ∧ o.n = th.srn ∧
           s.Ran r u' t' 8 (fun y => let z := { y with mq := y.mq ++ [o] }
             z.setThr t' { z.thr t' with srn := (z.thr t').srn + b2n srnd }))) ∧
       (a.holder = some t' → a.releasing = false → a.blk.isSome = true →
         Yields s (.mst u t acc sa srnd fd 0 0) (fun r => r = (s.atIssue u' t' 8).takeExc u' t' 0x04 (w64 n))) ∧
       (a.holder ≠ some t' → Yields s (.mst u t acc sa srnd fd 0 0) (fun r => r = (s.atIssue u' t' 8).takeExc u' t' 0x03 (w64 n)))))

/-- The matrix engine takes the head of its queue when it is free, and an operation in it completes: an MMA of 8-bit or
4-bit operands that starts finds the errors of what it reads and adds its products; one without CONT closes its block with
one rounding into every element, an MST writes its rows to the Shelf,
AZERO leaves the tile zero and unset, and AREL releases the tile; then the threads settle. Closing a block rounds once: an
integer block adds its sum to the element and saturates at 32 bits; a floating block with a NaN, opposite infinities or a
range too wide gives the quiet NaN; an exact zero sum leaves the element. -/
def Obligations.MatrixEngineTakesCompletesAndRoundsOnce : Prop :=
  (∀ (u : BitVec 20) (s : State), s.dead = false → s.unitOk u.toNat = true →
     let u' := u.toNat
     let x := s.unt u'
     (∀ (o : MOp) (l : List MOp), x.mrun = none → x.mq = o :: l → o.kind ≠ 0 →
       Yields s (.matrixEngineExecute u) (fun r => ∃ m : State, r = m.settle u' ∧ s.OnlyUnit m u' ∧
         m.unt u' = { x with mq := l, mrun := some o })) ∧
     (∀ (o : MOp) (l : List MOp), x.mrun = none → x.mq = o :: l → o.kind = 0 → opWidth o.fa ≠ 16 →
       s.rowsPoison u' o.a 1024 = false → s.rowsPoison u' o.b 1024 = false →
       s.rowsPoison u' o.c (scaleBytes o.fa + scaleBytes o.fb) = false →
       let ta := s.tileAt u' o.a o.fa o.c
       let tb := s.tileAt u' o.b o.fb (o.c + scaleBytes o.fa)
       let q := (((s.setUnt u' { x with mq := l, mrun := some o }).shelfMeet u' o.a 1024 4).shelfMeet u' o.b 1024 4).shelfMeet u' o.c
         (scaleBytes o.fa + scaleBytes o.fb) 4
       Yields s (.matrixEngineExecute u) (fun r => ∃ m : State, r = m.settle u' ∧ q.OnlyUnit m u' ∧
         let sums := (List.range 256).map (fun e =>
           ((x.accu o.acc).sums.getD (16 * (e / 16) + e % 16) Blk.zero).addMma ta tb (e / 16) (e % 16))
         let a' : Acc := { x.accu o.acc with fmt := mmaFmt o.fa, sums := sums }
         m.unt u' = { x with mq := l, mrun := some o, acc := x.acc.setIfInBounds o.acc a' })) ∧
     (∀ o : MOp, x.mrun = some o → o.kind = 0 → o.cont = false → opWidth o.fa ≠ 16 →
       Yields s (.matrixOpComplete u) (fun r => ∃ m : State, r = m.settle u' ∧ s.OnlyUnit m u' ∧
         let elems := (List.range 256).map (fun e =>
           ((x.accu o.acc).sums.getD e Blk.zero).close o.fa o.fb ((x.accu o.acc).elem e))
         let a' : Acc := { x.accu o.acc with sums := [], elems := elems }
         m.unt u' = { x with mrun := none, acc := x.acc.setIfInBounds o.acc a' })) ∧
     (∀ o : MOp, x.mrun = some o → o.kind = 1 → Yields s (.matrixOpComplete u) (fun r => ∃ m : State,
       r = (m.shelfWrite u' o.a (mstRows (x.accu o.acc) o) (x.accu o.acc).poison).settle u' ∧ s.OnlyUnit m u' ∧
       m.unt u' = { x with mrun := none })) ∧
     (∀ o : MOp, x.mrun = some o → o.kind = 2 → Yields s (.matrixOpComplete u) (fun r => ∃ m : State, r = m.settle u' ∧
       s.OnlyUnit m u' ∧ 
       let a' : Acc := { x.accu o.acc with elems := [], fmt := 0, sums := [], poison := false }
       m.unt u' = { x with mrun := none, acc := x.acc.setIfInBounds o.acc a' })) ∧
     (∀ o : MOp, x.mrun = some o → o.kind = 3 → o.acc < 4 → Yields s (.matrixOpComplete u) (fun r => ∃ m : State, r = m.settle u' ∧
       s.OnlyUnit m u' ∧ ((m.unt u').accu o.acc).releasing = false ∧ ((m.unt u').accu o.acc).holder = x.nextClaimant o.acc)) ∧
     (x.mrun = none → exec (.matrixOpComplete u) s = .next s)) ∧
  (∀ (b : Blk) (fa fb acc : Nat), acc < 2 ^ 32 →
     (opInt fa = true → toS 32 (b.close fa fb acc) = max (-2 ^ 31) (min (2 ^ 31 - 1) (toS 32 acc + b.sum / 2 ^ 320))) ∧
     (opInt fa = false → (b.nan = true ∨ (b.pinf = true ∧ b.ninf = true) ∨ b.tooWide fa fb = true) →
       b.close fa fb acc = fp32.qnan) ∧
     (opInt fa = false → b.nan = false → b.pinf = false → b.ninf = false → b.tooWide fa fb = false → b.sum = 0 →
       b.close fa fb acc = acc))

/-! ### DMA, remote operations and synchronisation -/

/-- A DMA in any of its spaces whose ends pass their checks takes its tag, enters the DMA queue of its unit and is taken from
it when it stands at its head; with length zero it does nothing and checks nothing; a length above 2^24 raises MALFORMED with
the length as detail, and a space code above 3, or two ends in another package's spaces, ILLEGAL. An instruction that is not
at the head of the queue waits there; a DMA at the head is begun, and one from the unit's own Shelf to it needs no request. -/
def Obligations.DmaTakesItsTag : Prop :=
  (∀ (u : BitVec 20) (t : BitVec 3) (sn : BitVec 5) (tag : BitVec 2) (sb sa sl : BitVec 5) (dstSp srcSp : BitVec 4) (s : State),
    let u' := u.toNat
    let t' := t.toNat
    let g := tag.toNat
    let th := s.thr u' t'
    let src := (th.gs sa.toNat).toNat
    let dst := (th.gs sb.toNat).toNat
    let n := (th.gs sl.toNat).toNat
    let v := th.gs sn.toNat
    let q := s.atIssue u' t' 8
    let far : Prop := 2 ≤ srcSp.toNat ∨ 2 ≤ dstSp.toNat
    let i : Instr := .dma u t sn tag sb sa sl dstSp srcSp 0 0
    ∀ regs : List (BitVec 5), (¬far → regs = [sa, sb, sl]) → (far → regs = [sa, sb, sl, sn]) →
    s.Issues u' t' 8 { wantS (regs.map (·.toNat)) with tag := some g, dq := decide (n ≠ 0) } (regs.map (fun r => Reg.s r.toNat)) →
      ((3 < srcSp.toNat ∨ 3 < dstSp.toNat ∨ (2 ≤ srcSp.toNat ∧ 2 ≤ dstSp.toNat)) →
        ∃ w, Yields s i (fun r => r = q.takeExc u' t' 0x01 w)) ∧
      (srcSp.toNat ≤ 3 → dstSp.toNat ≤ 3 → ¬(2 ≤ srcSp.toNat ∧ 2 ≤ dstSp.toNat) →
        (n = 0 → Yields s i (fun r => s.RanThr r u' t' 8 id)) ∧
        (2 ^ 24 < n → Yields s i (fun r => r = q.takeExc u' t' 0x05 (w64 n))) ∧
        (n ≠ 0 → n ≤ 2 ^ 24 → s.DmaMay th.ctx srcSp.toNat src n permR v false →
          s.DmaMay th.ctx dstSp.toNat dst n permW v (srcSp == 0 && dstSp == 1 && (s.postOf th.ctx dst n).isSome) →
          Yields s i (fun r => ∃ (m : State) (d : Dma), r = m.dqTake u' t' d.id ∧ s.SameMem m ∧ m.nonce = q.nonce + 1 ∧
            (d.id, d.src, d.dst, d.len, d.srcSp, d.dstSp) = (q.nonce, src, dst, n, srcSp.toNat, dstSp.toNat) ∧ d.sn = v ∧
            d.parts = 0 ∧ d.phase = 0 ∧ d.failed = none ∧ d.post = none ∧
            s.Ran m u' t' 8 (fun x =>
              let y := x.setThr t' { x.thr t' with dma := (x.thr t').dma.setIfInBounds g (some d) }
              { y with dq := y.dq ++ [(t', d.id)] }))))) ∧
  (∀ (s : State) (u t id : Nat),
    let x := s.unt u
    (x.dq.head? ≠ some (t, id) → s.dqTake u t id = s) ∧
    (∀ l g, x.dq = (t, id) :: l → (x.thr t).dma.toList.findIdx? (fun d => d.any (fun d => d.id == id)) = some g →
      s.dqTake u t id = (s.setUnt u { x with dq := l }).dmaBegin u t g)) ∧
  (∀ (s : State) (u t g : Nat) (d : Dma), (s.thr u t).dma.toList.getD g none = some d → d.srcSp = 0 → d.dstSp = 0 →
    s.dmaBegin u t g = s.updDma u t g (fun d => { d with phase := 1, parts := 0 }))

/-- The thirteen remote operations, named at this package (sn is s0) on an aligned Larder word that the segment grants: RLD,
AXCHG and ACAS take a scoreboard entry for `d`; the others, with `d` s0, take a write-buffer entry; the operation and its
operands are kept and no byte of memory changes at issue. It enters the DMA queue of its unit, and is taken from it at its
head: here that needs no request, but the sectors of a Cellar word. What a remote operation leaves at its word: the result of
its operation on the old value, at the operation's width. -/
def Obligations.RemoteOperationsStartAndAtomicsFollowTheTable : Prop :=
  (∀ (u : BitVec 20) (t : BitVec 3) (sb sa sd sc : BitVec 5) (sz : BitVec 3) (s : State), sz = 2 ∨ sz = 3 →
     let u' := u.toNat
     let t' := t.toNat
     let th := s.thr u' t'
     let addr := (th.gs sa.toNat).toNat
     let n := if sz = 2 then 4 else 8
     let b := th.gs sb.toNat
     let c := th.gs sc.toNat
     let ok (perm : Nat) : Prop := addr % n = 0 ∧ s.segCheck th.ctx addr n perm = none ∧ s.absent th.ctx addr = false ∧
       (perm = permR ∨ s.postHit th.ctx addr n = false) ∧ s.extentRemote th.ctx addr n = [] ∧ s.extentSectors th.ctx addr n = []
     let q := s.atIssue u' t' 8
     let loads (i : Instr) (aop : Nat) : Prop := Yields s i (fun r => ∃ (m : State) (l : Load), r = m.dqTake u' t' l.id ∧
       s.SameMem m ∧ m.nonce = q.nonce + 1 ∧ l.id = q.nonce ∧ l.sent = false ∧
       l.reg = .s sd.toNat ∧ l.addr = addr ∧ l.sz = sz.toNat ∧ l.rmt = some (aop, b, c) ∧ l.remote = false ∧
       s.Ran m u' t' 8 (fun x =>
         let y := x.setThr t' { x.thr t' with loads := (x.thr t').loads ++ [l] }
         { y with dq := y.dq ++ [(t', l.id)] }))
     let stores (i : Instr) (aop : Nat) : Prop := Yields s i (fun r => ∃ (m : State) (e : WbEntry), r = m.dqTake u' t' e.id ∧
       s.SameMem m ∧ m.nonce = q.nonce + 1 ∧ e.id = q.nonce ∧ e.sent = false ∧
       e.slot = t' ∧ e.addr = addr ∧ e.len = n ∧ e.sz = sz.toNat ∧ e.rmt = some (aop, b, c) ∧ e.remote = false ∧
       s.Ran m u' t' 8 (fun x => { x with wb := x.wb ++ [e], dq := x.dq ++ [(t', e.id)] }))
     (ok permR → s.Issues u' t' 8 { regs := [.s sd.toNat, .s sa.toNat], score := true, dq := true } [.s sa.toNat] → sc = 0 →
       loads (.rld u t 0 sb sa sd sc sz 0 0) 0x00) ∧
     (ok permA → s.Issues u' t' 8 { regs := [.s sd.toNat, .s sa.toNat, .s sb.toNat], score := true, dq := true }
         [.s sa.toNat, .s sb.toNat] →
       sc = 0 → loads (.axchg u t 0 sb sa sd sc sz 0 0) 0x0B) ∧
     (ok permA → s.Issues u' t' 8 { regs := [.s sd.toNat, .s sa.toNat, .s sb.toNat, .s sc.toNat], score := true, dq := true }
         [.s sa.toNat, .s sb.toNat, .s sc.toNat] → loads (.acas u t 0 sb sa sd sc sz 0 0) 0x0C) ∧
     (s.Issues u' t' 8 { regs := [.s sd.toNat, .s sa.toNat, .s sb.toNat], wb := true, dq := true } [.s sa.toNat, .s sb.toNat] →
       sc = 0 → sd = 0 →
       (ok permW → stores (.rst u t 0 sb sa sd sc sz 0 0) 0x01) ∧
       (ok permA →
         stores (.aadd u t 0 sb sa sd sc sz 0 0) 0x02 ∧ (sz = 2 → stores (.afadd u t 0 sb sa sd sc sz 0 0) 0x03) ∧
         stores (.aand u t 0 sb sa sd sc sz 0 0) 0x04 ∧ stores (.aor u t 0 sb sa sd sc sz 0 0) 0x05 ∧
         stores (.axor u t 0 sb sa sd sc sz 0 0) 0x06 ∧ stores (.amin u t 0 sb sa sd sc sz 0 0) 0x07 ∧
         stores (.amax u t 0 sb sa sd sc sz 0 0) 0x08 ∧ stores (.aminu u t 0 sb sa sd sc sz 0 0) 0x09 ∧
         stores (.amaxu u t 0 sb sa sd sc sz 0 0) 0x0A))) ∧
  (∀ (s : State) (u t id : Nat) (rest : List (Nat × Nat)),
     let x := s.unt u
     let s' := s.setUnt u { x with dq := rest }
     x.dq = (t, id) :: rest → (x.thr t).dma.toList.findIdx? (fun d => d.any (fun d => d.id == id)) = none →
       (∀ l : Load, (x.thr t).loads.find? (fun l => l.id = id) = some l → l.dest = s.self → l.rmt.isSome = true → t < 8 →
         s.dqTake u t id = (s'.updThr u t (fun h => { h with loads := h.loads.map (fun k =>
           if k.id = id then { k with sent := true } else k) })).sectorsWant (x.thr t).ctx l.addr (szBytes l.sz)) ∧
       (∀ e : WbEntry, (x.thr t).loads.find? (fun l => l.id = id) = none → x.wb.find? (fun e => e.id = id) = some e →
         e.dest = s.self → s.dqTake u t id = s'.updUnt u (fun y => { y with wb := y.wb.map (fun k =>
           if k.id = id then { k with sent := true } else k) }))) ∧
  (∀ (n old b c : Nat), n = 4 ∨ n = 8 → old < 256 ^ n → b < 256 ^ n →
     let r (aop : Nat) : Nat := rmtApply aop n old b c % 256 ^ n
     r 0x01 = b ∧ r 0x02 = (old + b) % 256 ^ n ∧ r 0x04 = old &&& b ∧ r 0x05 = old ||| b ∧ r 0x06 = old ^^^ b ∧
     r 0x07 = (if toS (8 * n) b < toS (8 * n) old then b else old) ∧
     r 0x08 = (if toS (8 * n) old < toS (8 * n) b then b else old) ∧
     r 0x09 = min old b ∧ r 0x0A = max old b ∧ r 0x0B = b ∧ r 0x0C = (if old = c % 256 ^ n then b else old))

/-- NOP passes; END of a thread with no unreported failure drains it; BAR arrives with its release and acquire bits; FENCE,
DWAIT and VWAIT pass when what they wait for is over and no failure is to be reported, else the thread waits at the
instruction; WAITE passes with 0 in `d` when the Shelf word is equal, else it waits with its timeout armed. -/
def Obligations.SynchronisationPassesOrWaits : Prop :=
  ∀ (u : BitVec 20) (t : BitVec 3) (s : State),
    let u' := u.toNat
    let t' := t.toNat
    let x := s.unt u'
    let th := x.thr t'
    let waits (i : Instr) (w : WaitFor) : Prop := Yields s i (fun r => (s.atIssue u' t' 4).OnlyUnit r u' ∧ (r.thr u' t').st = .waiting ∧
      (r.thr u' t').wait = some w ∧ (r.thr u' t').pc = th.pc ∧ (r.thr u' t').s = th.s)
    (s.Issues u' t' 4 (wantS []) [] →
      Yields s (.nop u t 0 0 0) (fun r => s.RanThr r u' t' 4 id) ∧
      (th.endFails = [] → Yields s (.endThread u t 0 0 0) (fun r => (s.atIssue u' t' 4).OnlyUnit r u' ∧ (r.thr u' t').st = .draining ∧
        (r.thr u' t').pc = th.pc)) ∧
      (∀ d : BitVec 5, d.toNat < 4 → Yields s (.bar u t d 0 0) (fun r => (r.thr u' t').st = .waiting ∧
        (r.thr u' t').arrived = true ∧ (r.thr u' t').pc = th.pc ∧
        (r.thr u' t').wait = some (.bar (bitOf d.toNat 0) (bitOf d.toNat 1)) ∧ (let q := s.atIssue u' t' 4; { r with units := q.units, groups := q.groups } = q))) ∧
      (x.waitOver t' .fence = true → th.waitFail .fence = none → Yields s (.fence u t 0 0 0) (fun r => s.RanThr r u' t' 4 id)) ∧
      (x.waitOver t' .fence = false → waits (.fence u t 0 0 0) .fence) ∧
      (∀ m, th.waitFail .fence = some m → x.waitOver t' .fence = true →
        Yields s (.fence u t 0 0 0) (fun r => r = (s.atIssue u' t' 4).takeExc u' t' m.code m.detail)) ∧
      (∀ d : BitVec 5, d.toNat < 16 →
        (x.waitOver t' (.dwait d.toNat) = true → th.waitFail (.dwait d.toNat) = none →
          Yields s (.dwait u t d 0 0) (fun r => s.RanThr r u' t' 4 id)) ∧
        (x.waitOver t' (.dwait d.toNat) = false → waits (.dwait u t d 0 0) (.dwait d.toNat))) ∧
      (x.waitOver t' .vwait = true → Yields s (.vwait u t 0 0 0) (fun r => s.RanThr r u' t' 4 id)) ∧
      (x.waitOver t' .vwait = false → waits (.vwait u t 0 0 0) .vwait)) ∧
    (∀ d a b : BitVec 5, s.Issues u' t' 4 (wantS [d.toNat, a.toNat, b.toNat]) [.s d.toNat, .s a.toNat, .s b.toNat] →
      let o := (th.gs a.toNat).toNat
      let dur := (th.gs d.toNat).toNat % 2 ^ 32
      o % 8 = 0 → o < 16384 → s.rowsPoison u' o 8 = false → s.flawed (.shelf (u' * 2048 + o / 8)) = false →
        (w64 (s.shelfNat u' o 8) = th.gs b.toNat → Yields s (.waite u t d a b) (fun r => s.RanThr r u' t' 4 (·.setS d.toNat 0))) ∧
        (w64 (s.shelfNat u' o 8) ≠ th.gs b.toNat →
          waits (.waite u t d a b) (.waite o (th.gs b.toNat) d.toNat (if dur = 0 then none else some (s.count + dur)))))

/-- A precise exception: the thread is Stopped at the instruction with its registers as they were, and, when its kernel's
counter was open, the kernel is closed with the exception's code, unit, slot, pc and detail; BRK raises BREAK with detail 0.
The lowest code among failing checks is the one raised. -/
def Obligations.ExceptionsStopTheThreadAndAbortTheKernel : Prop :=
  (∀ (s : State) (u t code : Nat) (detail : Word), t < 8 →
    let th := s.thr u t
    let r := s.takeExc u t code detail
    (r.thr u t).st = .stopped ∧ (r.thr u t).pc = th.pc ∧ (r.thr u t).s = th.s ∧ (r.thr u t).v = th.v ∧ (r.thr u t).p = th.p ∧
    s.SameMem r ∧
    (∀ k, (s.ctx th.ctx).kernel = some k → k.closed = false →
      (r.ctx th.ctx).kernel = some { k with closed := true, cause := 0, exc := some ⟨code, u, t, th.pc, detail⟩ })) ∧
  (∀ (u : BitVec 20) (t : BitVec 3) (s : State), s.Issues u.toNat t.toNat 4 (wantS []) [] →
    Yields s (.brk u t 0 0 0) (fun r => r = (s.atIssue u.toNat t.toNat 4).takeExc u.toNat t.toNat 0x18 0)) ∧
  (∀ (l : List (Nat × Word)) (e : Nat × Word), lowestCheck l = some e → e ∈ l ∧ ∀ x ∈ l, e.1 ≤ x.1)

/-! ### What completes, and who waits for it -/

/-- Settling the threads of a unit changes who waits, and nothing that a program reads from registers or memory: every
scalar, vector and predicate register, every byte of memory and every thread's context and numbers stay. LOAD_RETURN of a
load from this package's Larder outside coherent segments: the line comes from the region's cache or the Larder; the
register takes its value, or a mark of code POISON when the line is poisoned or the unit's data path is found in error, the
load leaves the scoreboard, and no byte of memory changes; one that fails otherwise while its thread drains is a failure of
the thread. WAITE_TIMEOUT writes 1 into the register that WAITE names and lets the thread go on past it, at the expiry;
REMOTE_TIMEOUT frees the request, remembers its tag and requester so that a late answer is dropped, fails what waited with
TIMEOUT and the remote address, and lets what waited for the request's end go on. -/
def Obligations.ValuesReturnAndWaitsExpire : Prop :=
  (∀ (s : State) (u v t : Nat),
     let x := (s.settle u).thr v t
     let y := s.thr v t
     s.SameMem (s.settle u) ∧ x.s = y.s ∧ x.v = y.v ∧ x.p = y.p ∧ x.ctx = y.ctx ∧ x.tid = y.tid ∧ x.group = y.group ∧
     x.fpctl = y.fpctl ∧ x.vflags = y.vflags ∧ x.loads = y.loads ∧ (x.st = .ready → x.pc = y.pc ∨ x.pc = y.pc + 4)) ∧
  ((∀ (u : BitVec 20) (t : BitVec 3) (k key : Nat) (l : Load) (s : State),
     let u' := u.toNat
     let th := s.thr u' t.toNat
     s.dead = false → s.unitOk u' = true → th.loads[k]? = some l → l.rmt = none → l.remote = false →
     (s.unt u').queued t.toNat l.id = false →
     s.translate th.ctx l.addr = .larder key → s.inCoherent th.ctx l.addr = false → s.extentSectors th.ctx l.addr l.bytes = [] →
     s.actOpen (.rmt u' t.toNat l.id) = false →
       let c := s.cacheRead (rgnOf u') key false (if l.sz = 7 then 3 else 2)
       let x := if l.sz = 7 then c.1 else c.1 / 2 ^ (8 * (key % 64)) % 2 ^ (8 * szBytes l.sz)
       (c.2.1 = false → Yields s (.loadReturn u t k) (fun r => r = c.2.2.endLoad u' t.toNat l.id x none ∧ s.SameMem r)) ∧
       (c.2.1 = true → Yields s (.loadReturn u t k) (fun r => s.SameMem r ∧
         r = (c.2.2.notePoisonRead key).endLoad u' t.toNat l.id x (some ⟨0x10, w64 l.addr⟩)))) ∧
   (∀ (s : State) (u t id x : Nat) (l : Load), t < 8 → (s.thr u t).loads.find? (fun l => l.id = id) = some l →
     let th : Thread := { s.thr u t with loads := (s.thr u t).loads.filter (fun k => k.id ≠ id) }
     let ends (m : Option Mark) (y : Thread) : Prop := ∃ q : State, s.endLoad u t id x m = q.settle u ∧ s.OnlyUnit q u ∧
       q.unt u = (s.unt u).setThr t y
     (s.flawed (.unitData u) = false →
       (∀ i, l.reg = .s i → ends none (th.setS i (loadValue l.sz x))) ∧
       (∀ i, l.reg = .v i → ends none (th.setV i (BitVec.ofNat 512 (mergeBytes l.mask l.zero (th.gv i).toNat x))))) ∧
     (s.flawed (.unitData u) = true → s.endLoad u t id x none =
       (s.meet (.unitData u) (if l.sz = 7 then 3 else 2)).endLoad u t id x (some ⟨0x10, w64 l.addr⟩)) ∧
     (∀ a, th.st = .waiting → ends (some ⟨0x10, a⟩) (th.setMark l.reg ⟨0x10, a⟩)) ∧
     (∀ m : Mark, m.code ≠ 0x10 → th.st = .draining →
       s.endLoad u t id x (some m) = ((s.setThr u t (th.setMark l.reg m)).noteFail u t none m).settle u))) ∧
  ((∀ (u : BitVec 20) (t : BitVec 3) (o d e : Nat) (val : Word) (s : State),
     let u' := u.toNat
     let th := s.thr u' t.toNat
     s.dead = false → s.unitOk u' = true → th.st = .waiting → th.wait = some (.waite o val d (some e)) →
     (s.unt u').kat = none →
       Yields s (.waiteTimeout u t) (fun r => r.count = s.dueAt e ∧ s.SameMem r ∧
         r.unt u' = (s.unt u').setThr t.toNat
           (({ th with st := .ready, wait := none, pc := th.pc + 4, arrived := false } : Thread).setS d 1))) ∧
   (∀ (die : Fin 8) (tag : BitVec 16) (q : OutReq) (e : Nat) (s : State),
     let k := die.val * 2 ^ 16 + tag.toNat
     s.gly.reqs.find? k = some q → q.expiry = some e →
       ∃ x : State, x.count = s.dueAt e ∧
         x.gly = { s.gly with reqs := s.gly.reqs.del k, timed := s.gly.timed.put k (s.locator q.unit) } ∧
         x.units = s.units ∧ s.SameMem x ∧
         exec (.remoteTimeout die tag) s = .next ((x.failUse q.use ⟨0x12, w64 (q.seg * 2 ^ 60 + q.off)⟩).pairPump q.dest)))

/-- WRITE_BUFFER_COMPLETE performs a store of this package at its Larder place: the active bytes of memory take the entry's
data, the line stops being poisoned only when all of it is written, every other byte stays, and the entry leaves the buffer.
DMA_TAG_COMPLETE of a transfer whose writes are done ends it: the tag is free and its failure, if any, is noted. The
descriptors that a transfer wrote into a post area are consumed in order: when all have been, the tag is free; while an
older transfer into the same window waits, or writes of it to another package are open, this one waits; and a post area that is gone leaves nothing to consume. -/
def Obligations.StoresAndTransfersCompleteInOrder : Prop :=
  ((∀ (u : BitVec 20) (k key : Nat) (e : WbEntry) (s : State),
     let u' := u.toNat
     let x := s.unt u'
     let c := (x.thr e.slot).ctx
     s.dead = false → s.unitOk u' = true → x.wb[k]? = some e → x.wb.find? (fun y => y.id = e.id) = some e → e.remote = false →
     x.queued e.slot e.id = false → e.sent = true →
     e.rmt = none → x.earlierWrite e.slot e.id [e.dest] = false → s.actOpen (.wb u' e.id) = false →
     s.snoopLines c e.addr e.len true = [] → s.translate c e.addr = .larder key →
       exec (.writeBufferComplete u k) s = .next ((s.storeAt u' key e).endWb u' e.id none) ∧
       ∃ q : State, (s.storeAt u' key e).endWb u' e.id none = q.settle u' ∧
         q.unt u' = { x with wb := x.wb.filter (fun y => y.id ≠ e.id) } ∧ q.larder = (s.storeAt u' key e).larder ∧
         q.shelf = s.shelf) ∧
   (∀ (s : State) (u key : Nat) (e : WbEntry), Memory.wf s.larder = true → s.linePoison key = false →
     e.mask <<< (key % 64) ≠ 2 ^ 64 - 1 →
     ∀ a, Memory.get (s.storeAt u key e).larder a =
       if a / 64 = key / 64 ∧ bitOf (e.mask <<< (key % 64)) (a % 64) = true then
         BitVec.ofNat 8 (lane 8 (e.data <<< (8 * (key % 64))) (a % 64))
       else Memory.get s.larder a) ∧
   (∀ (u : BitVec 20) (t : BitVec 3) (tag : BitVec 2) (d : Dma) (s : State),
     let u' := u.toNat
     let th := s.thr u' t.toNat
     s.dead = false → s.unitOk u' = true → th.dma.toList.getD tag.toNat none = some d → d.parts = 0 → d.post = none →
     d.phase = 2 → d.failed = none → (s.unt u').queued t.toNat d.id = false → s.actOpen (.dma u' t.toNat tag.toNat) = false →
       Yields s (.dmaTagComplete u t tag) (fun r => ∃ q : State, r = q.settle u' ∧ s.OnlyUnit q u' ∧
         q.unt u' = (s.unt u').setThr t.toNat { th with dma := th.dma.setIfInBounds tag.toNat none }))) ∧
  (∀ (u : BitVec 20) (t : BitVec 3) (tag : BitVec 2) (d : Dma) (a n : Nat) (ds : List Vec) (s : State),
     let u' := u.toNat
     let th := s.thr u' t.toNat
     s.dead = false → s.unitOk u' = true → th.dma.toList.getD tag.toNat none = some d → d.post = some (a, n, ds) →
     (d.parts ≠ 0 → exec (.postAreaConsume u t tag) s = .next s) ∧
     (∀ p, (s.ctx th.ctx).posts.find? a = some p → s.postBefore (aDest p.d) n = false →
       (s.postAll th.ctx a (aDest p.d) ds).1 = [] → d.parts = 0 →
       Yields s (.postAreaConsume u t tag) (fun r => r =
         ((s.postAll th.ctx a (aDest p.d) ds).2.updDma u' t.toNat tag.toNat (fun d => { d with post := none })).endDma
           u' t.toNat tag.toNat d.failed)) ∧
     ((s.ctx th.ctx).posts.find? a = none → d.parts = 0 →
       Yields s (.postAreaConsume u t tag) (fun r => r = s.endDma u' t.toNat tag.toNat d.failed)) ∧
     (∀ p, (s.ctx th.ctx).posts.find? a = some p → s.postBefore (aDest p.d) n = true →
       exec (.postAreaConsume u t tag) s = .next s))

/-! ### Groups, regions and kernels -/

/-- TAKE_GROUP_NUMBER takes the running launch's next number for a die that has room for it; PLACE_GROUP gives the die's
first held number to the first free cluster of an active region of the set: its threads start at the launch's entry, with
their numbers, zeroed registers and the composition's arithmetic defaults, Ready or, in a persistent kernel, Pending. A
control parity error of the die or of the cluster's Puppeteer is found instead.
THREAD_DRAINED empties the slot of a thread that has ended and has nothing outstanding, and gives back its accumulators;
GROUP_END empties the slots of a group whose threads have ended or stopped with nothing outstanding, frees the cluster and
counts the group as ended; BARRIER_RELEASE lets every arrived thread of a group pass when all have arrived or ended, at once
for those without acquire, and for the others when the writes that the release waits for are performed. -/
def Obligations.GroupsAreTakenSynchroniseAndEnd : Prop :=
  (∀ (die : Fin 8) (ctx : BitVec 12) (k : Kernel) (s : State),
     let c := ctx.toNat
     let d := die.val
     s.dead = false → s.launchRuns c = some k →
       (s.mayTake d c = true → s.flawed (.die d) = true → exec (.takeGroupNumber die ctx) s = .next (s.meet (.die d) 0)) ∧
       (∀ (n cl : Nat) (ns cls : List Nat), s.heldNums d c = n :: ns → s.frozen (s.compOf c) = false →
         s.freeClusters ((s.setRegions d c).filter s.activeRgn) = cl :: cls → s.flawed (.puppeteer cl) = true →
         exec (.placeGroup die ctx) s = .next (s.meet (.puppeteer cl) 0)) ∧
       (s.mayTake d c = true → s.flawed (.die d) = false → Yields s (.takeGroupNumber die ctx) (fun r => s.SameMem r ∧ r.units = s.units ∧
         r.heldNums d c = s.heldNums d c ++ [k.next] ∧ (r.ctx c).kernel = some { k with next := k.next + 1 })) ∧
       (∀ (n cl : Nat) (ns cls : List Nat), s.heldNums d c = n :: ns → s.frozen (s.compOf c) = false → dThreads (s.kdesc c) ≤ 128 →
         s.freeClusters ((s.setRegions d c).filter s.activeRgn) = cl :: cls → s.flawed (.puppeteer cl) = false →
         Yields s (.placeGroup die ctx) (fun r => r.heldNums d c = ns ∧ r.larder = s.larder ∧
           (∃ g, r.groups.find? cl = some g ∧ g.ctx = c ∧ g.n = dThreads (s.kdesc c)) ∧
           ∀ i, i < dThreads (s.kdesc c) →
             let th := r.thr (groupSlot cl i).1 (groupSlot cl i).2
             th.st = (if dPersist (s.kdesc c) then .pending else .ready) ∧ th.ctx = c ∧ th.tid = i ∧ th.group = n ∧
             th.pc = w64 (fieldOf (s.kdesc c) 16 8) ∧ th.fpctl = w64 (s.fld rREPRO_DEFAULTS 2 0) ∧
             (∀ j, th.gs j = 0 ∧ (j ≠ 0 → th.gp j = 0)) ∧ ∀ j, th.gv j = 0))) ∧
  ((∀ (u : BitVec 20) (t : BitVec 3) (s : State),
     let u' := u.toNat
     let th := s.thr u' t.toNat
     s.dead = false → s.unitOk u' = true → th.st = .draining → th.wait = none →
     (s.unt u').outstanding t.toNat = false →
       Yields s (.threadDrained u t) (fun r => (r.thr u' t.toNat).st = .empty ∧ s.SameMem r ∧
         (∀ n, n < 4 → ((r.unt u').accu n).holder ≠ some t.toNat) ∧ ∀ v, v ≠ u' → r.unt v = s.unt v)) ∧
   (∀ (cl : BitVec 16) (g : GroupRun) (s : State),
     let c := cl.toNat
     s.dead = false → s.unitOk (c * 16) = true → s.groups.find? c = some g →
       (s.groupOver c g = true → (∀ p ∈ g.slots c, (s.thr p.1 p.2).wait = none) → Yields s (.groupEnd cl) (fun r => r.groups = s.groups.del c ∧ s.SameMem r ∧
         ∀ p ∈ g.slots c, (r.thr p.1 p.2).st = .empty)) ∧
       (s.groupOver c g = false → exec (.groupEnd cl) s = .next s) ∧
       ((∀ p ∈ g.slots c, (s.thr p.1 p.2).atBarrier = true) → (∃ p ∈ g.slots c, (s.thr p.1 p.2).arrived = true) →
         Yields s (.barrierRelease cl) (fun r => s.SameMem r ∧ ∀ p ∈ g.slots c,
           ∀ rel, (s.thr p.1 p.2).wait = some (.bar rel false) →
             (r.thr p.1 p.2).st = .ready ∧ (r.thr p.1 p.2).pc = (s.thr p.1 p.2).pc + 4 ∧ (r.thr p.1 p.2).arrived = false))))

/-- Regions wake and go down: a deferred wake begins when it may, by the die's limit on wakes; a wake completes at its time;
an idle region enters its idle state after the idle delay, and a gated or sleeping one turns Off after the off delay, which
is never when the delay is zero; a region that has turned Off has lost its Shelves. -/
def Obligations.RegionsWakeAndGoDown : Prop :=
  ∀ (die : Fin 8) (rgn : Fin 128) (s : State), s.dead = false →
    let r := die.val * 128 + rgn.val
    let x := s.rgn r
    (x.deferred = true → x.entering = none → x.pow = .gated → Yields s (.deferredWake die rgn) (fun q =>
      q.units = s.units ∧ s.SameMem q ∧ (q.rgn r).waking = some (s.count + 1) ∧ (q.rgn r).deferred = false)) ∧
    (∀ due, x.waking = some due → Yields s (.regionActive die rgn) (fun q => q.count = s.dueAt due ∧
      q.units = s.units ∧ s.SameMem q ∧ q.rgn r = { x with pow := .active, waking := none, idleAt := s.dueAt due })) ∧
    (s.activeRgn r = true → s.rgnBusy r = false → s.rgnHeld r = false →
      let due := s.dueAt (x.idleAt + 16 * s.fld rDIE_SCHED_CFG 19 4 die.val)
      Yields s (.idleDelayExpiry die rgn) (fun q => q.count = due ∧ q.units = s.units ∧ s.SameMem q ∧
        q.rgn r = { x with entering := some (s.idleState r, due + entryTime (s.idleState r)) })) ∧
    (x.pow = .gated ∨ x.pow = .sleep → x.entering = none → s.wakingRgn r = false → s.rgnHeld r = false →
      let d := s.fld rDIE_SCHED_CFG 31 24 die.val
      (d ≠ 0 → Yields s (.offDelayExpiry die rgn) (fun q => q.count = s.dueAt (x.lowAt + d * 2 ^ 24) ∧ s.SameMem q ∧
        ∃ due, (q.rgn r).entering = some (.off, due))) ∧
      (d = 0 → exec (.offDelayExpiry die rgn) s = .next s)) ∧
    (∀ p due, x.entering = some (p, due) → Yields s (.regionEntryComplete die rgn) (fun q => q.larder = s.larder ∧
      q.count = s.dueAt due ∧ q.rgn r = { x with pow := p, entering := none, lowAt := s.dueAt due } ∧
      (p ≠ .off → q.units = s.units ∧ q.shelf = s.shelf) ∧
      (p = .off → (∀ a, a / 2 ^ 24 = r → Memory.get q.shelf a = 0) ∧ ∀ a, a / 2 ^ 24 ≠ r → Memory.get q.shelf a = Memory.get s.shelf a)))

/-- KERNEL_START takes a context's first kernel descriptor when the context is Idle and nothing holds it: a launch becomes
the running kernel, and a descriptor that was decided at consumption completes with its status, a
scatter without positions having taken its batch number; PERSISTENT_RELEASE starts
every thread of a persistent kernel once all groups are placed; KERNEL_END ends a kernel whose groups have ended. -/
def Obligations.KernelsStartReleaseAndEnd : Prop :=
  ∀ (ctx : BitVec 12) (s : State), s.dead = false →
    let c := ctx.toNat
    (∀ q, s.kernelFront c = some q → s.mayStart c = true →
      (q.status = none → Yields s (.kernelStart ctx) (fun r => r = s.startKernel c q)) ∧
      (∀ st, q.status = some st → Yields s (.kernelStart ctx) (fun r => r =
        ((s.updCtx c (fun x => { x with queue := dropFirst (fun y => decide (y = q)) x.queue })).emptyScatter c q).complete c q
          { status := st })) ∧
      (q.op ≠ 5 → q.op ≠ 6 → s.emptyScatter c q = s) ∧
      (q.op = 1 → ((s.startKernel c q).ctx c).st = .running ∧ (s.startKernel c q).units = s.units ∧
        ∃ k, ((s.startKernel c q).ctx c).kernel = some k ∧ k.q = q ∧ k.next = 0 ∧ k.ended = 0 ∧ k.closed = false)) ∧
    (∀ k, s.launchRuns c = some k → dPersist k.q.d = true → k.released = false →
      (s.groups.filter (fun e => e.2.ctx = c)).length = dGroups k.q.d →
      Yields s (.persistentRelease ctx) (fun r => s.SameMem r ∧ (r.ctx c).kernel = some { k with released := true } ∧
        ∀ e, e ∈ s.groups.filter (fun e => e.2.ctx = c) → ∀ p ∈ e.2.slots e.1, p.2 < 8 → (r.thr p.1 p.2).st = .ready)) ∧
    (∀ k, (s.ctx c).kernel = some k →
      (s.kernelOver c k = true → Yields s (.kernelEnd ctx) (fun r => r = s.endKernel c k)) ∧
      (s.kernelOver c k = false → exec (.kernelEnd ctx) s = .next s)) ∧
    (∀ k : Kernel,
      (∀ e, k.exc = some e → (s.kernelResult k).status = stException ∧ (s.kernelResult k).code = e.code ∧
        (s.kernelResult k).detail = e.detail.toNat ∧ (s.kernelResult k).pc = e.pc.toNat) ∧
      (k.exc = none → k.cause ≠ 0 → (s.kernelResult k).status = stAborted ∧ (s.kernelResult k).code = k.cause) ∧
      (k.exc = none → k.cause = 0 → k.result = none → (s.kernelResult k).status = stOK))

/-! ### Descriptors of the command windows -/

/-- A descriptor whose SEQ is not the one expected completes with SEQ and the expected number as DETAIL; a queued one that
finds 1,024 open completes with FULL; else the window expects the next SEQ and the descriptor is accepted (R365 to R367);
a Halted context's window answers HALTED to all but CONTEXT_RESET, and an Unset one's STATE (the model's choice of a status,
log entry 54) to all but control descriptors that name it; a publish descriptor at a package without a Cellar completes with
NO_CELLAR.
Kernel and hub-order descriptors that pass their checks wait in the context's queue, behind those already there, and nothing
else changes; one that fails completes at once with the status of the check. -/
def Obligations.DescriptorsAreConsumedInSequenceAndWait : Prop :=
  (∀ (e : Nat × (BitVec 12 → BitVec 512 → Instr)), e ∈ windowCommands → ∀ (ctx : BitVec 12) (d : BitVec 512) (s : State),
     s.dead = false →
     let c := ctx.toNat
     let q := descOf e.1 d
     let counted := s.inc rETH_DESC 63 0
     (q.seq ≠ (s.ctx c).nextSeq → exec (e.2 ctx d) s =
       .next ((counted.inc rETH_DESC_REFUSED 31 0).complete c q { status := stSeq, detail := (s.ctx c).nextSeq })) ∧
     (q.seq = (s.ctx c).nextSeq → isControlOp e.1 = false → 1024 ≤ s.openDescs c → exec (e.2 ctx d) s =
       .next ((counted.inc rETH_DESC_REFUSED 63 32).complete c q { status := stFull })) ∧
     (q.seq = (s.ctx c).nextSeq → isControlOp e.1 = true ∨ s.openDescs c < 1024 →
       exec (e.2 ctx d) s = .next ((s.consumed c).accept c q) ∧
       ((s.consumed c).ctx c).nextSeq = ((s.ctx c).nextSeq + 1) % 2 ^ 32 ∧
       { s.consumed c with ctl := s.ctl, ctxs := s.ctxs } = s ∧
       ((s.ctx c).st = .halted → e.1 ≠ 0x21 →
         exec (e.2 ctx d) s = .next ((s.consumed c).complete c q { status := stHalted })) ∧
       ((s.ctx c).st ≠ .halted → s.noCellar e.1 = true →
         exec (e.2 ctx d) s = .next ((s.consumed c).complete c q { status := stNoCellar })) ∧
       ((s.ctx c).st = .unset → unsetTakes c e.1 (withOp e.1 d) = false → s.noCellar e.1 = false →
         exec (e.2 ctx d) s = .next ((s.consumed c).complete c q { status := stState })))) ∧
  (∀ (ctx : BitVec 12) (d : BitVec 512) (s : State),
     let c := ctx.toNat
     let s1 := s.consumed c
     let waits (i : Instr) (op : Nat) (s2 : State) : Prop := ∃ q : QDesc, q.op = op % 2 ^ 16 ∧ q.d = withOp op d ∧ q.post = none ∧
       exec i s = .next (s2.updCtx c (fun x => { x with queue := x.queue ++ [q] }))
     (∀ e, e ∈ [(0x1, Instr.launch ctx d), (0x2, .search ctx d), (0x3, .gather ctx d), (0x4, .gatherPool ctx d),
         (0x5, .scatterSet ctx d), (0x6, .scatterAdd ctx d)] → s.Queues c e.1 d →
       (kernelNop e.1 (withOp e.1 d) = true ∨ s1.kernelCheck c e.1 (withOp e.1 d) = none → waits e.2 e.1 s1) ∧
       (∀ st, kernelNop e.1 (withOp e.1 d) = false → s1.kernelCheck c e.1 (withOp e.1 d) = some st →
         s.Denies e.2 c e.1 d st)) ∧
     (∀ e, e ∈ windowCommands → isHubOp e.1 = true → s.Queues c e.1 d → ∀ s2,
       s1.hubCheck c e.1 (withOp e.1 d) = (stOK, s2) → waits (e.2 ctx d) e.1 s2) ∧
     (∀ sd, withOp 0x18 d = sd → sdLen sd ≠ 0 → s.Queues c 0x18 d → s1.sendCheck c sd = none → waits (.svcSend ctx d) 0x18 s1) ∧
     (∀ n, n = 0x201 ∨ n = 0x202 → s.Queues c n d → s1.ckptTakeCheck c n (withOp n d) = none →
       waits (if n = 0x201 then Instr.ckptTake ctx d else .ckptRestore ctx d) n s1) ∧
     (s.Queues c 1 d → (s.ctx c).rgnCount = 0 → dGroups (withOp 1 d) ≠ 0 → dGroups (withOp 1 d) ≤ 2 ^ 32 →
       dThreads (withOp 1 d) ≠ 0 → dThreads (withOp 1 d) ≤ 128 → fieldOf (withOp 1 d) 16 8 % 4 = 0 →
       s1.segCheck c (fieldOf (withOp 1 d) 16 8) 1 permR = none → s.Denies (.launch ctx d) c 1 d stTooLarge))

/-- Publication follows the states of Table 06-8 at consumption: PUBLISH_OPEN opens a vintage whose number is above every
one opened before; extents and shares must come in index order and take a place in the vintage; PUBLISH_SEAL and
PUBLISH_ABORT close it to more; VINTAGE_RETIRE moves a sealed, unbound vintage to Retiring; COUNTER_READ checks its pages.
-/
def Obligations.PublicationFollowsItsStates : Prop :=
  ∀ (ctx : BitVec 12) (d : BitVec 512) (s : State), s.hasCellar = true →
    let c := ctx.toNat
    let s1 := s.consumed c
    let comp := s.compOf c
    let D (op : Nat) : Vec := withOp op d
    let k := vintKey comp (pVint d)
    let into (i : Instr) (op : Nat) (p : State → Prop) : Prop := s.Queues c op d → Yields s i (fun r =>
      (∃ q : QDesc, q.d = D op ∧ (r.ctx c).queue = (s.ctx c).queue ++ [q]) ∧ r.units = s.units ∧ s.SameMem r ∧ p r)
    (s.cel.opened.has comp = false ∨ s.cel.opened.getD comp 0 < pVint d → (comp = 0 ∨ (s.cel.vints.filter (fun v => v.2.comp = comp)).length < ((s.partOf comp).map (·.vintages)).getD 0) →
      s.cel.vints.length < 64 →
      (s.cel.vints.filter (fun v => v.2.st = 0)).length < 4 → into (.publishOpen ctx d) 0x10 (fun r =>
        ∃ v, r.cel.vints.find? k = some v ∧ v.st = 0 ∧ v.exts = [] ∧ v.planned = 0 ∧ r.cel.opened.find? comp = some (pVint d))) ∧
    (∀ v, s.cel.vints.find? k = some v → v.takes = true →
      (pIndex d = v.planned → s1.larderCheck c (pAddr d) (2 ^ 21) permR = none → s1.celUsed comp < s1.celQuota comp →
        s1.setsFit k 1 = true → s1.celFailed < 3 → into (.publishExtent ctx d) 0x11 (fun r =>
          r.cel.vints.find? k = some { v with coming := v.coming + 1, planned := v.planned + 1 })) ∧
      (pIndex d ≠ v.planned → s.Queues c 0x11 d → s.Denies (.publishExtent ctx d) c 0x11 d stState) ∧
      (∀ f, pFrom d ≠ pVint d → pIndex d = v.planned → s.vint? comp (pFrom d) = some f → f.st ≠ 0 → pFromIdx d < f.exts.length →
        into (.publishShare ctx d) 0x12 (fun r => r.cel.vints.find? k = some { v with planned := v.planned + 1 } ∧
          r.cel.vints.find? (vintKey comp (pFrom d)) = some { f with pins := f.pins + 1 })) ∧
      (let pads := (s.celHalf - (v.own + v.coming) % s.celHalf) % s.celHalf;
        s1.larderCheck c (pAddr d) 40 permW = none → s1.celUsed comp + pads ≤ s1.celQuota comp →
        into (.publishSeal ctx d) 0x13 (fun r =>
          r.cel.vints.find? k = some { v with coming := v.coming + pads, closing := true })) ∧
      into (.publishAbort ctx d) 0x14 (fun r => r.cel.vints.find? k = some { v with closing := true })) ∧
    (∀ v, s.cel.vints.find? k = some v → v.st = 1 → s1.vintBound comp (pVint d) = false →
      into (.vintageRetire ctx d) 0x15 (fun r => r.cel.vints.find? k = some { v with st := 2 })) ∧
    (∀ g, s.seg? c (pSeg d) = some g → pCount d ≠ 0 → pAddr d % 2 ^ 21 = 0 → pAddr d + (pCount d - 1) * 2 ^ 21 < g.limit →
      s1.larderCheck c (pDest d) (4 * pCount d) permW = none → into (.counterRead ctx d) 0x16 (fun r => r.cel = s.cel))

/-- The control descriptors of contexts, from a window that may name the target: CONTEXT_RESET makes a halted context Idle,
CONTEXT_ABORT closes its kernel with cause 1, CONTEXT_SET sets its fields and makes an Unset context Idle with SEQ 0 next,
and CONTEXT_FREE leaves it Unset with no region, page and segment. -/
def Obligations.ContextDescriptorsActOnTheirTarget : Prop :=
  ∀ (ctx : BitVec 12) (d : BitVec 512) (s : State),
    let c := ctx.toNat
    let s1 := s.consumed c
    let does (i : Instr) (op : Nat) (p : Nat → State → Prop) : Prop := s.Consumes c op d →
      s1.ctlTarget c (cTarget (withOp op d)) = true → ∃ q, s.Does i c op d 0 q ∧ p (cTarget (withOp op d)) q
    does (.contextAbort ctx d) 0x22 (fun t q => q = s1.abortKernel t 1 none) ∧
    (let t := cTarget (withOp 0x21 d);
      s.dead = false → dSeq (withOp 0x21 d) = (s.ctx c).nextSeq → ((s.ctx c).st = .unset → t = c) → s1.ctlTarget c t = true →
      ((s.ctx t).st = .halted → s.Does (.contextReset ctx d) c 0x21 d 0 (s1.updCtx t (fun x => { x with st := .idle }))) ∧
      ((s.ctx t).st ≠ .halted → s.Does (.contextReset ctx d) c 0x21 d 0 s1)) ∧
    (let D := withOp 0x20 d;
      let t := cTarget D
      let mask := fieldOf D 18 1
      let first := fieldOf D 19 1 % 128
      let cnt := fieldOf D 20 1
      let pages := fieldOf D 22 2
      cnt ≤ 128 → pages ≤ 8192 → fieldOf D 40 8 % 64 = 0 → first + cnt ≤ s.nRgn →
      (∀ r, r ∈ maskRgns mask first cnt → s1.rgnComp r = (if s1.compOf t = 0 then none else some (s1.compOf t)) ∧
        ∀ e, e ∈ s1.ctxs → e.1 ≠ t → e.2.hasRgn r = false) → pages ≤ s1.pfLeft t → (s1.ctx t).st ≠ .running →
      does (.contextSet ctx d) 0x20 (fun t q => s.SameMem q ∧
        ((q.ctx t).dieMask, (q.ctx t).first, (q.ctx t).cnt, (q.ctx t).pfPages) = (mask, first, cnt, pages) ∧
        ((s1.ctx t).st = .unset → (q.ctx t).st = .idle ∧ (q.ctx t).nextSeq = 0) ∧
        ((s1.ctx t).st ≠ .unset → (q.ctx t).st = (s1.ctx t).st) ∧
        ∀ e, e ≠ t → q.ctx e = s1.ctx e)) ∧
    (let t := cTarget (withOp 0x23 d);
      t ≠ 0 → (s1.ctx t).st ≠ .running →
      (∀ g, g ∈ (s1.ctx t).segs → s1.aliased t g.1 = false ∧ s1.keyed t g.1 = false ∧ s1.attachedTo t g.1 = false) →
      does (.contextFree ctx d) 0x23 (fun t q => (q.ctx t).st = .unset ∧ (q.ctx t).cnt = 0 ∧ (q.ctx t).pfPages = 0 ∧
        s.SameMem q ∧ ∀ g, g ∈ (s1.ctx t).segs → (q.ctx t).segs.find? g.1 = none))

/-- The control descriptors of segments: SEG_SET with LIMIT 0 does nothing; else a well-formed one whose bytes fit gives the
context the segment it describes, with the pages it needs on this package; SEG_REBIND moves a Cellar segment to another
sealed vintage that is large enough; SEG_DELETE removes it; RESUME lets every stalled thread that it covers try again and
closes its fault record. -/
def Obligations.SegmentDescriptorsSetBindAndDelete : Prop :=
  ∀ (ctx : BitVec 12) (d : BitVec 512) (s : State),
    let c := ctx.toNat
    let s1 := s.consumed c
    let does (i : Instr) (op : Nat) (p : Nat → Nat → State → Prop) : Prop := s.Consumes c op d →
      let D := withOp op d
      s1.ctlTarget c (cTarget D) = true → (s1.ctx (cTarget D)).st ≠ .unset →
      ∃ q, s.Does i c op d 0 q ∧ s.SameMem q ∧ q.units = s.units ∧ p (cTarget D) (cSeg D) q
    (let D := withOp 0x24 d;
      let g := segOf D
      (g.limit = 0 → does (.segSet ctx d) 0x24 (fun _ _ q => q = s1)) ∧
      (g.limit ≠ 0 → s1.seg? (cTarget D) (cSeg D) = none → segBad (cTarget D) (cSeg D) g = false → g.tier = 0 →
        (cTarget D ≠ 0 ∨ g.placement ≠ 2) → s1.keyBeyond (cTarget D) (cSeg D) g.limit = false →
        s1.aliasBad (s1.compOf (cTarget D)) g = none →
        let want := if g.present = true ∧ g.src = none then s1.needPages (s1.compOf (cTarget D)) g else []
        want.length ≤ s1.quotaLeft (s1.compOf (cTarget D)) → s1.pagesFit want = true →
        does (.segSet ctx d) 0x24 (fun t gi q => ∃ x, q.seg? t gi = some x ∧ { x with pages := [] } = g ∧
          ∀ k, x.pages.has k = want.contains k))) ∧
    (let D := withOp 0x25 d;
      ∀ g, s1.seg? (cTarget D) (cSeg D) = some g → g.tier = 1 → g.present = true →
        s1.bindCheck (s1.compOf (cTarget D)) g (fieldOf D 20 4) = none →
        does (.segRebind ctx d) 0x25 (fun t gi q => q.seg? t gi = some { g with vintage := fieldOf D 20 4 })) ∧
    (let D := withOp 0x26 d;
      let t := cTarget D
      (s1.seg? t (cSeg D)).isSome = true → (s1.ctx t).st ≠ .running → s1.aliased t (cSeg D) = false →
        s1.keyed t (cSeg D) = false → s1.attachedTo t (cSeg D) = false →
        does (.segDelete ctx d) 0x26 (fun t gi q => q.seg? t gi = none ∧ ∀ g, g ≠ gi → q.seg? t g = s1.seg? t g)) ∧
    (let D := withOp 0x27 d;
      (∀ x, x ∈ s1.covered D → ∀ e, x.2.2.expiry = some e → s1.count ≤ e) → s1.covered D ≠ [] → bitOf (fieldOf D 18 1) 1 = false →
      s.Consumes c 0x27 d → s1.ctlTarget c (cTarget D) = true → ∃ q, s.Does (.resume ctx d) c 0x27 d 0 q ∧ s.SameMem q ∧
        ∀ x, x ∈ s1.covered D → x.2.1 < 8 → (q.thr x.1 x.2.1).st = .ready ∧ (q.thr x.1 x.2.1).stall = none ∧
          (q.thr x.1 x.2.1).pc = (s.thr x.1 x.2.1).pc)

/-- The control descriptors of services, queue pairs, keys and completion rings: each, on a target that the window may name
and with operands that pass its checks, changes just the binding, pair, key or ring that it names. A detach ends at once when
the tracker shows the agent holding nothing in the segment; else its lines are recalled, and the agent stays attached until
then. -/
def Obligations.ServiceDescriptorsBindAndRelease : Prop :=
  ∀ (ctx : BitVec 12) (d : BitVec 512) (s : State),
    let c := ctx.toNat
    let s1 := s.consumed c
    let does (i : Instr) (op : Nat) (p : State → Prop) : Prop := s.Consumes c op d → s1.ctlTarget c (cTarget (withOp op d)) = true →
      ∃ detail q, s.Does i c op d detail q ∧ s.SameMem q ∧ q.units = s.units ∧ p q
    (let D := withOp 0x29 d;
      let t := cTarget D;
      let qp := fieldOf D 18 2 % 2 ^ 14;
      (∀ b, bitOf (fieldOf D 22 1) 0 = false → s1.intakeOf qp = some b → s1.compOf? b = s1.compOf? t →
        does (.svcIntake ctx d) 0x29 (fun q => (q.ctx b).intakes.find? qp = none)) ∧
      (bitOf (fieldOf D 22 1) 0 = true → 1 ≤ iUnits D → iUnits D ≤ 64 → 6 ≤ iLog2 D → iLog2 D ≤ 16 → offAt14 D 46 % 512 = 0 →
        offAt14 D 46 ≤ 15872 → fieldOf D 24 8 % 64 = 0 → fieldOf D 32 8 % 8 = 0 →
        s1.larderCheck t (fieldOf D 24 8) (64 * iUnits D * 2 ^ iLog2 D) permW = none →
        s1.larderCheck t (fieldOf D 32 8) 8 permR = none → (∀ k, s1.translate t (fieldOf D 32 8) ≠ .remote k) →
        s1.flagUnit t (locAt D 40) = true →
        (∃ x, s1.qps.find? qp = some x ∧ x.comp = s1.compOf t) → s1.persists t = true → s1.intakeOf qp = none →
        (s1.ctx t).intakes.length < 16 →
        does (.svcIntake ctx d) 0x29 (fun q => ∃ i, (q.ctx t).intakes.find? qp = some i ∧ i.d = D ∧ i.n = 0))) ∧
    (let D := withOp 0x2A d;
      let t := cTarget D;
      (bitOf (fieldOf D 20 1) 2 = false → ∀ p, (s1.ctx t).posts.find? (aNo D) = some p →
        does (.svcPost ctx d) 0x2A (fun q => (q.ctx t).posts.find? (aNo D) = some { p with on := false })) ∧
      (bitOf (fieldOf D 20 1) 2 = true → offAt14 D 54 % 512 = 0 → offAt14 D 54 ≤ 15872 → fieldOf D 24 8 % 65536 = 0 →
        fieldOf D 32 8 % 64 = 0 → fieldOf D 40 8 % 8 = 0 → s1.larderCheck t (fieldOf D 24 8) 65536 permW = none →
        s1.larderCheck t (fieldOf D 32 8) 131072 permW = none → s1.larderCheck t (fieldOf D 40 8) 8 permR = none →
        (∀ k, s1.translate t (fieldOf D 40 8) ≠ .remote k) → s1.flagUnit t (locAt D 48) = true → aDest D ≠ t → (s1.compOf? (aDest D)).isSome = true →
        s1.compOf? (aDest D) = s1.compOf? t → s1.persists t = true → (s1.ctx t).posts.find? (aNo D) = none →
        does (.svcPost ctx d) 0x2A (fun q => ∃ p, (q.ctx t).posts.find? (aNo D) = some p ∧ p.d = D ∧ p.on = true ∧ p.used = 0 ∧
          p.m = 0))) ∧
    (let D := withOp 0x2B d;
      let t := cTarget D;
      let b := fieldOf D 18 1;
      let port := fieldOf D 20 2 % 1024 * 64 + fieldOf D 22 1 % 64;
      let a : Attach := ⟨t, b % 16, port, 0, true⟩
      bitOf b 5 = true → bitOf b 4 = true → fieldOf D 20 2 % 1024 ≤ 767 → fieldOf D 23 1 % 16 = 0 →
      (∃ m, s1.map.comps.find? (s1.compOf t) = some m ∧ m.stripe.contains port = true) →
      (∃ g, s1.seg? t (b % 16) = some g ∧ g.c = true ∧ g.placement < 2 ∧ g.src = none) → s1.aliased t (b % 16) = false →
      s1.home.attach.length < 8 →
      (∀ x, x ∈ s1.home.attach → ¬(x.ctx = t ∧ x.seg = b % 16 ∧ x.port = port ∧ x.agent = 0)) →
        does (.cohAttach ctx d) 0x2B (fun q => q.home.attach = s1.home.attach ++ [a] ∧
          (s1.isAttached port 0 = false → q.home.leases.has (port * 16) = true))) ∧
    (let D := withOp 0x2B d;
      let t := cTarget D;
      let b := fieldOf D 18 1;
      let port := fieldOf D 20 2 % 1024 * 64 + fieldOf D 22 1 % 64;
      let q := descOf 0x2B d
      let same (x : Attach) : Prop := x.ctx = t ∧ x.seg = b % 16 ∧ x.port = port ∧ x.agent = 0
      ∀ g a, bitOf b 5 = true → bitOf b 4 = false → fieldOf D 20 2 % 1024 ≤ 767 → fieldOf D 23 1 % 16 = 0 →
        (∃ m, s1.map.comps.find? (s1.compOf t) = some m ∧ m.stripe.contains port = true) →
        s1.seg? t (b % 16) = some g → g.c = true → g.placement < 2 → g.src = none → s1.aliased t (b % 16) = false →
        s.Consumes c 0x2B d → s1.ctlTarget c t = true →
        ((∀ x, x ∈ s1.home.attach → ¬same x) → s.Does (.cohAttach ctx d) c 0x2B d 0 s1) ∧
        (a ∈ s1.home.attach → same a → (∀ x, x ∈ s1.home.attach → same x → x = a) → s1.home.leaving = [] →
          ((s1.heldLines a).isEmpty = true → ∃ r, s.Does (.cohAttach ctx d) c 0x2B d 0 r ∧ s.SameMem r ∧
            r.home.attach = s1.home.attach.erase a ∧ r.home.leaving = []) ∧
          ((s1.heldLines a).isEmpty = false → Yields s (.cohAttach ctx d) (fun r => r.home.attach = s1.home.attach ∧
            r.home.leaving = [⟨c, q, a⟩] ∧ s.SameMem r ∧
            ∀ e, e ∈ s1.heldLines a → ∃ x, x ∈ r.home.txns ∧ x.2.line = e.1 ∧ x.2.act = .recall)))) ∧
    (let D := withOp 0x2C d;
      let t := cTarget D;
      let qp := fieldOf D 18 2 % 2 ^ 14;
      (fieldOf D 20 1 % 4 = 0 → s1.qpBad D = false →
        (s1.compOf t = 0 ∨ (s1.qps.filter (fun q => q.2.comp = s1.compOf t)).length <
          ((s1.partOf (s1.compOf t)).map (·.qpQuota)).getD 0) →
        ∀ n, leastBelow 16384 (fun q => !s1.qps.has q) = some n → s.Consumes c 0x2C d → s1.ctlTarget c t = true →
          s.Does (.qpSet ctx d) c 0x2C d n { s1 with qps := s1.qps.put n (newQp (s1.compOf t) t D) }) ∧
      (∀ x, s1.qps.find? qp = some x → x.comp = s1.compOf t →
        (fieldOf D 20 1 % 4 = 1 → s1.qpBad D = false → qpFixed D = qpFixed x.d →
          does (.qpSet ctx d) 0x2C (fun q => q = { s1 with qps := s1.qps.put qp { x with d := D } })) ∧
        (fieldOf D 20 1 % 4 = 2 → does (.qpSet ctx d) 0x2C (fun q =>
          let y : Qp := { x with err := false, unacked := [], timer := none, reads := [], retries := 0, rnrs := 0,
                                 sqPsn := fieldOf D 28 3, rqPsn := fieldOf D 32 3 }
          q = x.unacked.foldl State.msgLost { s1 with qps := s1.qps.put qp y })) ∧
        (fieldOf D 20 1 % 4 = 3 → s1.qpCarries qp = false → does (.qpSet ctx d) 0x2C (fun q => q.qps.find? qp = none)) ∧
        (fieldOf D 20 1 % 4 = 3 → s1.qpCarries qp = true → s.Consumes c 0x2C d → s1.ctlTarget c t = true →
          s.Denies (.qpSet ctx d) c 0x2C d stBusy))) ∧
    (let D := withOp 0x2D d;
      let t := cTarget D;
      let b := fieldOf D 18 1;
      ∀ g n, bitOf b 3 = false → bitOf b 0 = false → s1.seg? t (cSeg D) = some g → g.tier = 0 →
        fieldOf D 32 8 % 2 ^ 60 ≠ 0 → fieldOf D 24 8 % 2 ^ 60 + fieldOf D 32 8 % 2 ^ 60 ≤ g.limit →
        (s1.compOf t = 0 ∨ (s1.keys.filter (fun k => k.2.comp = s1.compOf t)).length <
          ((s1.partOf (s1.compOf t)).map (·.keyQuota)).getD 0) → leastBelow 32768 (fun i => !s1.keys.has i) = some n →
        s.Consumes c 0x2D d → s1.ctlTarget c t = true → ∃ q, s.Does (.keySet ctx d) c 0x2D d (s1.keyGen.getD n 0 * 2 ^ 15 + n) q ∧
          s.SameMem q ∧ ∃ k, q.keys.find? n = some k ∧ k.gen = s1.keyGen.getD n 0 ∧ k.ctx = t ∧ k.seg = cSeg D ∧
            k.win = fieldOf D 24 8 % 2 ^ 60 ∧ k.len = fieldOf D 32 8 % 2 ^ 60 ∧ k.acc = bits b 2 1 ∧ k.revoked = false) ∧
    (let D := withOp 0x2E d;
      let t := cTarget D;
      let b := fieldOf D 18 1;
      let n := fieldOf D 19 1 % 32;
      (bitOf b 2 = false → does (.cringSet ctx d) 0x2E (fun q => (q.ring t (b % 4)).set = false)) ∧
      (∀ x, bitOf b 2 = true → bitOf b 3 = false → 6 ≤ n → n ≤ 16 → fieldOf D 32 8 % 32 = 0 →
        s1.qps.find? (fieldOf D 20 2 % 2 ^ 14) = some x → x.comp = s1.compOf t →
        does (.cringSet ctx d) 0x2E (fun q => q.ring t (b % 4) =
          ⟨true, fieldOf D 20 2 % 2 ^ 14, fieldOf D 24 4, fieldOf D 32 8, n, false, fieldOf D 40 8, 0, 0⟩)))

/-- The control descriptors of the map, of tables and of checkpoints: MAP_PROPOSE from another context than 0 is BOUNDS and
counted, one that is not the bytes of a proposal MALFORMED, and an undecided one waits; KEY_REVOKE revokes the key at once
and completes when no access under it is open; LEDGER_SET keeps where charge records go; TABLE_SET describes a table;
CKPT_SET switches checkpoints of a composition of several packages on and off. -/
def Obligations.SystemDescriptorsChangeTheirTables : Prop :=
  ∀ (ctx : BitVec 12) (d : BitVec 512) (s : State),
    let c := ctx.toNat
    let s1 := s.consumed c
    (s.Consumes c 0x100 d →
      let q := descOf 0x100 d
      exec (.mapPropose ctx d) s = .next (if c ≠ 0 then (s1.inc rCMP_PROPOSALS 63 32).complete c q { status := stBounds }
        else match s1.mapPropose q with
          | (some st, r) => r.complete c q { status := st }
          | (none, r) => r) ∧
      (c = 0 → (fieldOf (withOp 0x100 d) 24 4 < 448 ∨ 65536 < fieldOf (withOp 0x100 d) 24 4) →
        exec (.mapPropose ctx d) s = .next ((s1.inc rCMP_PROPOSALS 63 32).complete c q { status := stMalformed }))) ∧
    (let D := withOp 0x101 d;
      let no := fieldOf D 16 4;
      s.Consumes c 0x101 d → ∀ k, s1.keys.find? (no % 2 ^ 15) = some k → k.gen = no / 2 ^ 15 →
        (c = 0 ∨ (s1.compOf? c = some k.comp ∧ k.control = false)) →
        Yields s (.keyRevoke ctx d) (fun r => r.keys.find? (no % 2 ^ 15) = some { k with revoked := true } ∧
          { r with keys := s1.keys, map := { r.map with revoking := s1.map.revoking } } = s1 ∧
          ∃ x, r.map.revoking = s1.map.revoking ++ [x] ∧ x.key = some no ∧ x.q = some (c, descOf 0x101 d))) ∧
    (let D := withOp 0x102 d;
      let l := fieldOf D 32 1;
      s.Consumes c 0x102 d →
        (c = 0 → 4 ≤ l → l ≤ 16 → ∃ q, s.Does (.ledgerSet ctx d) c 0x102 d 0 q ∧
          q.map.ledger = some (fieldOf D 16 2, fieldOf D 20 4, fieldOf D 24 8, l) ∧ s.SameMem q) ∧
        (c ≠ 0 → s.Denies (.ledgerSet ctx d) c 0x102 d stBounds)) ∧
    (let D := withOp 0x28 d;
      let t := cTarget D;
      let n := fieldOf D 18 1 % 64;
      ∀ g, s1.seg? t (tSeg D) = some g → g.placement ≠ 2 → tShard D ≠ 3 → (tShard D = 1 → tRows D ≤ tRange D * s1.tP t D) →
        tFormat D ≤ 7 → 1 ≤ fieldOf D 22 2 % 2048 → fieldOf D 22 2 % 2048 ≤ 1024 → tRows D ≠ 0 → tSpare D ≤ 65536 →
        (tImb D = 0 ∨ 16 < tImb D) → 1 ≤ tMigMax D → tMigMax D ≤ 16384 → (tMigEn D = true → tSpare D ≠ 0 ∧ g.tier = 0) → tBase D + (s1.tCap t D + tSpare D) * tRowBytes D ≤ g.limit → s1.tableBusy t n = false →
        (s1.table? t n = none ∨ ∃ old, s1.table? t n = some old ∧ sameTable old D = false ∧ (s1.etab t n).redirects = []) →
        s.Consumes c 0x28 d → s1.ctlTarget c t = true →
          ∃ q, s.Does (.tableSet ctx d) c 0x28 d 0 q ∧ s.SameMem q ∧ (q.ctx t).tables.find? n = some ⟨D, 0⟩) ∧
    (let D := withOp 0x200 d;
      let comp := s1.compOf (cTarget D);
      s.Consumes c 0x200 d → s1.ctlTarget c (cTarget D) = true → s1.coordinates comp = true →
        ((s1.stripe comp).length ≤ 1 → s.Denies (.ckptSet ctx d) c 0x200 d stState) ∧
        (1 < (s1.stripe comp).length → (s1.ckpt? comp).phase = 0 →
          (bitOf (fieldOf D 18 1) 0 = true → fieldOf D 20 2 ≠ 0 → fieldOf D 20 2 < (s1.stripe comp).length →
            s.Does (.ckptSet ctx d) c 0x200 d 0 (s1.updCkpt comp (fun k =>
              { k with enabled := true, step := fieldOf D 20 2, interval := fieldOf D 24 4, lastAt := s.count }))) ∧
          (bitOf (fieldOf D 18 1) 0 = false → ∃ q, s.Does (.ckptSet ctx d) c 0x200 d 0 q ∧
            (q.ckpt? comp).enabled = false ∧ (q.ckpt? comp).image = none ∧ (q.ckpt? comp).undo = [])))

/-- The hub-order queue runs its first descriptor when its composition is not frozen; a descriptor decided at consumption
completes with its status; PUBLISH_OPEN completes with OK; a SVC_SEND that its client has acknowledged completes with OK and
leaves; a system descriptor is one of context 0. A control parity error of the hub is found before it runs one. -/
def Obligations.HubOrderDescriptorsRunInOrder : Prop :=
  (∀ (ctx : BitVec 12) (q : QDesc) (s : State), s.dead = false →
    let c := ctx.toNat
    s.hubFront c = some q →
    let gone := s.updCtx c (fun x => { x with queue := dropFirst (fun y => decide (y = q)) x.queue, hubOn := false })
    (s.frozen (s.compOf c) = false → s.flawed .hub = true → exec (.hubOrderRun ctx) s = .next (s.meet .hub 0)) ∧
    (s.frozen (s.compOf c) = false → s.flawed .hub = false →
      (∀ st, q.status = some st → exec (.hubOrderRun ctx) s = .next (gone.complete c q { status := st })) ∧
      (q.status = none → q.op = 0x10 → exec (.hubOrderRun ctx) s = .next (gone.complete c q { status := stOK }))) ∧
    (s.frozen (s.compOf c) = true → (s.ctx c).hubOn = false → exec (.hubOrderRun ctx) s = .next s)) ∧
  (∀ (ctx : BitVec 12) (k n : Nat) (q : QDesc) (p : Qp) (s : State), s.dead = false →
    let c := ctx.toNat
    s.qps.findKey? (fun _ q => q.unacked.head?.any (fun m => m.use == .svc c k)) = some n → s.qps.find? n = some p →
    (s.ctx c).sends.find? k = some q →
      Yields s (.svcSendAck ctx k) (fun r => (r.ctx c).sends.find? k = none ∧ s.SameMem r ∧
        r.fld rCTX_SVC_SENDS 31 0 = (s.fld rCTX_SVC_SENDS 31 0 + 1) % 2 ^ 32 ∧
        ∃ y l, r.qps.find? n = some y ∧ y.unacked = p.unacked.drop 1 ++ l)) ∧
  (∀ (d : BitVec 512) (s : State), s.dead = false →
    exec (.sysDesc d) s = .next (s.consume 0 d true)) ∧
  (∀ (d : BitVec 512) (s : State), s.dead = false → dSeq d ≠ (s.ctx 0).nextSeq →
    Yields s (.sysDesc d) (fun r => ∃ q : State, r = q.complete 0
      { op := dOp d, seq := dSeq d, d := d, sys := true, status := none, post := none, fwd := none }
      { status := stSeq, detail := (s.ctx 0).nextSeq } ∧ q.ctxs = s.ctxs))

/-- A completion record holds the descriptor's SEQ and OPCODE, the status, the code, DETAIL, pc, locator and context; one
that is asked for is held for its ring, and one whose ring is not set is counted and reported. COMPLETION_WRITE sends the
oldest held record of a ring by its queue pair to the entry that its count names, with PHASE, and counts it, while FREED
allows; FREED_UPDATE reads the count of consumed entries at the ring's FREED address, and asks another package that holds it
(F then keeps its value until the answer: the model's choice, log entry 102). -/
def Obligations.CompletionsAreKeptAndWrittenInRingOrder : Prop :=
  (∀ (s : State) (c : Nat) (q : QDesc) (r : Result), q.sys = false → q.post = none →
     let rec256 := cmpRecord c q r
     let t := s.complete c q r
     (dReq q.d = false → t = s) ∧
     (dReq q.d = true → (s.ring c (dRing q.d)).set = true → t = s.updCtx c (fun x =>
       { x with held := x.held ++ [⟨dRing q.d, rec256, q.seq, dNotify q.d⟩] })) ∧
     (dReq q.d = true → (s.ring c (dRing q.d)).set = false → (t.ctx c).held = (s.ctx c).held ∧ s.SameMem t ∧
       t.fld rETH_CMP_NORING 31 0 = (s.fld rETH_CMP_NORING 31 0 + 1) % 2 ^ 32) ∧
     (q.seq < 2 ^ 32 → q.op < 2 ^ 16 → r.status < 256 → r.code < 256 → r.detail < 2 ^ 64 → r.pc < 2 ^ 64 → r.loc < 2 ^ 40 → c < 4096 →
       rec256 % 2 ^ 32 = q.seq ∧ rec256 / 2 ^ 32 % 2 ^ 16 = q.op ∧ rec256 / 2 ^ 48 % 2 ^ 8 = r.status ∧
       rec256 / 2 ^ 56 % 2 ^ 8 = r.code ∧ rec256 / 2 ^ 64 % 2 ^ 64 = r.detail ∧ rec256 / 2 ^ 128 % 2 ^ 64 = r.pc ∧
       rec256 / 2 ^ 192 % 2 ^ 40 = r.loc ∧ rec256 / 2 ^ 232 = c)) ∧
  (∀ (ctx : BitVec 12) (n : Nat) (s : State), s.dead = false → n < 4 →
     let c := ctx.toNat
     let k := s.ring c n
     (∀ h p, (s.ctx c).held.find? (fun h => h.ring = n) = some h → h.notify = false → k.set = true → k.allows = true →
       s.qps.find? k.qp = some p → p.comp = s.compOf c → p.err = false →
       Yields s (.completionWrite ctx n) (fun r => s.SameMem r ∧ r.units = s.units ∧ r.ring c n = { k with m := k.m + 1 } ∧
         (∃ l l', (s.ctx c).held = l ++ h :: l' ∧ (r.ctx c).held = l ++ l' ∧ ∀ x, x ∈ l → x.ring ≠ n) ∧
         r.tx = s.tx ++ [.rdma k.qp p.sqPsn (.write k.key (k.va + 32 * (k.m % 2 ^ k.log2)))
           (leBytes 32 (h.rec256 + (k.m / 2 ^ k.log2 + 1) % 2 * 2 ^ 248))])) ∧
     ((s.ctx c).held.find? (fun h => h.ring = n) = none → exec (.completionWrite ctx n) s = .next s) ∧
     (k.set = true → k.allows = false → exec (.completionWrite ctx n) s = .next s) ∧
     (k.set = true → k.freedEn = true →
       ((∀ x, s.translate c k.freed ≠ .remote x) → Yields s (.freedUpdate ctx n) (fun r => r =
         (s.setFreed c n (s.freedAt c k.freed)).freedMeet c k.freed)) ∧
       (∀ x, s.translate c k.freed = .remote x → s.freedShut c k.freed = false → Yields s (.freedUpdate ctx n) (fun r =>
         r = s.request (s.mkReq 0x01 x 0 c k.freed 8 [] 0 (.count c n))))) ∧
     (∀ key, s.segCheck c k.freed 8 permR = none → s.absent c k.freed = false → s.inLarder c k.freed = true →
       s.keyOf c k.freed = some key → s.linePoison key = false → s.freedAt c k.freed = leNat (s.larderRead key 8)))

/-- Faults wait for a service: a posted fault whose record could not be written is posted when records are free again,
oldest first; an expired service time aborts the context's kernel with cause 2 and remembers its fault IDs; a page of a
deleted segment is freed, zeroed and unowned once no access is open. -/
def Obligations.FaultsAreServedAndPagesReleased : Prop :=
  (∀ s : State, s.dead = false → exec .faultRecordDelayedPost s = .next s.postWaiting ∧ s.SameMem s.postWaiting ∧
    (s.waitingStalls = [] → exec .faultRecordDelayedPost s = .next s) ∧
    (∀ x u t, s.waitingStalls = [(x, u, t)] → s.mayPost (s.thr u t).ctx = true →
      exec .faultRecordDelayedPost s = .next (s.postOne u t true))) ∧
  (∀ (s : State) (u t slot : Nat) (st : Stall), t < 8 → (s.thr u t).stall = some st →
    leastBelow 4096 (fun i => !s.flt.recs.has i) = some slot →
    let r := s.postOne u t true
    ((r.thr u t).stall.bind (·.slotNo)) = some slot ∧ r.flt.recs.has slot = true ∧
    r.fld rFLT_POSTED 63 0 = (s.fld rFLT_POSTED 63 0 + 1) % 2 ^ 64 ∧ s.SameMem r) ∧
  (∀ (u : BitVec 20) (t : BitVec 3) (x : Stall) (e : Nat) (k : Kernel) (s : State), s.dead = false → s.unitOk u.toNat = true →
    let th := s.thr u.toNat t.toNat
    th.st = .stalled → th.stall = some x → x.expiry = some e → (s.ctx th.ctx).kernel = some k → k.closed = false →
    Yields s (.serviceTimeout u t) (fun r => r.count = s.dueAt e ∧ s.SameMem r ∧
      (r.ctx th.ctx).kernel = some { k with closed := true, cause := 2, exc := none } ∧
      r.fld rFLT_TMO_ABORT 31 0 = (s.fld rFLT_TMO_ABORT 31 0 + 1) % 2 ^ 32)) ∧
  (∀ (die : Fin 8) (page : BitVec 17) (comp : Nat) (s : State), s.dead = false →
    let p := die.val * 2 ^ 17 + page.toNat
    (p, comp) ∈ s.map.freeing → comp ∉ s.map.draining → s.accessOpen p = false →
    Yields s (.pageRelease die page) (fun r => r.shelf = s.shelf ∧ r.units = s.units ∧ r.pageOwner.find? p = none ∧
      (Memory.wf s.larder = true → ∀ a, Memory.get r.larder a = if a / 2 ^ 21 = p then 0 else Memory.get s.larder a)))

/-! ### The Cellar -/

/-- Messages of the storage modules: IDENT makes a module known on a channel that is up; a malformed reply is answered by
ERROR; READ_DATA with its 4,096 bytes gives a sector its data, or the scrubber a position of its row, and frees its tag, and
one whose tag is unknown or past its timeout is counted late; WRITE_ACK counts toward its vintage, TRIM_ACK frees its tag, a
status FAILED in either, or a write that was not made durable (the model's choice, log entry 62), fails the module, STATUS is
kept, and ERROR ends the request that it names. -/
def Obligations.ModuleMessagesEndTheirRequests : Prop :=
  ∀ (ch : Fin 17) (h : CelHdr) (s : State), s.dead = false →
    let c := ch.val
    let tag := h.tag
    let k := c * 1024 + tag.toNat
    let freed := s.dropTag c tag.toNat
    (∀ (id : BitVec 256) (n : BitVec 64) (v : BitVec 16), (s.chan c).up = true →
      ((s.chan c).ident = true → (s.chan c).failed = false → (s.chan c).modId = id.toNat → exec (.ident ch id n v) s = .next s) ∧
      ((s.chan c).ident = false → (s.chan c).failed = false → (s.chan c).modId = 0 → Yields s (.ident ch id n v) (fun r =>
        (r.chan c).ident = true ∧ (r.chan c).modId = id.toNat ∧ (r.chan c).sectors = n.toNat ∧ (r.chan c).failed = false ∧
        s.SameMem r))) ∧
    (∀ data, celFlawed h 0x11 data = true → Yields s (.readData ch (echoOf h) h.status h.bad data) (fun r => r = s.celError c 0x11 h)) ∧
    (celFlawed h 0x21 [] = true → Yields s (.writeAck ch (echoOf h) h.status) (fun r => r = s.celError c 0x21 h)) ∧
    (celFlawed h 0x29 [] = true → Yields s (.trimAck ch h) (fun r => r = s.celError c 0x29 h)) ∧
    (s.cel.tags.find? k = none → ∀ data, celFlawed h 0x11 data = false → Yields s (.readData ch (echoOf h) h.status h.bad data) (fun r =>
      r = (s.unstale k).inc rCEL_RD_LATE 31 0)) ∧
    (∀ t, s.cel.tags.find? k = some t →
      (∀ data x, celFlawed h 0x11 data = false → t.kind = 0 → t.ch = c → t.expiry = some x → x < s.count →
        Yields s (.readData ch (echoOf h) h.status h.bad data) (fun r => r = s.inc rCEL_RD_LATE 31 0)) ∧
      (∀ data : List (BitVec 8), t.kind = 0 → t.ch = c → (∀ x, t.expiry = some x → s.count ≤ x) → tag.toNat < 1024 →
        h.status = 0 → h.count = 1 → data.length = 4096 →
        (t.fkey ≠ scrubKey → Yields s (.readData ch (echoOf h) h.status h.bad data) (fun r => r = (freed.celGot t.fkey t.pos data).sectorPump)) ∧
        (t.fkey = scrubKey → Yields s (.readData ch (echoOf h) h.status h.bad data) (fun r => r = (freed.scrubGot t.pos data).sectorPump))) ∧
      (celFlawed h 0x21 [] = false → t.kind = 1 →
        (h.status = 0 → Yields s (.writeAck ch (echoOf h) h.status) (fun r => r = freed.ackVint t.vint)) ∧
        (h.status ≠ 0 → Yields s (.writeAck ch (echoOf h) h.status) (fun r => r = (freed.ackVint t.vint).chanFailed c 2))) ∧
      (celFlawed h 0x29 [] = false → t.kind = 2 →
        (h.status ≠ 3 → Yields s (.trimAck ch h) (fun r => r = freed)) ∧
        (h.status = 3 → Yields s (.trimAck ch h) (fun r => r = freed.chanFailed c 2))) ∧
      (tag.toNat < 1024 →
        (t.kind = 2 → Yields s (.error ch (BitVec.ofNat 40 (0x28 + 2 ^ 16 * tag.toNat))) (fun r => r = freed)) ∧
        (t.kind = 0 → t.fkey ≠ scrubKey → Yields s (.error ch (BitVec.ofNat 40 (0x10 + 2 ^ 16 * tag.toNat))) (fun r =>
          r = (freed.celMiss t.fkey t.pos).sectorPump)))) ∧
    (∀ (health spare : BitVec 8) (temp : BitVec 16), (s.chan c).ident = true → Yields s (.status ch 0 health spare temp) (fun r =>
      (r.chan c).health = health.toNat ∧ (r.chan c).spare = spare.toNat ∧ (r.chan c).temp = temp.toNat ∧
      (r.chan c).statusAt = s.count ∧ { r with cel := s.cel } = s)) ∧
    (∀ (pos key : Nat) (f : CFetch) (data : List Byte), s.cel.fetch.find? key = some f → f.recon = none →
      (s.celGot key pos data).cel.fetch.find? key = some { f with got := some (some data) })

/-- Timers of the Cellar: a read that expires gives its tag up, is counted on its channel and is served by reconstruction; a
present module that sends no STATUS in 2^24 counts, or whose link has been down for 2^22, fails; a rebuild period lets RATE
more stripe sets be reconstructed, row by row, onto the spare, and the last row of the last set ends with the slot healthy; a
scrub period lets RATE sets be read and checked, a wrong sector that the syndromes identify is rewritten and reported, and a
row without one is poisoned; the scrub of the Larder goes one line a command, at its cursor, when the line is due (spread
evenly over the interval: the model's choice, log entry 96). -/
def Obligations.CellarAndLarderTimersWalkTheirSets : Prop :=
  ∀ (s : State), s.dead = false →
    (∀ (ch : Fin 17) (tag : BitVec 16) (t : CTag) (due : Nat), s.cel.tags.find? (ch.val * 1024 + tag.toNat) = some t →
      let recent := (s.chan ch.val).tmos.filter (fun x => decide (s.dueAt due < x + 2 ^ 25))
      t.kind = 0 → tag.toNat < 1024 → t.expiry = some due →
      ∃ x : State, x.count = s.dueAt due ∧ x.cel.tags = ((s.untilDue due).loseTag ch.val tag.toNat).cel.tags ∧
        (s.cel.unsent.any (fun w => w.ch == ch.val) = false → x.cel.tags = s.cel.tags.del (ch.val * 1024 + tag.toNat) ∧
          x.cel.stale = s.cel.stale.add (ch.val * 1024 + tag.toNat)) ∧
        (x.chan ch.val).tmoCount = bump 16 (s.chan ch.val).tmoCount 1 ∧ (x.chan ch.val).tmos.head? = some (s.dueAt due) ∧
        s.SameMem x ∧ exec (.cellarReadTimeout ch tag) s =
          .next (if recent.length < 15 then x.readMiss t else (x.readMiss t).chanFailed ch.val 3).sectorPump) ∧
    (∀ ch : Fin 17, (s.chan ch.val).ident = true → (s.chan ch.val).failed = false →
      (s.chanPresent ch.val = true → exec (.cellarStatusTimeout ch) s =
        .next ((s.untilDue ((s.chan ch.val).statusAt + 2 ^ 24)).chanFailed ch.val 1)) ∧
      ((s.chan ch.val).up = false → exec (.cellarLinkDownTimeout ch) s =
        .next ((s.untilDue ((s.chan ch.val).downAt + 2 ^ 22)).chanFailed ch.val 0)) ∧
      ∀ cause, ((s.chanFailed ch.val cause).chan ch.val).failed = true) ∧
    (s.cel.rebuild.isSome = true → s.fld rCEL_REBUILD 15 0 ≠ 0 →
      let u := s.untilDue (s.cel.periodAt + 2 ^ 16)
      exec .rebuildPeriod s = .next ({ u with cel := { u.cel with
        rbGoal := min s.celSets (s.cel.cursor + s.fld rCEL_REBUILD 15 0), periodAt := s.dueAt (s.cel.periodAt + 2 ^ 16) } }).sectorPump) ∧
    (∀ (n f : Nat), s.cel.rebuild = some n →
      (s.cel.fetch.find? (s.rbKey n) = none → s.cel.cursor < s.cel.rbGoal →
        State.rebuildPump (f + 1) s = State.rebuildPump f (s.startRecon (s.rbKey n) false [])) ∧
      (s.cel.fetch.find? (s.rbKey n) = none → s.cel.rbGoal ≤ s.cel.cursor → State.rebuildPump (f + 1) s = s) ∧
      (∀ x, s.cel.fetch.find? (s.rbKey n) = some x →
        (x.got = none → State.rebuildPump (f + 1) s = s) ∧
        (∀ v, x.got = some v → State.rebuildPump (f + 1) s = State.rebuildPump f (s.rebuildNext n v)))) ∧
    (∀ (n : Nat) (v : Option (List Byte)),
      let r := s.rebuildNext n v
      s.SameMem r ∧ r.units = s.units ∧
      (s.cel.rbRow < 255 → r.cel.cursor = s.cel.cursor ∧ r.cel.rbRow = s.cel.rbRow + 1 ∧ r.cel.rebuild = s.cel.rebuild) ∧
      (s.cel.rbRow = 255 → s.cel.cursor + 1 < s.celSets →
        r.cel.cursor = s.cel.cursor + 1 ∧ r.cel.rbRow = 0 ∧ r.cel.rebuild = s.cel.rebuild) ∧
      (s.cel.rbRow = 255 → s.celSets ≤ s.cel.cursor + 1 → n < 16 → r.slot n = (1, (s.slot n).2))) ∧
    (s.fld rCEL_SCRUB 15 0 ≠ 0 → s.hasCellar = true → s.celSets ≠ 0 →
      let u := s.untilDue (s.cel.scrubAt + 2 ^ 16)
      exec (.cellarScrubPeriod ()) s = .next ({ u with cel := { u.cel with
        scrubAt := s.dueAt (s.cel.scrubAt + 2 ^ 16), scLeft := s.fld rCEL_SCRUB 15 0 } }).sectorPump) ∧
    (∀ (r : Assoc (List Byte)) (pos : Nat) (bs : List Byte), s.cel.scrub = some r →
      let all := r.put pos bs
      let set := s.cel.scrubCursor
      let row := s.cel.scRow
      let q := s.scrubGot pos bs
      s.SameMem q ∧ q.units = s.units ∧
      (all.length < s.celN → q.cel.scrub = some all ∧ q.cel.scRow = row ∧ q.tx = s.tx) ∧
      (s.celN ≤ all.length → rowVerdict s.celD all = none → q = s.scrubNext) ∧
      (s.celN ≤ all.length → rowVerdict s.celD all = some none → q = (s.poisonRow set row).scrubNext) ∧
      (∀ p v, s.celN ≤ all.length → rowVerdict s.celD all = some (some (p, v)) →
        let sl := stripeSlot s.celN set row p
        q = ((s.celWrite (s.slot sl).2 (stripeSector set row) v 0).raise
          { code := 0x0602, sev := 1, oper := 0, d0 := set, d1 := row, d2 := sl }).scrubNext)) ∧
    (∀ (die : Fin 8) (stack : Fin 2),
      let cur := s.fld rLRD_SCRUB_STAT 37 0 die.val
      s.fld rLRD_CFG 0 0 die.val ≠ 0 → bits cur 8 8 = stack.val → cur + 64 < dieBytes →
        s.flawed (.line ((die.val * 2 ^ 38 + cur) / 64)) = false →
        Yields s (.larderScrub die stack false false) (fun r => r.fld rLRD_SCRUB_STAT 37 0 die.val = cur + 64 ∧ s.SameMem r ∧
          r.count = s.dueAt (s.patrolDue die.val) ∧
          r.lpois = s.lpois ∧ r.units = s.units) ∧
        Yields s (.larderScrub die stack false true) (fun r => r.fld rLRD_SCRUB_STAT 37 0 die.val = cur + 64 ∧ s.SameMem r ∧
          r.lpois.contains ((die.val * 2 ^ 38 + cur) / 64) = true ∧ r.units = s.units) ∧
        Yields s (.larderScrub die stack true false) (fun r => r.fld rLRD_SCRUB_STAT 37 0 die.val = cur + 64 ∧ s.SameMem r ∧
          r.lpois = s.lpois ∧ r.units = s.units))

/-! ### Search and embedding tables -/

/-- The searches between packages and the batches of a die: a forwarded search enters a set context's queue with its lead; a
batch starts on a free active region; a finished batch frees its region and is counted; when no batch is left the round's
lists merge and a peer reports to its lead; a reply that nothing waits for, or of another search, is counted late, and one
that is bad, or too late, takes its package out; an abort from the lead aborts the kernel of the search that it names with
cause 5, and takes one that still waits from the queue (the model's choice, log entry 98). A search keeps its best entries in order
and no more than it asks for: merging keeps at most `k`, in rising distance with the lower id first, no entry twice, and
each of them an entry of the merged lists. -/
def Obligations.SearchesRunTheirRoundsAndMerge : Prop :=
  (∀ (ctx : BitVec 12) (s : State), s.dead = false →
     let c := ctx.toNat
     (∀ (src : BitVec 16) (d : BitVec 512) (n : Nat) (qs : List QueryFwd), s.srch.find? c = none →
       ((s.ctx c).st = .idle → (s.ctx c).cnt ≠ 0 → s.peerCheck c d = none → Yields s (.searchForward src ctx d n qs) (fun r =>
         ∃ q : QDesc, q.op = 2 ∧ q.fwd = some (src.toNat, n, qs) ∧ q.status = none ∧
           r = s.updCtx c (fun x => { x with queue := x.queue ++ [q] }))) ∧
       ((s.ctx c).st = .unset → Yields s (.searchForward src ctx d n qs) (fun r =>
         r = s.send (.msg src.toNat 2 [c, dSeq d, 1])))) ∧
     (∀ (die : Fin 8) (r : Srch) (b : SBatch) (g : Nat) (l : List Nat), s.srch.find? c = some r → r.nextOf die.val = some b →
       s.setRegions die.val c = g :: l → s.activeRgn g = true → r.running.has g = false → s.rgnBusy g = false →
       ∃ q : State, (∃ x, q.srch.find? c = some x ∧ x.running.find? g = some b ∧ x.queued = dropBatch b r.queued) ∧
         (q.rgn g).idleSel = 0 ∧ { q with srch := s.srch, rgns := s.rgns } = s ∧
         exec (.listBatchIssue die ctx) s = .next (q.keepWant c b.addr (b.len (sCode r.d)))) ∧
     (∀ (die : Fin 8) (rgn : Fin 128) (r : Srch) (b : SBatch),
       let g := die.val * 128 + rgn.val
       s.srch.findKey? (fun _ r => r.running.has g) = some c → s.srch.find? c = some r → r.running.find? g = some b → s.hubHere c b.addr (b.len (sCode r.d)) = true →
       let got := s.memRead c b.addr (b.len (sCode r.d))
       let ts := if got.2 then [] else (r.tombs.find? g).getD (s.tombParts c r b got.1)
       (ts.all (fun p => s.hubHere c p.1 p.2) = true → Yields s (.listBatchEnd die rgn) (fun q => s.SameMem q ∧ q.units = s.units ∧
         (∃ x, q.srch.find? c = some x ∧ x.running.find? g = none ∧ x.queued = r.queued ∧ x.stage = r.stage))) ∧
       (ts.all (fun p => s.hubHere c p.1 p.2) = false → r.tombs.has g = true → exec (.listBatchEnd die rgn) s = .next s)) ∧
     (∀ r p, s.srch.find? c = some r → r.stage = 2 → r.queued = [] → r.running = [] → r.lead = some p →
       Yields s (.searchRoundEnd ctx) (fun q => (∃ x, q.srch.find? c = some x ∧ x.stage = 3 ∧ x.dieBest = [] ∧
           x.qs.map (·.total) = r.qs.map (fun y => y.total + y.matched)) ∧
         q.tx = s.tx ++ [.msg p 2 (c :: dSeq r.d :: 0 :: r.qs.map (·.matched))] ∧ q.units = s.units ∧ s.SameMem q)) ∧
     (∀ (peer : BitVec 16) (x : PeerReply),
       (s.srch.find? c = none → Yields s (.searchPeerReply ctx peer x) (fun q => q = s.inc rSRCH_LATE 31 0)) ∧
       (∀ r, s.srch.find? c = some r → dSeq r.d ≠ x.seq.toNat →
         Yields s (.searchPeerReply ctx peer x) (fun q => q = s.inc rSRCH_LATE 31 0)) ∧
       (∀ r e, s.srch.find? c = some r → dSeq r.d = x.seq.toNat → r.waiting.find? peer.toNat = some (some e) →
         (e < s.count → Yields s (.searchPeerReply ctx peer x) (fun q => q = (s.inc rSRCH_LATE 31 0).peerFailed c peer.toNat)) ∧
         (s.count ≤ e → x.bad = true → Yields s (.searchPeerReply ctx peer x) (fun q => q = s.peerFailed c peer.toNat)) ∧
         (s.count ≤ e → x.bad = false → ∃ (q : State) (y : Srch), exec (.searchPeerReply ctx peer x) s = .next (q.searchPump c) ∧
           { q with srch := s.srch } = s ∧ q.srch.find? c = some y ∧ y.waiting = r.waiting.del peer.toNat ∧ y.failed = r.failed ∧
           (x.best = none → ∀ i, i < r.qs.length → (y.qs.map (·.total))[i]? =
             (r.qs.map (·.total))[i]?.map (fun n => n + x.matched.getD i 0))) ∧
         Yields s (.searchPeerTimeout ctx peer) (fun q => q = (s.untilDue e).peerFailed c peer.toNat))) ∧
     (∀ (src : BitVec 16) (seq : BitVec 32),
       let mine (q : QDesc) : Bool := (match q.fwd with | some f => f.1 == src.toNat | none => false) && dSeq q.d == seq.toNat
       let left := s.updCtx c (fun x => { x with queue := x.queue.filter (fun q => !mine q) })
       (∀ k, (s.ctx c).kernel = some k → mine k.q = true →
         Yields s (.searchAbort ⟨src, ctx, seq⟩) (fun q => q = left.abortKernel c 5 none)) ∧
       (∀ k, (s.ctx c).kernel = some k → mine k.q = false → Yields s (.searchAbort ⟨src, ctx, seq⟩) (fun q => q = left)) ∧
       ((s.ctx c).kernel = none → Yields s (.searchAbort ⟨src, ctx, seq⟩) (fun q => q = left)))) ∧
  (∀ (k : Nat) (ls : List (List SEnt)),
     (sMerge false k ls).length ≤ k ∧
     (sMerge false k ls).Pairwise (fun a b => a.dist < b.dist ∨ (a.dist = b.dist ∧ a.id < b.id)) ∧
     ∀ e, e ∈ sMerge false k ls → e ∈ ls.flatten)

/-- Updates of an embedding table between packages: a package without a map, or fenced, answers none; one outside the hub's
virtual channel is malformed, one for a table that is not there, or of a source outside the composition, is refused; the home
takes what it owns and every strict one and forwards another of a row that has moved; a holder takes what it holds and sends
back what it holds no longer, and one that comes back to its home is a dispute; a marker is kept for its batch; the batch
that has waited longest too long for a marker is given up, with everything in it refused. -/
def Obligations.EmbeddingUpdatesAreTakenForwardedOrRefused : Prop :=
  ∀ (s : State), s.dead = false →
    (∀ m : EmbUpd,
      let c := m.h.ctx.toNat
      let t := m.tab.toNat
      let e := s.etab c t
      let u : EUpd := ⟨some (m.l, m.h), m.row, m.set, (m.bag, m.pos, m.src), m.data⟩
      let v : EUpd := { u with ans := some (s.linkTo m.h, m.h) }
      (s.mute = true → exec (.embUpdate m) s = .next s ∧ ∀ b, exec (.forwardedRequest m b) s = .next s) ∧
      (s.mute = false →
        (m.h.vc ≠ 3 → Yields s (.embUpdate m) (fun r => r = s.nackReq m.l m.h 0x01)) ∧
        (s.table? c t = none → (m.h.vc = 3 → Yields s (.embUpdate m) (fun r => r = s.nackReq m.l m.h 0x06)) ∧
          ∀ b, exec (.forwardedRequest m b) s = .next s) ∧
        (∀ d, s.table? c t = some d →
          let home := s.tPkg c d (s.tHome c d m.row).1
          (m.h.vc = 3 → s.reqMember m.h = false → Yields s (.embUpdate m) (fun r => r = s.nackReq m.l m.h 0x04)) ∧
          (m.h.vc = 3 → s.reqMember m.h = true →
            (home = s.self → e.redirects.find? m.row = none →
              Yields s (.embUpdate m) (fun r => r = s.ownerTakes c t d m.h.strict m.batch u)) ∧
            (∀ x, home = s.self → e.redirects.find? m.row = some x → m.h.strict = true ∨ x.st = 0 →
              Yields s (.embUpdate m) (fun r => r = s.ownerTakes c t d m.h.strict m.batch u)) ∧
            (∀ x, home = s.self → e.redirects.find? m.row = some x → m.h.strict = false → x.st ≠ 0 →
              Yields s (.embUpdate m) (fun r => r = s.updForward c t x.peer false m.batch u)) ∧
            (home ≠ s.self → e.holds m.row = true → Yields s (.embUpdate m) (fun r =>
              r = if m.h.strict = true then s.holderTakes c t d m.batch u else s.ownerTakes c t d false m.batch u)) ∧
            (home ≠ s.self → e.holds m.row = false → Yields s (.embUpdate m) (fun r =>
              r = s.updForward c t home m.h.strict m.batch u))) ∧
          (hPort m.h ≠ s.self → e.holds m.row = true →
            Yields s (.forwardedRequest m false) (fun r =>
              r = if m.h.strict = true then s.holderTakes c t d m.batch v else s.ownerTakes c t d false m.batch v) ∧
            Yields s (.forwardedRequest m true) (fun r => ∃ q : State,
              let x := s.rowPart (2 ^ 16 + hPort m.h) c (s.ownAddr c t d m.row + m.off) m.off m.h.len.toNat (tRowBytes d)
              r = q.respond (s.linkTo m.h) m.h 0x40 0 x.1.2 x.1.1 ∧ s.SameMem q)) ∧
          (∀ x b, e.holds m.row = false → home = s.self → e.redirects.find? m.row = some x → x.st = 1 →
            Yields s (.forwardedRequest m b) (fun r => r = s.dispute c t m.row)) ∧
          (e.holds m.row = false → home ≠ s.self →
            Yields s (.forwardedRequest m true) (fun r => r = s.fwdRead home m.h) ∧
            Yields s (.forwardedRequest m false) (fun r => r = s.updForward c t home m.h.strict m.batch v))))) ∧
    (∀ (l : Fin 17) (h : ReqHdr) (ctx : BitVec 12) (tab : BitVec 6) (batch src : Nat),
      let c := ctx.toNat
      let t := tab.toNat
      (s.mute = true → exec (.endMarker l h ctx tab batch src) s = .next s) ∧
      (s.mute = false → h.vc ≠ 3 → Yields s (.endMarker l h ctx tab batch src) (fun r => r = s.nackReq l h 0x01)) ∧
      (s.mute = false → h.vc = 3 → s.table? c t = none → Yields s (.endMarker l h ctx tab batch src) (fun r =>
        r = s.nackReq l h 0x06)) ∧
      (∀ d, s.mute = false → h.vc = 3 → s.table? c t = some d → Yields s (.endMarker l h ctx tab batch src) (fun r =>
        r = if s.reqMember h = true then (s.ownerMark c t d batch src (some (l, h))).embPump else s.nackReq l h 0x04))) ∧
    (∀ (ctx : BitVec 12) (tab : BitVec 6) (d : Vec),
      let c := ctx.toNat
      let t := tab.toNat
      let e := s.etab c t
      let lacks (n x : Nat) : Prop := ∃ b, (n, b) ∈ e.batches ∧ b.expiry = some x ∧ s.marked c d b = false
      s.table? c t = some d →
        (∀ n x, s.collDue c t d = some (n, x) → lacks n x ∧ (∀ n' x', lacks n' x' → x ≤ x') ∧
          Yields s (.collectiveTimeout ctx tab) (fun r => r = (s.untilDue x).collEnd c t d n)) ∧
        (s.collDue c t d = none → (∀ n x, ¬lacks n x) ∧ exec (.collectiveTimeout ctx tab) s = .next s) ∧
        (∀ b, e.batches = [(e.next, b)] → e.dead = [] → s.emb.runs.find? c = none →
          let r := s.collEnd c t d e.next
          (r.etab c t).batches = [] ∧ (r.etab c t).next = e.next + 1 ∧ s.SameMem r ∧ r.units = s.units)) ∧
    (∀ (ctx : BitVec 12) (tab : BitVec 6) (p : Pre) (d : Vec) (rows : List Nat),
      let c := ctx.toNat
      let t := tab.toNat
      s.emb.pres.find? (c * 64 + t) = some p → p.rows = some rows → s.table? c t = some d →
        (∀ y, y ∈ rows → s.rowHere c t d y = true) → Yields s (.prefetch ctx tab) (fun r => r = s.preEnd c t d rows))

/-- Hot rows move between packages: the counts of a window go to the table's first package and start again, and a migration
left without an answer for a whole window is abandoned (the model's choice, log entry 101); rows offered to a package with
room take its free slots at the offered version, and without room it answers with none; a home whose offer is answered with
too few slots gives the migration up, and with enough copies the rows to their slots; rows transferred at the version that
they were offered with belong to the receiver, which answers; a home's rows are redirected when the receiver accepts, and a
holder's give up their slots. -/
def Obligations.HotRowsMigrateByVersion : Prop :=
  ∀ (s : State) (ctx : BitVec 12) (tab : BitVec 6) (d : Vec), s.dead = false →
    let c := ctx.toNat
    let t := tab.toNat
    let e := s.etab c t
    let home (rows : List Nat) : Nat := s.tPkg c d (s.tHome c d (rows.headD 0)).1
    s.table? c t = some d →
    (s.emb.tabs = [(c * 64 + t, e)] → 1 < s.tP c d → s.tPkg c d 0 ≠ s.self → e.mig = none → tMigEn d = true →
      Yields s .embWindowEnd (fun r => (r.etab c t).served = 0 ∧ (r.etab c t).sampler = [] ∧ s.SameMem r ∧
        r.count = s.dueAt (s.emb.windowAt + 2 ^ 24) ∧ r.emb.windowAt = r.count ∧
        ∃ body, r.tx = s.tx ++ [.msg (s.tPkg c d 0) 20 (c :: t :: s.myEntry c :: e.served :: body)])) ∧
    (∀ m, e.mig = some m → 1 ≤ m.age → tMigEn d = true →
      s.windowAge c t d = (s.migAbandon c t true).updEtab c t (fun e => { e with order := match e.order with
        | some (p, k) => if 2 ≤ k then none else some (p, k + 1)
        | none => none })) ∧
    (∀ (src n : Nat) (rows : List (Nat × Nat)),
      (s.tPkg c d 0 = s.self → Yields s (.shardCountReport ctx tab src n rows) (fun r =>
        r = (s.updEtab c t (fun e => { e with reports := e.reports.put src (n, rows) })).coordinate c t d)) ∧
      (s.tPkg c d 0 ≠ s.self → exec (.shardCountReport ctx tab src n rows) s = .next s)) ∧
    (∀ (peer : Nat) (ver : BitVec 32) (rows : List Nat), rows ≠ [] → home rows ≠ s.self →
      (∀ x, x ∈ rows → e.rowVer x < ver.toNat) → (∀ x, x ∈ rows → e.held.find? x = none) →
      (rows.length ≤ (e.freeSlots d).length → Yields s (.migrationOffer ctx tab peer ver rows) (fun r =>
        r.tx = s.tx ++ [.msg peer 24 ([c, t, ver.toNat] ++ (e.freeSlots d).take rows.length)] ∧ s.SameMem r ∧
        ∀ x, x ∈ rows → (r.etab c t).held.has x = true ∧ (r.etab c t).rowVer x = ver.toNat)) ∧
      ((e.freeSlots d).length < rows.length → Yields s (.migrationOffer ctx tab peer ver rows) (fun r =>
        r = s.send (.msg peer 24 [c, t, ver.toNat])))) ∧
    (∀ (m : Mig) (peer : Nat) (ver : BitVec 32) (slots : List Nat), e.mig = some m → m.peer = peer → m.ver = ver.toNat →
      (m.phase = 0 → m.back = false → slots.length < m.rows.length → Yields s (.migrationReady ctx tab peer ver slots) (fun r =>
        r = (s.migAbandon c t false).inc rCTX_RDT_REFUSED 31 0)) ∧
      (m.phase = 0 → m.rows.length ≤ slots.length → ∃ q : State, { q with emb := s.emb } = s ∧
        (q.etab c t).mig = some { m with phase := 1, slots := slots } ∧
        exec (.migrationReady ctx tab peer ver slots) s = .next ((m.rows.foldl (fun (z : State) x =>
          let v := z.memRead c (z.ownAddr c t d x) (tRowBytes d)
          (z.noteRead c (z.ownAddr c t d x) (tRowBytes d) 0x0A).rowSend c t peer (z.migAddr c d { m with slots := slots } x)
            v.1 v.2) q).migPump c t)) ∧
      (m.phase = 2 → m.back = true → Yields s (.transferAccepted ctx tab peer ver) (fun r =>
        r = (s.orderOver c t peer).backCommit c t d m)) ∧
      (m.phase = 2 → m.back = false → Yields s (.transferAccepted ctx tab peer ver) (fun r =>
        r = (s.orderOver c t peer).migCommit c t d m)) ∧
      (tMigEn d = true → e.fwdHeld = [] → s.tPkg c d 0 = m.peer →
        let q := s.backCommit c t d m
        (q.etab c t).mig = none ∧ q.tx = s.tx ++ [.msg m.peer 27 [c, t, m.ver]] ∧ q.tVer c t = m.ver ∧ s.SameMem q ∧
        ∀ x, x ∈ m.rows → (q.etab c t).held.find? x = none ∧ (q.etab c t).rowVer x = m.ver)) ∧
    (∀ (peer : Nat) (ver : BitVec 32) (rows : List Nat), (∀ x, x ∈ rows → e.rowVer x = ver.toNat) →
      Yields s (.transfer ctx tab peer ver rows) (fun r => r.tx = s.tx ++ [.msg peer 27 [c, t, ver.toNat]] ∧ s.SameMem r ∧
        r.units = s.units ∧
        (home rows ≠ s.self → ∀ x slot o, x ∈ rows → e.held.find? x = some (slot, o) →
          (r.etab c t).held.find? x = some (slot, true)) ∧
        (home rows = s.self → ∀ x y, x ∈ rows → e.redirects.find? x = some y →
          (r.etab c t).redirects.find? x = some { y with st := 2 }))) ∧
    (∀ (peer : Nat) (ver : BitVec 32) (rows : List Nat), (∃ x, x ∈ rows ∧ e.rowVer x ≠ ver.toNat) →
      exec (.transfer ctx tab peer ver rows) s = .next s)

/-! ### RDMA -/

/-- The package as responder: a message at the PSN that its queue pair expects is taken, one from before is acknowledged
again, and one from beyond is refused with a sequence NAK; a WRITE to a command window consumes its descriptors and is
acknowledged, a READ of control registers returns their bytes, an empty one returns none, and a message to a frozen
composition's pair is only counted. A frame for a bound intake is placed in its ring and acknowledged, or is refused for
want of room with an RNR NAK; an unbound queue pair takes no frame. -/
def Obligations.ResponderTakesMessagesAndIntakes : Prop :=
  (∀ (qp : BitVec 14) (psn : BitVec 24) (q : Qp) (s : State), s.dead = false →
     let n := qp.toNat
     s.qps.find? n = some q → q.err = false →
     (s.frozen q.comp = true → ∀ imm data, Yields s (.send qp false psn imm data) (fun r =>
       { r with ctl := s.ctl } = s ∧
       r.fld rHLT_FREEZE 63 40 = (s.fld rHLT_FREEZE 63 40 + q.packets data.length) % 2 ^ 24)) ∧
     (s.frozen q.comp = false →
       (∀ imm data, psnDist q.rqPsn psn.toNat ≠ 0 →
         (2 ^ 23 ≤ psnDist q.rqPsn psn.toNat → Yields s (.send qp false psn imm data) (fun r =>
           r = s.send (.ack n (psnDist 1 q.rqPsn)))) ∧
         (psnDist q.rqPsn psn.toNat < 2 ^ 23 → Yields s (.send qp false psn imm data) (fun r =>
           r = s.send (.nak n q.rqPsn 0x60)))) ∧
       (psnDist q.rqPsn psn.toNat = 0 →
         (∀ imm (data : List (BitVec 8)), s.gly.xpods = [] → Yields s (.send qp false psn imm data) (fun r =>
           r = s.intake n psn.toNat ((psn.toNat + q.packets data.length - 1) % 2 ^ 24) imm data)) ∧
         (∀ (key : BitVec 32) (va : BitVec 64) k, s.keys.find? (key.toNat % 2 ^ 15) = some k → k.gen = key.toNat / 2 ^ 15 →
           k.comp = q.comp → k.revoked = false →
           (∀ data : List (BitVec 8), k.window = true → data ≠ [] → data.length % 64 = 0 → k.va ≤ va.toNat →
             (va.toNat - k.va) % 64 = 0 → va.toNat - k.va + data.length ≤ 65536 → bitOf k.acc 1 = true →
             let last := (psn.toNat + q.packets data.length - 1) % 2 ^ 24
             exec (.rdmaWrite qp false psn key va data) s =
               .next (((s.rqNext n last).consumeAll k.ctx (windowDescs data)).send (.ack n last))) ∧
           (∀ len, k.window = false → k.control = true → len ≠ 0 → len ≤ 2 ^ 31 → q.reads.length < 16 →
             k.control? va.toNat len false = true → Yields s (.rdmaRead qp false psn key va len) (fun r => ∃ x : State,
               r = x.send (.readRsp n psn.toNat (s.regBytes (va.toNat - k.va) len)) ∧ { x with qps := s.qps } = s)) ∧
           (∀ len, k.window = true → len ≠ 0 → q.reads.length < 16 → Yields s (.rdmaRead qp false psn key va len) (fun r =>
             r = s.nakFail n psn.toNat (if 2 ^ 31 < len then 0x61 else 0x62))) ∧
           (∀ descs : List (BitVec 512), k.window = true → descs ≠ [] → k.va ≤ va.toNat → (va.toNat - k.va) % 64 = 0 →
             va.toNat - k.va + 64 * descs.length ≤ 65536 → bitOf k.acc 1 = true →
             ∃ last, exec (.commandWindowWrite qp key va descs) s =
               .next (((s.rqNext n last).consumeAll k.ctx descs).send (.ack n last))))))) ∧
  (∀ (qp : BitVec 14) (imm : Option (BitVec 32)) (data : List (BitVec 8)) (q : Qp) (s : State), s.dead = false →
     let n := qp.toNat
     let first := q.rqPsn
     let last := (q.rqPsn + q.packets data.length - 1) % 2 ^ 24
     s.qps.find? n = some q →
     (s.intakeOf n = none → exec (.intakeFrame qp imm data) s = .next s) ∧
     (∀ c r, s.intakeOf n = some c → q.err = false → s.takeFrame n imm data = r →
       (r.1 = 0 → Yields s (.intakeFrame qp imm data) (fun t => t.tx = r.2.tx ++ [.ack n last] ∧ t.larder = r.2.larder ∧
         t.shelf = r.2.shelf ∧ t.units = r.2.units)) ∧
       (r.1 = 1 → Yields s (.intakeFrame qp imm data) (fun t => t = r.2.send (.nak n first 0x20)))))

/-! ### Links -/

/-- A link's state machine: training that completes enters Hello, and one that takes 2^24 counts, a link without hellos for
four periods, and a retrain begin again; in Hello a hello flit goes out each period while the retry window is open, with
the bytes of a hello and its check sum, and is kept until it is acknowledged; in Up the hello begins a group of four flits
(the model's choice, log entry 109); a flit that is not accepted changes nothing else; a hello
that fails a check holds the link with the check's number; one that passes is kept as the partner, completes the link
when one has been sent and the keys are valid, and is answered by an idle flit (the model's choice, log entry 109). An Up takes
the next Up index of the link's keys, and keys without one left are no longer valid and keep the link in Hello. Control of a Guelyo link: ENABLE starts a link that is down and takes down
one that is not; RETRAIN leaves with cause 3; the report of a plane's port is kept, and one of another sender is ignored. -/
def Obligations.LinksTrainGreetHoldAndReport : Prop :=
  (∀ (l : Fin 33) (s : State), s.dead = false →
     let n := l.val
     let k := s.link n
     (k.st = 1 →
       Yields s (.linkTrainingComplete l) (fun r => { r with gly := { r.gly with links := s.gly.links } } = s ∧
         (r.link n).st = 2 ∧ (r.link n).partner = none ∧ (r.link n).retry = [] ∧ ∀ m, m ≠ n → r.link m = s.link m) ∧
       Yields s (.linkTrainingTimeout l) (fun r => r = (s.untilDue (k.entered + 2 ^ 24)).linkLeave n false 0)) ∧
     (k.st = 3 → Yields s (.helloTimeout l) (fun r => r = (s.untilDue (k.helloRx + 4 * 2 ^ 20)).linkLeave n false 0)) ∧
     (k.st ≠ 3 → ∀ held cause, ((s.linkLeave n held cause).link n).st = (if held then 4 else if s.linkOn n then 1 else 0) ∧
       ((s.linkLeave n held cause).link n).retry = [] ∧ s.SameMem (s.linkLeave n held cause)) ∧
     (k.st = 2 → k.txSeq < k.oldest + 1024 → k.partner = none → Yields s (.helloTimer l) (fun r =>
       r.count = s.dueAt k.helloTx ∧ (r.link n).helloTx = k.helloTx + 2 ^ 20 ∧ (r.link n).helloSent = true ∧
       (r.link n).txSeq = k.txSeq + 1 ∧ (r.link n).st = 2 ∧
       let hdr := s.flitHdr n 2 k.txSeq 0
       let slots := packSlots (slotsOf (s.helloBytes n))
       (r.link n).retry = k.retry ++ [⟨k.txSeq, 0, hdr, slots⟩] ∧ r.tx = s.tx ++ [.flit n hdr slots (flitCrc hdr slots)])) ∧
     (k.st = 3 → k.txSeq + 4 ≤ k.oldest + 1024 → k.txProt + 8 ≤ 2 ^ 42 → k.rxProt + 4 ≤ 2 ^ 42 →
       Yields s (.helloTimer l) (fun r =>
         (r.link n).txSeq = k.txSeq + 4 ∧ (r.link n).txProt = k.txProt + 4 ∧ (r.link n).retry.length = k.retry.length + 4 ∧
         r.tx.length = s.tx.length + 4 ∧ r.count = s.dueAt k.helloTx)) ∧
     (∀ (f : Flit) (h : HelloBody), k.st = 2 ∨ k.st = 3 →
       let i := (s.flitFec n f).flitIn n f
       let q := i.2
       (i.1 = false → Yields s (.hello l f h) (fun r => r = q)) ∧
       (i.1 = true → (q.link n).st = 3 → Yields s (.hello l f h) (fun r => r = q.flitAct n f (some h))) ∧
       (∀ check, i.1 = true → q.helloFails n h = some check → (q.link n).st = 2 →
         Yields s (.hello l f h) (fun r => r = q.linkHold n check)) ∧
       (i.1 = true → q.helloFails n h = none → (q.link n).st = 2 → Yields s (.hello l f h) (fun r =>
         ∃ x : State, r = (x.linkUp n).flitPlain n 0 ∧ (x.link n).partner = some h ∧ (x.link n).helloRx = q.count ∧
           { x with gly := { x.gly with links := q.gly.links } } = q))) ∧
     (∀ (h : HelloBody),
       (h.version ≠ 1 → s.helloFails n h = some 1) ∧
       (h.version = 1 → h.role = 2 → h.plane.toNat ≠ n → s.helloFails n h = some 2) ∧
       (h.version = 1 → h.role ≠ 2 → h.role ≠ 3 → n < 16 → (h.crReq.toNat ≤ 2048 ∧ h.crRsp.toNat ≤ 2048 ∧ h.crSnp.toNat ≤ 2048 ∧
         h.crMsg.toNat ≤ 2048) → s.helloFails n h = none)) ∧
     (∀ h, k.partner = some h → k.st = 2 → k.helloSent = true → (s.linkKey n).valid = true →
       let r := s.linkUp n
       ((s.linkKey n).txUp < 2 ^ 24 → (s.linkKey n).rxUp < 2 ^ 24 → (r.link n).st = 3 ∧
         (r.link n).init = [h.crReq.toNat, h.crRsp.toNat, h.crSnp.toNat, h.crMsg.toNat] ∧
         (r.link n).partner = some h ∧ (r.link n).keys = s.linkKey n ∧ (r.link n).txUp = (s.linkKey n).txUp ∧
         (r.linkKey n).txUp = (s.linkKey n).txUp + 1 ∧ s.SameMem r) ∧
       (2 ^ 24 ≤ (s.linkKey n).txUp ∨ 2 ^ 24 ≤ (s.linkKey n).rxUp → (r.link n).st = 2 ∧ (r.linkKey n).valid = false ∧
         s.SameMem r))) ∧
  (∀ (l : Fin 16) (s : State), s.dead = false →
     let n := l.val
     (Yields s (.glyRetrain l) (fun r => r = s.linkLeave n false 3)) ∧
     ((s.link n).st = 0 → Yields s (.glyEnable l true) (fun r => r = (s.setFld rGLY_CTRL 0 0 1 n).linkLeave n false 3) ∧
       Yields s (.glyEnable l false) (fun r => r = s.setFld rGLY_CTRL 0 0 0 n)) ∧
     ((s.link n).st = 3 → Yields s (.glyEnable l false) (fun r => r = (s.setFld rGLY_CTRL 0 0 0 n).linkLeave n false 3)) ∧
     (∀ (plane port st role : BitVec 8) (pod : BitVec 16) (h : HelloBody), (s.link n).partner = some h →
       ((s.link n).st = 3 → h.role = 2 → plane.toNat = n → port.toNat < 64 → Yields s (.portState l plane port st role pod) (fun r =>
         ∃ q : State, r = q.losePorts ∧ q.gly.ports.find? (n * 64 + port.toNat) = some (st.toNat, role.toNat, pod.toNat) ∧
           { q with gly := { q.gly with ports := s.gly.ports } } = s)) ∧
       (h.role ≠ 2 ∨ plane.toNat ≠ n ∨ 64 ≤ port.toNat → exec (.portState l plane port st role pod) s = .next s)))

/-- Flits of a link that is Up: one whose check sum is wrong is counted and the first such one asks for a replay; one out of
order is discarded likewise; one in order is taken, and its acknowledgement frees what it covers; the last of a group is taken
when the group's tag verifies under one of the Up indices that the link may be in, and an idle flit then carries the
acknowledgement and the credits (the model's choice, log entry 109); an idle flit and a replay request take no sequence
number, also in Hello. A replay request, and a timeout with flits unacknowledged, sends the flits kept again from the oldest,
as they were first sent, and the sixteenth time in vain takes the link down. -/
def Obligations.FlitsArriveInOrderOrAreReplayed : Prop :=
  ∀ (l : Fin 33) (f : Flit) (s : State), s.dead = false →
    let n := l.val
    let k := s.link n
    let q := s.flitFec n f
    (k.st = 3 →
      Yields s (.dataFlit l f) (fun r =>
        r = if (q.flitIn n f).1 = true then (q.flitIn n f).2.flitAct n f none else (q.flitIn n f).2)) ∧
    (k.st = 2 ∨ k.st = 3 →
      (crcOk f = false → Yields s (.idleFlit l f) (fun r => r = q.linkInc rGLY_ERR 31 0 n) ∧
        Yields s (.replayRequest l f) (fun r => r = q.linkInc rGLY_ERR 31 0 n)) ∧
      (crcOk f = true → Yields s (.idleFlit l f) (fun r => r = q.flitHead n f) ∧
        (((q.flitHead n f).link n).retry ≠ [] → Yields s (.replayRequest l f) (fun r =>
          r = (q.flitHead n f).resendFrom n ((q.flitHead n f).link n).oldest)))) ∧
    (k.st ≠ 3 → exec (.dataFlit l f) s = .next s ∧ (k.st ≠ 2 → exec (.idleFlit l f) s = .next s)) ∧
    (crcOk f = false → (s.flitIn n f).1 = false ∧ (s.flitIn n f).2 = (s.linkInc rGLY_ERR 31 0 n).flitDiscard n) ∧
    (crcOk f = true → ((s.flitHead n f).link n).rxSeq % 4096 ≠ f.seq →
      s.flitIn n f = (false, (s.flitHead n f).flitDiscard n)) ∧
    (k.discarding = true → s.flitDiscard n = s) ∧
    (k.discarding = false → ((s.flitDiscard n).link n).discarding = true ∧
      ∃ hdr, (s.flitDiscard n).tx = s.tx ++ [.flit n hdr 0 (flitCrc hdr 0)] ∧ bits hdr 3 0 = 3 ∧ bits hdr 27 16 = (k.rxSeq + 4095) % 4096) ∧
    (crcOk f = true → (s.flitIn n f).1 = true → f.seq = ((s.flitHead n f).link n).rxSeq % 4096 ∧
      ((s.flitIn n f).2.link n).rxSeq = ((s.flitHead n f).link n).rxSeq + 1) ∧
    (crcOk f = true →
      let k := (s.flitHead n f).link n
      k.rxSeq % 4096 = f.seq → k.st = 3 → f.plain = false → k.rxProt % 4 = 3 →
        (k.groupUp f = none → s.flitIn n f = (false, (s.flitHead n f).groupFails n)) ∧
        (∀ u, k.groupUp f = some u →
          let g := k.grp ++ [(f.hdr.toNat, f.slots.toNat)]
          groupTag k.keys.rxKey k.keys.rxSalt u (k.rxProt / 4) g = lane 128 f.slots.toNat 14 ∧
          (if k.rxProt / 4 = 0 then k.keys.rxUp ≤ u ∧ u < k.keys.rxUp + 64 ∧ u < 2 ^ 24 else u = k.rxUp) ∧
          (s.flitIn n f).1 = true ∧ ((s.flitIn n f).2.link n).rxUp = u ∧ ((s.flitIn n f).2.link n).grp = [] ∧
          ((s.flitIn n f).2.link n).authFails = 0)) ∧
    (k.retry ≠ [] →
      let tmo := if n < 16 then max 1 (s.rd rGLY_RETRY_TMO n) else 1024
      Yields s (.linkRetryTimeout l) (fun r => r = (s.untilDue (k.ackAt + tmo)).resendFrom n k.oldest)) ∧
    (∀ from_, (∀ x, x ∈ k.retry → x.resent < 15) →
      (s.resendFrom n from_).tx = s.tx ++ (k.retry.filter (fun x => decide (from_ ≤ x.seq))).map
        (fun x => .flit n x.hdr x.slots (flitCrc x.hdr x.slots)) ∧
      ((s.resendFrom n from_).link n).retry.length = k.retry.length ∧ ((s.resendFrom n from_).link n).st = k.st) ∧
    (∀ from_ x, k.st = 3 → x ∈ k.retry → from_ ≤ x.seq → 15 ≤ x.resent → ∃ q : State,
      s.resendFrom n from_ = q.linkLeave n false 1 ∧ q.units = s.units ∧ s.SameMem q)

/-! ### Requests and their answers -/

/-- Requests of another package or agent on a link that brings messages: the slots of each count as freed, and one of another
pod makes sure of its queue pair (the model's choice, log entry 110); outside a pod, or fenced, none is answered; a
malformed one is refused with 1, an agent's beyond the pod with 10, one of an older epoch with 2, and one of a later epoch
waits, or is refused with 3 when no hold time is set; else it is taken with its opcode. A hold that runs out is refused with
3. What a taken request is refused for, in the order of the checks, and what a granted one does: a read answers with the
bytes, of which a table row read in parts is what the row was at its first part; a write changes the bytes that it names and
answers, a Shelf read answers with the Shelf's bytes. -/
def Obligations.RequestsAreCheckedAndPerformed : Prop :=
  ((∀ (l : Fin 17) (h : ReqHdr) (data : List (BitVec 8)) (s : State), s.dead = false → s.brings l = true →
     let takes (i : Instr) (op : Nat) (bs : List (BitVec 8)) : Prop :=
       let z := s.took l h bs
       (z.map.podPkg = none ∨ z.map.fenced = true → exec i s = .next z.hostPump) ∧
       (z.map.podPkg ≠ none → z.map.fenced = false →
         (reqMalformed op h bs = true → exec i s = .next (z.nackReq l h 0x01).hostPump) ∧
         (reqMalformed op h bs = false →
           (h.agent = true → h.dest.toNat / 64 ≠ z.pod → exec i s = .next (z.nackReq l h 0x0A).hostPump) ∧
           (h.agent = false ∨ h.dest.toNat / 64 = z.pod →
             (h.epoch.toNat < z.map.epoch → exec i s = .next (z.nackReq l h 0x02).hostPump) ∧
             (z.map.epoch < h.epoch.toNat → z.rd rGLY_EPOCH_HOLD = 0 → exec i s = .next (z.nackReq l h 0x03).hostPump) ∧
             (z.map.epoch < h.epoch.toNat → z.rd rGLY_EPOCH_HOLD ≠ 0 → ∃ q : State, exec i s = .next q.hostPump ∧
               q.nonce = z.nonce + 1 ∧ { q with nonce := z.nonce, gly := { q.gly with inHeld := z.gly.inHeld } } = z ∧
               q.gly.inHeld.find? z.nonce = some ⟨l, op, h, bs, z.count + z.rd rGLY_EPOCH_HOLD⟩) ∧
             (h.epoch.toNat = z.map.epoch → exec i s = .next (z.reqTake op l h bs).hostPump))))
     takes (.rd l h) 0x01 [] ∧ takes (.wr l h data) 0x02 data ∧ takes (.pwr l h data) 0x03 data ∧ takes (.rdShelf l h) 0x04 [] ∧
     takes (.wrShelf l h data) 0x05 data ∧ (∀ aop : BitVec 8, takes (.atomic l h aop data) (0x10 + aop.toNat % 16) data) ∧
     takes (.takeShared l h) 0x20 [] ∧ takes (.takeOwned l h) 0x21 [] ∧ takes (.promote l h) 0x22 [] ∧
     takes (.giveDirty l h data) 0x23 data ∧ takes (.giveClean l h) 0x24 [] ∧
     (l.val < 16 → s.took l h data = s.updLink l.val (fun k =>
       { k with ours := List.zipWith (· + ·) k.ours [2 + (data.length + 15) / 16, 0, 0, 0] })) ∧
     (l.val = 16 → (∀ q, s.xpodFor (hPort h) = some q → s.took l h data = q) ∧
       (s.xpodFor (hPort h) = none → s.took l h data = s))) ∧
   (∀ (k : Nat) (s : State), s.dead = false →
     (∀ e, s.gly.inHeld.find? k = some e → ∃ q : State, exec (.epochHoldTimeout k) s = .next (q.nackReq e.l e.h 0x03) ∧
       q.count = s.dueAt e.expiry ∧ q.gly = { s.gly with inHeld := s.gly.inHeld.del k } ∧ s.SameMem q) ∧
     (s.gly.inHeld.find? k = none → exec (.epochHoldTimeout k) s = .next s))) ∧
  ((∀ (op : Nat) (l : Fin 17) (h : ReqHdr) (data : List (BitVec 8)) (s : State),
     let c := h.ctx.toNat
     (s.reqMember h = false → op < 0x20 → s.reqTake op l h data = s.nackReq l h 0x04) ∧
     (s.reqMember h = true → 1 ≤ op → op < 0x20 → op ≠ 4 → op ≠ 5 →
       (s.seg? c h.seg.toNat = none → s.reqTake op l h data = s.nackReq l h 0x05) ∧
       (∀ g, s.seg? c h.seg.toNat = some g → (g.c = false ∨ hPort h / 64 = s.pod) →
         (g.limit < h.off.toNat + h.len.toNat → s.reqTake op l h data = s.nackReq l h 0x06) ∧
         (h.off.toNat + h.len.toNat ≤ g.limit → g.grants (reqPerm op) = false → s.reqTake op l h data = s.nackReq l h 0x07)))) ∧
   (∀ (l : Fin 17) (h : ReqHdr) (data : List (BitVec 8)) (s : State),
     let c := h.ctx.toNat
     let n := h.len.toNat
     (let v := ((s.readServe c (hAddr h)).partServe (hPort h) c (hAddr h) n).1;
       (∃ q : State, s.reqPerform 0x01 l h [] = q.respond l h 0x40 0 v.2 v.1 ∧ s.SameMem q ∧ q.units = s.units) ∧
       (s.shardRow c (hAddr h) = none → v = s.memRead c (hAddr h) n) ∧
       (∀ p, s.shardRow c (hAddr h) = some p → s.emb.snaps = [] → (p.off ≠ 0 ∨ tRowBytes p.d ≤ n) → v = s.memRead c (hAddr h) n) ∧
       (∀ p rest, s.shardRow c (hAddr h) = some p → p.off ≠ 0 → s.emb.snaps.find? (hPort h) = some ⟨c, hAddr h, rest⟩ →
         v.1 = ((sliceChunks rest 0 n).map Prod.fst).flatten)) ∧
     s.reqPerform 0x02 l h data = ((s.snapDrop (hPort h)).memWrite c (hAddr h) data h.poison).respond l h 0x41 0 false [] ∧
     (∀ key, Memory.wf s.larder = true → s.lpois = [] → s.flaws = [] → data ≠ [] →
       s.extent c (hAddr h) data.length = [(hAddr h, .larder key, data.length)] →
       ∀ a, Memory.get (s.memWrite c (hAddr h) data false).larder a =
         if key ≤ a ∧ a < key + data.length then data.getD (a - key) 0 else Memory.get s.larder a) ∧
     s.reqPerform 0x04 l h [] = ((s.snapDrop (hPort h)).shelfMeet (h.off.toNat / 2 ^ 14) (h.off.toNat % 2 ^ 14) n 0x0F).respond l h 0x40 0 (s.rowsPoison (h.off.toNat / 2 ^ 14) (h.off.toNat % 2 ^ 14) n)
       (s.shelfRead (h.off.toNat / 2 ^ 14) (h.off.toNat % 2 ^ 14) n) ∧
     ∀ op code poison bs, s.SameMem (s.respond l h op code poison bs) ∧ (s.respond l h op code poison bs).units = s.units))

/-- Answers: DATA and COMP end the request that their requester and tag name, with what it waited for; NACK fails it with its
code, or, for an epoch, stops the pair until it may reissue; RETRY fails it with 1, and a peer-cache fill tries again after
the back-off; a malformed answer, and one of a kind or length that does not answer the request, fails it with 1 as well (the
model's choice, log entry 104); an answer past its request's expiry finds the request timed out; a GRANT_ACK ends the
transaction of its grant, one of transient mode is discarded, and an answer that nothing waits for is counted late or orphan. A pair of packages that was refused reissues its
requests, oldest first, when nothing is outstanding and its epoch has come; a pair that changes plane sends what it held
when no request or snoop is outstanding on the old one. -/
def Obligations.AnswersEndRequestsAndPairsReissue : Prop :=
  (∀ (l : Fin 17) (h : RspHdr) (s : State), s.dead = false → s.brings l = true →
     (∀ k q, s.reqOf h = some (k, q) → s.past q.expiry = false →
       let spoiled : State := ((((s.reqDrop k).inc rGLY_NACK_RX 31 0).reqFailed q 1).pairPump q.dest).hostPump
       let well (n : Nat) : Prop := h.vc = 1 ∧ h.len.toNat = n
       (∀ data, (well data.length → q.wantsData = true → data.length = q.len →
           exec (.data l h data) s = .next (((s.reqDrop k).reqAnswered q (some (data, h.poison))).pairPump q.dest).hostPump) ∧
         (¬well data.length ∨ q.wantsData = false ∨ data.length ≠ q.len → exec (.data l h data) s = .next spoiled)) ∧
       (q.dest = h.responder.toNat →
         (well 0 → q.wantsData = false →
           exec (.comp l h) s = .next (((s.reqDrop k).reqAnswered q none).pairPump q.dest).hostPump) ∧
         (¬well 0 ∨ q.wantsData = true → exec (.comp l h) s = .next spoiled)) ∧
       (∀ (epoch word : BitVec 32),
         (well 16 → h.code = 2 ∨ h.code = 3 → Yields s (.nack l h epoch word) (fun r => ∃ x : State, r = x.hostPump ∧
           x.gly.reqs = s.gly.reqs.del k ∧ (x.pair q.dest).stopped = true ∧ epoch.toNat ≤ (x.pair q.dest).needEpoch ∧ s.SameMem x ∧
           (x.pair q.dest).refused = (s.pair q.dest).refused ++ [(q, h.code == 3)])) ∧
         (well 16 → h.code ≠ 2 → h.code ≠ 3 → exec (.nack l h epoch word) s =
           .next ((((s.reqDrop k).inc rGLY_NACK_RX 31 0).reqFailed q h.code.toNat).pairPump q.dest).hostPump) ∧
         (¬well 16 → exec (.nack l h epoch word) s = .next spoiled)) ∧
       (∀ backoff : BitVec 32,
         (∀ key p, well 16 → q.use = .peer key → s.gly.peer.find? key = some p →
           Yields s (.retry l h backoff) (fun r => ∃ x : State,
             r = x.hostPump ∧ x.gly.reqs = s.gly.reqs.del k ∧ s.SameMem x ∧
             x.gly.peer.find? key = some { p with retryAt := some (s.count + backoff.toNat) })) ∧
         (∀ u t id, q.use = .load u t id → exec (.retry l h backoff) s = .next spoiled) ∧
         (¬well 16 → exec (.retry l h backoff) s = .next spoiled))) ∧
     (∀ k q e, s.reqOf h = some (k, q) → q.expiry = some e → e < s.count →
       let z := s.reqExpire k q e
       z.answers h false = .nothing → ∀ data, exec (.data l h data) s = .next (z.rspLate h).hostPump) ∧
     (s.reqOf h = none → s.snoopOf h = none → ∀ data (w : BitVec 32),
       exec (.data l h data) s = .next (s.rspLate h).hostPump ∧ exec (.nack l h w w) s = .next (s.rspLate h).hostPump ∧
       exec (.retry l h w) s = .next (s.rspLate h).hostPump) ∧
     (s.reqOf h = none → h.vc = 1 → h.len = 0 →
       (∀ id, s.grantOf h = some id → (∀ t p g e, s.txn? id = some t → t.grant = some (p, g, e) → s.past e = false) →
         exec (.comp l h) s = .next ((s.txnEnd id).homePump).hostPump) ∧
       (s.grantOf h = none → s.rspDie h = some 0 → (h.responder.toNat, h.tag.toNat) ∈ s.home.acks →
         exec (.comp l h) s = .next { s with home := { s.home with
           acks := s.home.acks.erase (h.responder.toNat, h.tag.toNat) } }.hostPump) ∧
       (s.grantOf h = none → (h.responder.toNat, h.tag.toNat) ∉ s.home.acks → s.snoopOf h = none →
         exec (.comp l h) s = .next (s.rspLate h).hostPump)) ∧
     (s.reqOf h = none → ∀ id n, s.snoopOf h = some (id, n) → s.past n.expiry = false → h.vc = 1 →
       (∀ data, data.length = 64 → h.len = 64 →
         exec (.data l h data) s = .next (s.snoopDone id n (some (data, h.poison))).hostPump) ∧
       (h.len = 0 → s.grantOf h = none → (h.responder.toNat, h.tag.toNat) ∉ s.home.acks →
         exec (.comp l h) s = .next (s.snoopDone id n none).hostPump) ∧
       (∀ backoff, h.len = 16 → exec (.retry l h backoff) s = .next (s.snoopRetry id n).homePump.hostPump)) ∧
     (let die := h.requester.toNat / 2 ^ 17 % 8;
       let k := die * 2 ^ 16 + h.tag.toNat;
       let r := s.rspLate h;
       s.SameMem r ∧ r.units = s.units ∧
       (s.gly.timed.find? k = some h.requester.toNat → h.agent = false →
         r.fld rDIE_DMA_LATE 31 0 die = (s.fld rDIE_DMA_LATE 31 0 die + 1) % 2 ^ 32 ∧ r.gly.timed.find? k = none) ∧
       (∀ d, s.gly.timed.find? k = none → s.rspDie h = some die → s.home.late.find? k = some d →
         r.fld rHOME_LATE 31 0 d = (s.fld rHOME_LATE 31 0 d + 1) % 2 ^ 32 ∧ r.home.late.find? k = none) ∧
       (s.gly.timed.find? k = none → s.home.late.find? k = none → r = s.inc rGLY_ORPHAN 31 0))) ∧
  (∀ (dest : BitVec 16) (s : State), s.dead = false →
     let d := dest.toNat
     let p := s.pair d
     ((∀ e, e ∈ s.gly.peer → e.2.retryAt = none) →
       (s.mayReissue d = true → exec (.requestReissue dest) s = .next (s.reissue d)) ∧
       (s.mayReissue d = false → exec (.requestReissue dest) s = .next s)) ∧
     (p.stopped = true → p.refused = [] → s.outstanding d = [] → s.oldPlane d 17 = false → ∃ q : State,
       exec (.planeSwitch dest) s =
         .next (p.held.foldl State.request (p.msgs.foldl (fun (z : State) m => z.pairSend d m.vc m.data) q)) ∧
       (q.pair d).stopped = false ∧ (q.pair d).held = [] ∧ (q.pair d).msgs = [] ∧
       { q with gly := { q.gly with pairs := s.gly.pairs } } = s) ∧
     (s.outstanding d ≠ [] ∨ s.oldPlane d 17 = true → exec (.planeSwitch dest) s = .next s))

/-! ### Attachments, leases and the home -/

/-- This package as an agent: an attachment of agent 0 is kept with its lease; a detachment and a loss void the home's
lines; LEASE_ACK counts the lease from its sending; a hub message that is malformed or from no member of the pod is ignored
(the model's choice, log entry 110); a call to drop a shared line drops it, and every call of the right form is answered; a
line filled under a lease is kept, and a full set loses the line that came first (the model's choice, log entry 103). The
home of coherent lines: LEASE renews the leases that have not run out and answers with their mask; a lease that runs out
loses its agent with cause 0, and a snoop or a grant without an answer loses the port's agents with cause 2; a transaction
begins when it has an entry, no earlier one holds its line, and every earlier coherence request of its pair has begun; a
re-snoop is counted and sent to the line's owner. -/
def Obligations.AgentsAndHomesKeepLinesCoherent : Prop :=
  (∀ (l : Fin 17) (h : ReqHdr) (s : State), s.dead = false → s.brings l = true →
     let home := hPort h
     (∀ (ctx : BitVec 12) (seg : BitVec 4) (tag : BitVec 20) (mode : BitVec 8) (lease : BitVec 32), s.hubTaken h 18 = true →
       s.gly.lease.find? home = none → Yields s (.attached l h ctx seg 0 tag mode lease) (fun r => ∃ q : State, r = q.hostPump ∧
         (home, ctx.toNat, seg.toNat) ∈ q.gly.peerAt ∧ q.gly.lease.find? home = some (lease.toNat, s.count, s.count) ∧
         { q with gly := s.gly } = s)) ∧
     (∀ (ctx : BitVec 12) (seg : BitVec 4) (tag : BitVec 20), s.hubTaken h 10 = true → Yields s (.detached l h ctx seg 0 tag) (fun r => ∃ q : State,
       r = q.hostPump ∧ (home, ctx.toNat, seg.toNat) ∉ q.gly.peerAt ∧ { q with gly := s.gly } = s ∧
       ∀ e, e ∈ q.gly.peer → e.2.dest = home → e.2.ctx = ctx.toNat → e.2.seg = seg.toNat → e.2.st = 3)) ∧
     (∀ (mask : BitVec 16) (cause : BitVec 8), s.hubTaken h 5 = true → bitOf mask.toNat 0 = true → Yields s (.lost l h mask cause) (fun r => ∃ q : State,
       r = q.hostPump ∧ (∀ a, a ∈ q.gly.peerAt → a.1 ≠ home) ∧ q.gly.lease.find? home = none ∧ { q with gly := s.gly } = s ∧
       ∀ e, e ∈ q.gly.peer → e.2.dest = home → e.2.st = 3)) ∧
     (∀ (mask : BitVec 16) x, s.hubTaken h 4 = true → bitOf mask.toNat 0 = true → s.gly.lease.find? home = some x → Yields s (.leaseAck l h mask) (fun r =>
       ∃ q : State, r = q.hostPump ∧ q.gly.lease.find? home = some (x.1, x.2.1, x.2.1) ∧ { q with gly := s.gly } = s)) ∧
     (∀ (ctx : BitVec 12) (seg : BitVec 4) (tag : BitVec 20) (mode cause : BitVec 8) (lease : BitVec 32) (mask : BitVec 16),
       (s.hubTaken h 18 = false → exec (.attached l h ctx seg 0 tag mode lease) s = .next s.hostPump) ∧
       (s.hubTaken h 10 = false → exec (.detached l h ctx seg 0 tag) s = .next s.hostPump) ∧
       (s.hubTaken h 5 = false → exec (.lost l h mask cause) s = .next s.hostPump) ∧
       (s.hubTaken h 4 = false → exec (.leaseAck l h mask) s = .next s.hostPump ∧ exec (.lease l h mask) s = .next s.hostPump)) ∧
     (s.mute = true → exec (.callShare l h) s = .next s.hostPump ∧ exec (.callDrop l h) s = .next s.hostPump) ∧
     (s.mute = false → snoopMalformed h = true → exec (.callShare l h) s = .next (s.nackReq l h 0x01).hostPump ∧
       exec (.callDrop l h) s = .next (s.nackReq l h 0x01).hostPump) ∧
     (s.mute = false → snoopMalformed h = false →
       Yields s (.callShare l h) (fun r => r = (s.respond l h 0x41 0 false []).hostPump)) ∧
     (∀ k p, s.mute = false → snoopMalformed h = false → s.peerLine h = some (k, p) → p.st = 1 → Yields s (.callDrop l h) (fun r => ∃ q : State,
       r = (q.respond l h 0x41 0 false []).hostPump ∧ q.gly.peer.find? k = none ∧ { q with gly := s.gly } = s)) ∧
     (∀ k p, s.mute = false → snoopMalformed h = false → s.peerLine h = some (k, p) → p.st ≠ 1 → Yields s (.callDrop l h) (fun r => ∃ q : State,
       r = (q.respond l h 0x41 0 false []).hostPump ∧ q.gly.peer.find? k = some { p with st := 3 } ∧ { q with gly := s.gly } = s)) ∧
     (∀ k p plane tag bs poison, s.gly.peer.find? k = some p → p.st = 2 → s.leaseHeld p.dest = true → p.waiters = [] → ∃ age,
       (s.peerFilled k plane tag bs poison).gly.peer.find? k =
         some { p with st := 1, data := leNat bs, poison := poison, waiters := [], retryAt := none, age := age }) ∧
     (∀ off, let ways := s.gly.peer.filter (fun e => decide (e.2.st = 1 ∧ peerSet e.2.off = peerSet off));
       (ways.length < 16 → s.peerRoom off = s.gly.peer) ∧
       (16 ≤ ways.length → ∃ v, v ∈ ways ∧ (∀ w, w ∈ ways → v.2.age ≤ w.2.age) ∧ s.peerRoom off = s.gly.peer.del v.1))) ∧
  ((∀ (l : Fin 17) (h : ReqHdr) (mask : BitVec 16) (s : State), s.dead = false → s.brings l = true → s.hubTaken h 4 = true →
     let port := hPort h
     let ok := (List.range 16).filter (fun a => bitOf mask.toNat a &&
       (match s.home.leases.find? (port * 16 + a) with | some e => decide (s.count ≤ e) | none => false))
     Yields s (.lease l h mask) (fun r => ∃ q : State, r = (q.hubMsg port 0x0C03 0 0 (leBytes 2 (agentMask ok))).hostPump ∧
       { q with home := { q.home with leases := s.home.leases } } = s ∧
       (∀ a, a ∈ ok → q.home.leases.find? (port * 16 + a) = some (s.count + s.leaseLen)) ∧
       ∀ k, (∀ a, a ∈ ok → k ≠ port * 16 + a) → q.home.leases.find? k = s.home.leases.find? k)) ∧
   (∀ (port : BitVec 6) (agent : BitVec 4) (s : State), s.dead = false →
     let p := s.pod * 64 + port.toNat
     (∀ e, s.home.leases.find? (p * 16 + agent.toNat) = some e → exec (.leaseExpiry port agent) s =
       .next (((s.untilDue e).loseAgents p [agent.toNat] 0).hostPump)) ∧
     (s.home.leases.find? (p * 16 + agent.toNat) = none → exec (.leaseExpiry port agent) s = .next s)) ∧
   (∀ (die : Fin 8) (id : Nat) (port : BitVec 6) (s : State), s.dead = false →
     let p := s.pod * 64 + port.toNat
     (s.txnMayBegin id = true → exec (.homeTransactionBegin die id) s = .next ((s.txnBegin id).homePump.hostPump)) ∧
     (s.txnMayBegin id = false → exec (.homeTransactionBegin die id) s = .next s) ∧
     (∀ t e, s.txn? id = some t → e ∈ s.home.txns → e.1 < id → (e.2.line = t.line ∨
       (e.2.begun = false ∧ t.act.cohPort.isSome = true ∧ e.2.act.cohPort = t.act.cohPort)) → s.txnMayBegin id = false) ∧
     (∀ t g e, s.txn? id = some t → t.snoops = [] → t.grant = some (p, g, some e) → exec (.snoopTimeout die id port) s =
       .next (s.portExpire p e (some (g, t.die))).hostPump) ∧
     (∀ t n e, s.txn? id = some t → t.snoops = [n] → n.port = p →
       (n.again = some e → s.owner? n.line = none → ∃ q : State, exec (.resnoopTimer die id port) s =
         .next (q.snoopPort id p n.line t.comp t.ctx t.seg t.off n.drop) ∧ q.count = s.dueAt e ∧ s.SameMem q ∧
         (q.txn? id).map (·.snoops) = some [] ∧
         q.fld rHOME_RESNOOP 31 0 t.die = (s.fld rHOME_RESNOOP 31 0 t.die + 1) % 2 ^ 32) ∧
       (n.again = some e → t.grant = none → exec (.snoopTimeout die id port) s = .next s.hostPump) ∧
       (n.again = none → n.expiry = some e → exec (.snoopTimeout die id port) s =
         .next ((s.untilDue e).loseAgents p (s.portAgents p) 2).hostPump))))

/-! ### The switch core -/

/-- Cells and frames enter the switch when a reservation or the pool has room, at the tail of their output's class: a cell
of a lossy class without room is dropped, counted and reported, one of a lossless class is counted as back pressure, a cell
that departs is the one that the arbitration names and leaves the rest in order, and no cell leaves an output that is not
up. A lossy frame is admitted whole or dropped whole: the reservation first, the rest from the pool, and with room for
neither it is dropped with reason 3. -/
def Obligations.SwitchAdmitsAndSendsCellsAndFrames : Prop :=
  ((∀ (inp out : Fin 58) (cls : Fin 8) (owner : BitVec 20) (ip : Option IpTuple) (s : State), s.dead = false →
     let x : Cell := { inp := inp.val, out := out.val, cls := cls.val, owner := owner.toNat, from_ := 0, first := none, ip := ip,
                       copy := false }
     exec (.cellAdmit inp out cls owner none ip) s = .next (s.cellAdmit x) ∧
     (∀ n, exec (.cellAdmit inp out cls owner (some n) ip) s =
       .next ((s.mirror true { x with first := some n }).cellAdmit { x with first := some n })) ∧
     (∀ f, s.cellFrom (cellPort inp.val) cls.val owner.toNat = some f → s.swc.paused = [] → inp.val < 24 →
       (s.cellAdmit x).swc = { s.swc with cells := s.swc.cells ++ [{ x with from_ := f }] } ∧ s.SameMem (s.cellAdmit x) ∧
       (s.cellAdmit x).units = s.units) ∧
     (s.cellFrom (cellPort inp.val) cls.val owner.toNat = none → s.lossless cls.val = false →
       (s.cellAdmit x).swc = s.swc ∧
       (s.cellAdmit x).fld rSWC_DROP 63 0 3 = (s.fld rSWC_DROP 63 0 3 + 1) % 2 ^ 64)) ∧
   (∀ (inp out : Fin 58) (cls : Fin 8) (owner : BitVec 20) (bytes : Nat) (ecn : Bool) (ip : Option IpTuple) (s : State),
     let x : Cell := { inp := inp.val, out := out.val, cls := cls.val, owner := owner.toNat, from_ := 0, first := some bytes,
                       ip := ip, copy := false }
     s.dead = false → exec (.frameAdmit inp out cls owner bytes ecn ip) s = .next (s.frameAdmit x bytes ecn)) ∧
   (∀ (out : Fin 58) (s : State), s.dead = false →
     (s.outUp out.val = false → exec (.cellDepart out) s = .next s) ∧
     (∀ c d x, s.outUp out.val = true → s.nextClass out.val = some (c, d) → s.nextCell out.val c = some x →
       Yields s (.cellDepart out) (fun r => s.SameMem r ∧ r.units = s.units ∧
         ((∀ m, m < 4 → s.fld rSWC_MIR 0 0 m = 0) → r.swc.cells = s.swc.cells.erase x) ∧
         r.swc.ptr.find? (out.val * 8 + c) = some ((x.inp + 1) % 58)))) ∧
   (∀ s : State, s.dead = false →
     (s.partEn = true → exec .partitionSlotEnd s = .next { s with swc := { s.swc with
       slot := (s.swc.slot + 1) % 64, sched := if (s.swc.slot + 1) % 64 = 0 then s.schedRegs else s.swc.sched } }) ∧
     (s.partEn = false → exec .partitionSlotEnd s = .next s)) ∧
   (∀ (m : Fin 256) (v : BitVec 128) (s : State), s.dead = false → Yields s (.meterWrite m v) (fun r =>
     r.swc.meters.find? m.val = some (64 * r.fld rSWC_METER 103 80 m.val, 64 * r.fld rSWC_METER 127 104 m.val, s.count) ∧
     r.fld rSWC_METER 103 80 m.val = bits v.toNat 103 80 ∧ r.fld rSWC_METER 127 104 m.val = bits v.toNat 127 104 ∧
     { r with ctl := s.ctl, swc := s.swc } = s))) ∧
  (∀ (s : State) (x : Cell) (k col : Nat), s.swc.paused = [] → x.inp < 24 →
     let cp := cellPort x.inp
     let r := min k (s.resRoom cp x.cls x.owner)
     (r < k → s.poolTakes cp x.cls x.owner (k - r) = false → (s.frameIn x k col).swc = s.swc ∧
       (s.frameIn x k col).fld rSWC_DROP 63 0 3 = (s.fld rSWC_DROP 63 0 3 + 1) % 2 ^ 64) ∧
     (r = k ∨ s.poolTakes cp x.cls x.owner (k - r) = true → ∃ l,
       (s.frameIn x k col).swc = { s.swc with cells := s.swc.cells ++ l } ∧ l.length = k ∧
       (l.filter (fun y => y.from_ != 1)).length = r ∧ ∀ y, y ∈ l → y.inp = x.inp ∧ y.out = x.out ∧ y.cls = x.cls ∧ y.owner = x.owner))

/-! ### Ethernet -/

/-- Ethernet ports: a port that is enabled comes up, and one that goes down, trains again or is split loses its partner and
its pauses; a received frame that is too long, fails its check sum or is a runt is counted by kind; pause quanta hold an
enabled priority until their end, and zero quanta end it. LLDP and address resolution: a first announcement makes its sender
the port's partner, a shutdown or an expiry ends it, the transmit timer sends an announcement each interval, and a request
for an address of the port is answered. -/
def Obligations.EthernetPortsReceivePauseAndAnswer : Prop :=
  ((∀ (e : Fin 16) (s : State), s.ethLive e.val = true →
     let n := e.val
     (s.ethOn n = true → Yields s (.ethLinkUp e) (fun r => (r.eport n).link = 2 ∧ (r.eport n).partner = (s.eport n).partner ∧
       { r with eth := { r.eth with ports := s.eth.ports } } = s)) ∧
     Yields s (.ethLinkDown e) (fun r => (r.eport n).link = 0 ∧ (r.eport n).partner = none ∧ (r.eport n).paused = [] ∧ s.SameMem r) ∧
     Yields s (.ethRetrain e) (fun r => (r.eport n).link = (if s.ethOn n then 1 else 0) ∧ (r.eport n).partner = none ∧ s.SameMem r) ∧
     (∀ f : RxFrame, s.ethUp n = true →
       (9216 < f.len ∨ 1 < f.tags → Yields s (.frameReceive e f) (fun r => r = s.rxErr n 0)) ∧
       (f.len ≤ 9216 → f.tags ≤ 1 → f.fcsOk = false → Yields s (.frameReceive e f) (fun r => r = s.rxErr n 1)) ∧
       (f.len < 64 → f.tags ≤ 1 → f.fcsOk = true → Yields s (.frameReceive e f) (fun r => r = s.rxErr n 3)) ∧
       (64 ≤ f.len → f.len ≤ 9216 → f.tags ≤ 1 → f.fcsOk = true → f.accepted = false → s.macsecCheck n f = some s →
         Yields s (.frameReceive e f) (fun r => r = s.rxErr n 3)) ∧
       (64 ≤ f.len → f.len ≤ 9216 → f.tags ≤ 1 → f.fcsOk = true → f.accepted = true → f.linkLocal = false →
         s.macsecCheck n f = some s →
         let x : Cell := { inp := 24 + n, out := f.out.val, cls := s.classOfPrio (s.rxPrio n f), owner := f.owner.toNat, from_ := 0,
                           first := some f.len, ip := f.ip, copy := false }
         Yields s (.frameReceive e f) (fun r => r = s.frameAdmit x f.len f.ecn))) ∧
     (∀ (prio : Fin 8) (quanta : BitVec 16) (limit : Nat), s.ethUp n = true →
       (s.fld rETH_PFC_EN prio.val prio.val n ≠ 0 →
         (quanta ≠ 0 → Yields s (.pfcFrame e prio quanta limit) (fun r => (r.eport n).paused.find? prio.val = some (max s.count limit) ∧
           { r with eth := { r.eth with ports := s.eth.ports } } = s)) ∧
         (quanta = 0 → Yields s (.pfcFrame e prio quanta limit) (fun r => (r.eport n).paused.find? prio.val = none))) ∧
       (s.fld rETH_PFC_EN prio.val prio.val n = 0 → Yields s (.pfcFrame e prio quanta limit) (fun r => r = s.inc rETH_PAUSE_X 31 0 n)) ∧
       Yields s (.pauseFrame e) (fun r => r = s.inc rETH_PAUSE_X 31 0 n)) ∧
     (∀ (prio : Fin 8) t, (s.eport n).paused.find? prio.val = some t → Yields s (.pfcQuantaExpiry e prio) (fun r =>
       r.count = s.dueAt t ∧ (r.eport n).paused.find? prio.val = none ∧ s.SameMem r))) ∧
   (∀ (p : Fin 8) (split : Bool) (s : State), s.dead = false → Yields s (.ethSplit p split) (fun r =>
     r.fld rETH_CTRL 1 1 (2 * p.val) = b2n split ∧ (r.eport (2 * p.val)).partner = none ∧ (r.eport (2 * p.val + 1)).partner = none ∧
     (r.eport (2 * p.val + 1)).link ≠ 2)) ∧
   (∀ (e : Fin 16) (en : Bool) (s : State), s.ethLive e.val = true → Yields s (.ethEnable e en) (fun r => s.SameMem r ∧
     r.fld rETH_CTRL 0 0 e.val = b2n en ∧ (en = false → s.ethOn e.val = true → (r.eport e.val).link = 0)))) ∧
  (∀ (e : Fin 16) (s : State), s.ethLive e.val = true →
     let n := e.val
     (∀ (chassis portId : BitVec 48) (ttl : BitVec 16) (tlv : Option LldpTlv), s.ethUp n = true →
       (ttl ≠ 0 → (s.eport n).partner = none → Yields s (.lldpdu e chassis portId ttl tlv) (fun r =>
         (r.eport n).partner = some { chassis := chassis.toNat, portId := portId.toNat, expiry := s.count + ttl.toNat * perSecond,
                                      tlv := tlv } ∧ s.SameMem r ∧
         r.fld rETH_PARTNER_EVT 31 0 = (s.fld rETH_PARTNER_EVT 31 0 + 1) % 2 ^ 32)) ∧
       (ttl = 0 → Yields s (.lldpdu e chassis portId ttl tlv) (fun r => (r.eport n).partner = none ∧ s.SameMem r))) ∧
     (∀ p, (s.eport n).partner = some p → Yields s (.lldpTtlExpiry e) (fun r => r.count = s.dueAt p.expiry ∧
       (r.eport n).partner = none ∧ r.fld rETH_PARTNER_EVT 63 32 = (s.fld rETH_PARTNER_EVT 63 32 + 1) % 2 ^ 32)) ∧
     (let t := s.fld rETH_LLDP 31 0;
       (t = 0 → exec (.lldpTxTimer e) s = .next s) ∧
       (t ≠ 0 → s.ethUp n = true → Yields s (.lldpTxTimer e) (fun r => r.count = s.dueAt ((s.eport n).lldpAt + t) ∧
         (r.eport n).lldpAt = r.count ∧ ∃ f, r.tx = s.tx ++ [.eth n f]))) ∧
     (∀ (ip : BitVec 32) (mac : BitVec 48) (sip : BitVec 32), s.ethUp n = true →
       (s.ownIp4 n ip.toNat = true → Yields s (.arpRequest e ip mac sip) (fun r =>
         r = s.send (.eth n (s.arpReply n ip.toNat mac.toNat sip.toNat)))) ∧
       (s.ownIp4 n ip.toNat = false → Yields s (.arpRequest e ip mac sip) (fun r => r = s.rxErr n 3))) ∧
     (∀ (ip : BitVec 128) (mac : BitVec 48) (sip : BitVec 128), s.ethUp n = true →
       (s.ownIp6 n ip.toNat = true → Yields s (.neighbourSolicitation e ip mac sip) (fun r =>
         r = s.send (.eth n (s.neighbourAdvert n ip.toNat mac.toNat sip.toNat)))) ∧
       (s.ownIp6 n ip.toNat = false → Yields s (.neighbourSolicitation e ip mac sip) (fun r => r = s.rxErr n 3))))

/-! ### RDMA -/

/-- The package as requester: an acknowledgement frees the messages up to its PSN; a receiver-not-ready NAK, a sequence NAK
and a timeout send again from the PSN that they name, up to the pair's counts; any other NAK fails the pair. Rate control: a
CNP is counted on the pair's port and cuts its rate by the configured fraction, not below the minimum and not twice in the
interval; a step raises every rate by the configured amount, up to the full rate. -/
def Obligations.RequesterResendsAndRatesFollow : Prop :=
  (∀ (qp : BitVec 14) (psn : BitVec 24) (q : Qp) (m : QpMsg) (s : State), s.dead = false →
     let n := qp.toNat
     s.qps.find? n = some q → q.err = false → q.unacked.head? = some m →
     (q.sending psn.toNat = true → Yields s (.acknowledge qp psn) (fun r => r = s.ackedTo n psn.toNat)) ∧
     (∀ syn : BitVec 8, q.sending psn.toNat = true → psn.toNat = m.first →
       (syn.toNat / 32 = 1 → (q.rnrCnt = 7 ∨ q.rnrs < q.rnrCnt) → Yields s (.nak qp psn syn) (fun r =>
         r = (s.updQp n (fun q => { q with rnrs := q.rnrs + 1 })).resend n psn.toNat)) ∧
       (syn = 0x60 → q.retries < q.retryCnt → Yields s (.nak qp psn syn) (fun r =>
         r = (s.updQp n (fun q => { q with retries := q.retries + 1 })).resend n psn.toNat)) ∧
       (syn = 0x60 → q.retryCnt ≤ q.retries → Yields s (.nak qp psn syn) (fun r => r = s.qpFails n 2 0)) ∧
       (syn = 0x61 → Yields s (.nak qp psn syn) (fun r => r = s.qpFails n 1 0x61))) ∧
     (∀ t, q.timer = some t →
       (q.retries < q.retryCnt → Yields s (.ackTimeout qp) (fun r =>
         r = ((s.untilDue t).updQp n (fun q => { q with retries := q.retries + 1 })).resend n m.first)) ∧
       (q.retryCnt ≤ q.retries → Yields s (.ackTimeout qp) (fun r => r = (s.untilDue t).qpFails n 2 0))) ∧
     (∀ x, (s.resend n psn.toNat).qps.find? n = some x → x.unacked = q.unacked ∧ x.sqPsn = q.sqPsn)) ∧
  (∀ (s : State), s.dead = false →
     (∀ (qp : BitVec 14) (q : Qp), s.qps.find? qp.toNat = some q → q.err = false →
       (s.count - q.lastCut < s.fld rETH_CC_TIME 15 0 → Yields s (.cnp qp) (fun r => r = s.inc rETH_CNP 31 0 q.port)) ∧
       (s.fld rETH_CC_TIME 15 0 ≤ s.count - q.lastCut → Yields s (.cnp qp) (fun r =>
         r.fld rETH_CNP 31 0 q.port = (s.fld rETH_CNP 31 0 q.port + 1) % 2 ^ 32 ∧
         { r with ctl := s.ctl, qps := s.qps } = s ∧
         r.qps.find? qp.toNat = some { q with
           rate := max (q.rate - q.rate * s.fld rETH_CC_RATE 39 32 / 256) (s.fld rETH_CC_RATE 15 0)
           lastCut := s.count }))) ∧
     Yields s .ccStep (fun r => r.count = s.dueAt (s.eth.ccAt + s.ccStep) ∧ r.eth.ccAt = s.eth.ccAt + s.ccStep ∧ s.SameMem r ∧
       ∀ n q, s.qps.find? n = some q → ∃ x, r.qps.find? n = some x ∧ x.unacked = q.unacked ∧
         x.rate = (if s.ccStep ≤ r.count - q.lastCut then min (q.rate + s.fld rETH_CC_RATE 31 16) 65536 else q.rate)))

/-! ### The map of the pod -/

/-- The log of the map: a member prepares a signed entry of the next epoch and acknowledges it, and discards a badly signed
one with an event; on acknowledgements of more than half the leader commits; a refusal and a timeout abandon the entry; a
commit of the prepared entry is kept and applied, with its epoch, and what an old epoch held is released once nothing of it
is open. -/
def Obligations.TheLogPreparesCommitsAndApplies : Prop :=
  (∀ (src : BitVec 6) (epoch term : BitVec 32) (p : Proposal) (s : State), s.dead = false →
    let b := p.data
    let e := epoch.toNat
    let t := term.toNat
    let s1 := s.seeTerm t
    (s.mapHears src.toNat = false ∨ t < s.map.term → exec (.mapAppend src epoch term p) s = .next s) ∧
    (s.mapHears src.toNat = true → s.map.term ≤ t →
      (s1.pSigned b = false → exec (.mapAppend src epoch term p) s = .next (s1.badSignature b)) ∧
      (s1.pSigned b = true → e = pBase b + 1 → s1.committedEpoch < e → s.map.podPkg ≠ none → s1.endBusy b = false →
        Yields s (.mapAppend src epoch term p) (fun r => r.map.prepared = some (e, t, b) ∧ r.map.term = t ∧
          r.tx = s.tx ++ [.msg (s.me.1 * 64 + src.toNat) 53 [s.me.2, e, t]] ∧ { r with map := s.map, tx := s.tx } = s)) ∧
      (s1.pSigned b = true → e = pBase b + 1 → s1.committedEpoch < e → s.map.podPkg ≠ none → s1.endBusy b = true →
        Yields s (.mapAppend src epoch term p) (fun r => r.map.prepared = s.map.prepared ∧
          r.tx = s.tx ++ [.msg (s.me.1 * 64 + src.toNat) 54 [s.me.2, e, t, stBusy]]))) ∧
    (s.map.podPkg.isNone = true → s.forms b = true → exec (.proposalForward src p) s = .next (s.leaderTakes src.toNat b)) ∧
    (s.map.podPkg ≠ none → s.leads = true → s.map.members.contains src.toNat = true → s.map.fenced = false →
      exec (.proposalForward src p) s = .next (s.leaderTakes src.toNat b))) ∧
  (∀ (src : BitVec 6) (epoch term : BitVec 32) (status : BitVec 8) (a : Appended) (s : State), s.dead = false →
    s.map.appended = some a → a.epoch = epoch.toNat → s.map.term = term.toNat → src.toNat ∈ s.voters a.bytes →
    let a' : Appended := { a with acks := NatSet.add a.acks src.toNat }
    ((s.voters a.bytes).length < 2 * a'.acks.length → exec (.mapAck src epoch term) s = .next (s.mapWin a')) ∧
    (2 * a'.acks.length ≤ (s.voters a.bytes).length →
      exec (.mapAck src epoch term) s = .next { s with map := { s.map with appended := some a' } }) ∧
    exec (.mapNack src epoch term status) s = .next (s.mapDrop status.toNat).propPump) ∧
  (∀ (s : State), s.dead = false →
    (∀ a, s.map.appended = some a → exec .mapCommitTimeout s =
      .next ((s.untilDue (a.at_ + max 1 (s.rd rCMP_MAP_TMO))).mapDrop stNoMajority).propPump ∧
      (s.mapDrop stNoMajority).map.appended = none ∧ (s.mapDrop stNoMajority).map.prepared = none) ∧
    (s.map.appended = none → exec .mapCommitTimeout s = .next s) ∧
    exec .epochApply s = .next s.mapApply ∧
    (s.map.committed = none → s.mapApply = s) ∧
    (s.gly.inHeld = [] → ∀ e b, (s.applyMap e b s.me).map.epoch = e ∧ (s.applyMap e b s.me).map.committed = none) ∧
    (s.olderOpen s.map.epoch = false → Yields s .epochDrain (fun r => r.map = { s.map with draining := [] } ∧
      { r with map := s.map, sec := s.sec } = s)) ∧
    (s.olderOpen s.map.epoch = true → exec .epochDrain s = .next s)) ∧
  (∀ (src : BitVec 6) (epoch term : BitVec 32) (status : BitVec 8) (b : List Byte) (s : State), s.dead = false →
    s.mapHears src.toNat = true → s.map.prepared = some (epoch.toNat, term.toNat, b) →
    (s.map.committed = none → epoch.toNat = s.map.epoch + 1 → Yields s (.mapCommit src epoch term) (fun r =>
      r.map.committed = some (epoch.toNat, b) ∧ r.map.prepared = none ∧ r.map.term = max s.map.term term.toNat ∧
      { r with map := s.map } = s)) ∧
    (s.map.proposing = [] → Yields s (.mapAbandon src epoch term status) (fun r => r.map.prepared = none ∧
      r.map.term = max s.map.term term.toNat ∧ r.map.committed = s.map.committed ∧ { r with map := s.map } = s)))

/-- Members of the map: a heartbeat is remembered with its time and term; the timer sends this package's epoch and term to
every other member; a member that is not heard for four periods is forgotten; a package that is behind takes the next signed
entry; the leader keeps partner reports and decides disputes with a version above both; an owner with a higher version
replaces the one that is known, and of a table row also the row's place here. Charges and revocations: each period a charge record of a composition is written to its
ledger, or kept; a revocation completes when no access under it is open, with an event and its descriptor's completion, and
a revoked key is gone. -/
def Obligations.MembersOwnChargeAndRevoke : Prop :=
  ((∀ (src : BitVec 6) (epoch term : BitVec 32) (table : List (BitVec 128)) (s : State), s.dead = false →
     let p := src.toNat
     (s.map.podPkg ≠ none → s.map.members.contains p = false → exec (.mapHeartbeat src epoch term table) s = .next s) ∧
     (s.map.podPkg ≠ none → s.map.members.contains p = true → p ≠ s.pkg →
       ∃ q : State, q.map.heard.find? p = some s.count ∧ q.map.term = max s.map.term term.toNat ∧ { q with map := s.map } = s ∧
         Yields s (.mapHeartbeat src epoch term table) (fun r => let x := q.leadCheck.mapLearn p epoch.toNat term.toNat
           r = if x.leader = some p then { x with map := { x.map with partners := (table.map (·.toNat)).take 1024 } } else x))) ∧
   (∀ (s : State), s.dead = false →
     (s.map.podPkg = none → Yields s .heartbeatTimer (fun r => r.count = s.dueAt (s.map.hbAt + 2 ^ 20) ∧
       r.map.hbAt = s.map.hbAt + 2 ^ 20 ∧ r.tx = s.tx ∧ s.SameMem r)) ∧
     (∀ (me other : Nat), s.map.podPkg = some (0, me) → s.map.members = [me, other] → me ≠ other → s.leads = s.map.leading →
       s.leads = false → s.gly.lease = [] → (s.untilDue (s.map.hbAt + 2 ^ 20)).leads = false →
       Yields s .heartbeatTimer (fun r => r.tx = s.tx ++ [.msg other 57 [me, s.map.epoch, s.map.term]] ∧
         r.map.hbAt = s.map.hbAt + 2 ^ 20 ∧ s.SameMem r)) ∧
     (∀ (pkg : BitVec 6) t, s.map.heard.find? pkg.toNat = some t → ∃ q : State, exec (.heartbeatLoss pkg) s = .next (q.leadCheck.memberLost pkg.toNat) ∧
       q.count = s.dueAt (t + 2 ^ 22 + 1) ∧ q.map.heard = s.map.heard.del pkg.toNat ∧ s.SameMem q) ∧
     (∀ (pkg : BitVec 6) (kind : BitVec 2) (num : BitVec 8) (arrival : Bool) (partner : BitVec 16),
       (s.leads = true → exec (.partnerReport pkg kind num arrival partner) s =
         .next (s.recordPartner pkg.toNat kind.toNat num.toNat arrival partner.toNat)) ∧
       (s.leads = false → exec (.partnerReport pkg kind num arrival partner) s = .next s)) ∧
     (∀ (state : Nat) (owner : BitVec 6) (ver : BitVec 32),
       let c := state / 2 ^ 46
       let t := state / 2 ^ 40 % 64
       let row := state % 2 ^ 40
       ((∀ x, s.map.owners.find? state = some x → x.1 < ver.toNat) → Yields s (.ownerSet state owner ver) (fun r =>
         r.map.owners.find? state = some (ver.toNat, owner.toNat) ∧ { r with map := s.map, emb := s.emb } = s ∧
         { r.map with owners := s.map.owners } = s.map ∧
         (s.table? c t = none → r.emb = s.emb) ∧
         (∀ d, c < 4096 → s.table? c t = some d →
           let home := s.tPkg c d (s.tHome c d row).1
           let e := s.etab c t
           let e' := r.etab c t
           (home = s.self → owner.toNat = s.pkg → e'.redirects.find? row = none) ∧
           (∀ y, home = s.self → owner.toNat ≠ s.pkg → e.redirects.find? row = some y →
             e'.redirects.find? row = some { y with st := 1 }) ∧
           (∀ slot o, home ≠ s.self → owner.toNat = s.pkg → e.held.find? row = some (slot, o) →
             e'.held.find? row = some (slot, true)) ∧
           (home ≠ s.self → owner.toNat ≠ s.pkg → e'.held.find? row = none)))) ∧
       (∀ x, s.map.owners.find? state = some x → ver.toNat ≤ x.1 → exec (.ownerSet state owner ver) s = .next s)) ∧
     (∀ (state : Nat) (a b : BitVec 6) (va vb : BitVec 32) (ao bo : Bool), s.map.podPkg ≠ none → s.leads = true →
       a.toNat ≠ s.pkg → b.toNat ≠ s.pkg → Yields s (.ownershipDispute state a b va vb ao bo true true) (fun r =>
         let owner := if va.toNat < vb.toNat then b.toNat else a.toNat
         let ver := max va.toNat vb.toNat + 1
         r.tx = s.tx ++ [.msg (s.me.1 * 64 + a.toNat) 59 [s.me.2, state, owner, ver],
           .msg (s.me.1 * 64 + b.toNat) 59 [s.me.2, state, owner, ver]] ∧
         r.fld rCMP_DISPUTES 31 0 = (s.fld rCMP_DISPUTES 31 0 + 1) % 2 ^ 32))) ∧
   (∀ (src : BitVec 6) (epoch term : BitVec 32) (p : Proposal) (s : State), s.dead = false → s.start.attic = none →
     s.mapHears src.toNat = true → s.map.committed = none →
     (s.pSigned p.data = false → exec (.logCatchUp src epoch term p) s = .next s) ∧
     (s.pSigned p.data = true → s.map.podPkg ≠ none → epoch.toNat = s.map.epoch + 1 → pBase p.data + 1 = epoch.toNat →
       Yields s (.logCatchUp src epoch term p) (fun r => r.map.committed = some (epoch.toNat, p.data) ∧
         r.map.term = max s.map.term term.toNat ∧ { r with map := s.map } = s)))) ∧
  (∀ (s : State), s.dead = false →
     (s.map.charge = [] → Yields s .chargeRecordTimer (fun r => r.count = s.dueAt (s.map.chargeAt + 2 ^ 30) ∧
       r.map.chargeAt = s.map.chargeAt + 2 ^ 30 ∧ r.tx = s.tx ∧ s.SameMem r)) ∧
     (∀ tag x, s.map.charge = [(tag, x)] → s.map.ledger = none → Yields s .chargeRecordTimer (fun r =>
       r.map.chargeSeq = (s.map.chargeSeq + 1) % 2 ^ 32 ∧ r.map.chargeAt = s.map.chargeAt + 2 ^ 30 ∧ r.tx = s.tx ∧ s.SameMem r)) ∧
     (∀ k r, s.map.revoking[k]? = some r →
       ((match r.key with | some x => s.keyOpen x | none => s.olderOpen r.epoch) = false →
         exec (.revocationComplete k) s = .next (s.revokeDone r)) ∧
       ((match r.key with | some x => s.keyOpen x | none => s.olderOpen r.epoch) = true →
         exec (.revocationComplete k) s = .next s)) ∧
     (∀ r key, r.key = some key → r.q = none → (s.revokeDone r).keys.find? (key % 2 ^ 15) = none ∧
       (∀ x, x ∈ (s.revokeDone r).map.revoking → x ≠ r) ∧ s.SameMem (s.revokeDone r) ∧ (s.revokeDone r).units = s.units))

/-! ### Strict rounds and checkpoints -/

/-- Strict rounds: a package of a strict composition that is quiescent reports the operations it holds, once a round; the
coordinator takes reports of its present round; a close performs this package's held operations, in the order of their
source keys, and begins the next round; an exact sum that waited proceeds when there is room. Checkpoints: the interval and
a package that asks begin one at the coordinator; a member freezes, reports that it is drained, stages its part, and keeps
the new image at the commit or drops it at an abort; the coordinator counts drained and staged packages and gives a
checkpoint up when its time is over; a restore takes a member back to the image that it names. -/
def Obligations.RoundsAndCheckpointsCloseAndCommit : Prop :=
  ((∀ (tag : BitVec 20) (s : State), s.dead = false →
     let comp := tag.toNat
     (s.strict comp = true → (s.stripe comp).contains s.self = true → (s.round comp).sent = false → s.quiescent comp = true →
       ∃ q : State, (q.round comp).sent = true ∧ (q.round comp).r = (s.round comp).r ∧
         { q with repro := { q.repro with rounds := s.repro.rounds } } = s ∧ exec (.packageQuiescent tag) s = .next
           (if s.coordinates comp then q.roundReport comp s.self (s.heldOf comp).length
             else q.hubMsg ((s.stripe comp).headD 0) 0x1000 comp 0
               (leBytes 4 comp ++ leBytes 4 (s.round comp).r ++ leBytes 4 (s.heldOf comp).length))) ∧
     (s.strict comp = false → exec (.packageQuiescent tag) s = .next s) ∧
     (∀ (src : BitVec 16) (round held : BitVec 32), s.strict comp = true → s.coordinates comp = true →
       (s.stripe comp).contains src.toNat = true →
       ((s.round comp).r = round.toNat → exec (.quiescent tag src round held) s = .next (s.roundReport comp src.toNat held.toNat)) ∧
       ((s.round comp).r ≠ round.toNat → exec (.quiescent tag src round held) s = .next s)) ∧
     (∀ round : BitVec 32, s.strict comp = true → s.coordinates comp = false → (s.round comp).r = round.toNat →
       exec (.roundClose tag round) s = .next (s.roundPerform comp round.toNat)) ∧
     (∀ r, (s.heldOf comp = [] → s.gly.behind = [] → ((s.roundPerform comp r).round comp).r = r + 1 ∧ ((s.roundPerform comp r).round comp).sent = false))) ∧
   (∀ (die : Fin 8) (k : Nat) (h : HeldOp) (s : State), s.dead = false →
     (s.repro.waits.filter (fun h => h.key / 2 ^ 38 = die.val))[k]? = some h →
     (s.exactRoom h.key h.comp = true → ∃ q : State, q = { s with repro := { s.repro with waits := s.repro.waits.erase h } } ∧
       exec (.exactSumResume die k) s = .next ((q.exactAdd h.key h.comp h.b).answerHeld h 0 false).behindPump) ∧
     (s.exactRoom h.key h.comp = false → exec (.exactSumResume die k) s = .next s))) ∧
  (∀ (tag : BitVec 20) (n : BitVec 32) (s : State), s.dead = false →
     let comp := tag.toNat
     let k := s.ckpt? comp
     let member : Prop := (s.stripe comp).contains s.self = true ∧ s.coordinates comp = false
     (s.coordinates comp = true → k.enabled = true → k.phase = 0 → k.frozen = false →
       (k.asked = true → exec (.ckptInterval tag) s = .next (s.ckptBegin comp none)) ∧
       (k.asked = false → k.interval ≠ 0 → ∃ q : State, exec (.ckptInterval tag) s = .next (q.ckptBegin comp none) ∧
         q.count = s.dueAt (k.lastAt + k.interval * 2 ^ 16) ∧ (q.ckpt? comp).lastAt = k.lastAt + k.interval * 2 ^ 16)) ∧
     (member → exec (.freeze tag n) s = .next (s.freeze comp n.toNat) ∧
       ((s.home.trk = []) → ((s.freeze comp n.toNat).ckpt? comp).frozen = true ∧ ((s.freeze comp n.toNat).ckpt? comp).n = n.toNat ∧
         s.SameMem (s.freeze comp n.toNat) ∧ (s.freeze comp n.toNat).units = s.units)) ∧
     (k.frozen = true → k.drainSent = false → s.compDrained comp = true → ∃ q : State, (q.ckpt? comp).drainSent = true ∧
       { q with ckpt := s.ckpt } = s ∧ exec (.drainComplete tag) s = .next (if s.coordinates comp then q.ckptDrained comp s.self
         else q.hubMsg ((s.stripe comp).headD 0) 0x1101 comp 0 (leBytes 4 comp ++ leBytes 4 k.n))) ∧
     (∀ src : BitVec 16, s.ckptOpen comp n.toNat = true → (s.stripe comp).contains src.toNat = true →
       exec (.drained tag n src) s = .next (s.ckptDrained comp src.toNat) ∧
       (k.phase = 2 → exec (.staged tag n src) s = .next (s.ckptStaged comp src.toNat))) ∧
     (k.frozen = true → k.n = n.toNat → s.coordinates comp = false →
       (k.drainSent = true → exec (.copy tag n) s = .next ((s.ckptStage comp k.n).hubMsg ((s.stripe comp).headD 0) 0x1103 comp 0
         (leBytes 4 comp ++ leBytes 4 k.n))) ∧
       exec (.ckptCommit tag n) s = .next (s.ckptKeep comp n.toNat) ∧ exec (.ckptAbort tag n) s = .next (s.ckptDrop comp n.toNat)) ∧
     (∀ img, k.taken = some img → s.gly.behind = [] → ((s.ckptKeep comp n.toNat).ckpt? comp).image = some img ∧
       ((s.ckptKeep comp n.toNat).ckpt? comp).frozen = false ∧ ((s.ckptKeep comp n.toNat).ckpt? comp).undo = [] ∧
       (s.ckptKeep comp n.toNat).fld rHLT_CKPT 31 0 = (s.fld rHLT_CKPT 31 0 + 1) % 2 ^ 32) ∧
     (s.gly.behind = [] → ((s.ckptDrop comp n.toNat).ckpt? comp).image = k.image ∧ ((s.ckptDrop comp n.toNat).ckpt? comp).frozen = false ∧
       (s.ckptDrop comp n.toNat).fld rHLT_CKPT 63 32 = (s.fld rHLT_CKPT 63 32 + 1) % 2 ^ 32) ∧
     (s.coordinates comp = true → k.phase ≠ 0 →
       (s.rd rHLT_CKPT_TMO ≠ 0 → exec (.ckptTimeout tag) s = .next ((s.untilDue (k.began + s.rd rHLT_CKPT_TMO)).ckptFail comp)) ∧
       (s.rd rHLT_CKPT_TMO = 0 → exec (.ckptTimeout tag) s = .next s)) ∧
     (∀ img, member → k.image = some img →
       (img.n = n.toNat → exec (.restore tag n) s = .next ((s.freeze comp n.toNat).restoreHere comp).2) ∧
       (img.n ≠ n.toNat → exec (.restore tag n) s = .next s)))

/-! ### Health, temperature and sparing -/

/-- Known-answer tests: a slice starts on a unit that qualifies, in observation with the next program and perturbation; a
pass raises an observed unit's score by one, a mismatch takes 64 from it, puts the unit into observation and makes it
suspect below the threshold; a test that falls due and cannot run is counted; the Attic takes scores and the spare map each
2^30 counts; a write of REPRO_DEFAULTS computes both signatures again. -/
def Obligations.TestsScoreUnitsAndSignaturesFollow : Prop :=
  (∀ (u : BitVec 20) (pass : Bool) (diff : Nat) (s : State), s.dead = false →
    let n := u.toNat
    let h := s.hunit n
    (s.unitOk n = false → exec (.katSlice u) s = .fault .noSuchUnit ∧ exec (.katSliceEnd u pass diff) s = .fault .noSuchUnit ∧
      exec (.katInterval u) s = .fault .noSuchUnit) ∧
    (s.unitOk n = true →
      (s.fld rHLT_CFG 24 24 = 1 → (s.unt n).kat = none → s.katFit n = true → Yields s (.katSlice u) (fun r =>
        ∃ prog pert, r.unt n = { s.unt n with kat := some ⟨s.count, prog, pert⟩ } ∧ prog < 16 ∧ pert < 4 ∧
          (h.observed = true → prog = h.tests % 16 ∧ pert = h.tests % 4) ∧ (h.observed = false → pert = 0) ∧
          (∀ v, v ≠ n → r.unt v = s.unt v) ∧ { r with units := s.units, nonce := s.nonce } = s)) ∧
      (s.fld rHLT_CFG 24 24 = 0 ∨ s.katFit n = false → exec (.katSlice u) s = .next s) ∧
      (∀ k, (s.unt n).kat = some k →
        Yields s (.katSliceEnd u pass diff) (fun r => r.unt n = { s.unt n with kat := none } ∧ s.SameMem r ∧
          r.fld rHLT_KAT 31 0 = (s.fld rHLT_KAT 31 0 + 1) % 2 ^ 32 ∧ (r.hunit n).lastAt = s.count ∧
          (pass = true → h.observed = false → r.hunit n = { h with lastAt := s.count, dueBy := none, due := false }) ∧
          (pass = true → h.observed = true → (r.hunit n).score = min 255 (h.score + 1) ∧ (r.hunit n).passes = h.passes + 1 ∧
            (r.hunit n).tests = h.tests + 1) ∧
          (pass = false → (r.hunit n).score = h.score - 64 ∧ (r.hunit n).passes = 0 ∧ (r.hunit n).observed = true ∧
            (r.hunit n).mism = min 255 (h.mism + 1) ∧ (r.hunit n).suspect = (h.suspect || decide (h.score - 64 < s.expelBelow)) ∧
            r.fld rHLT_KAT 63 32 = (s.fld rHLT_KAT 63 32 + 1) % 2 ^ 32))) ∧
      (let q := s.untilDue (s.katDue n)
       Yields s (.katInterval u) (fun r => r.count = s.dueAt (s.katDue n) ∧ (r.hunit n) = { h with due := true } ∧
         (h.observed = false ∧ h.due = false ∧ q.katFit n = false →
           r.fld rHLT_KAT_OVERDUE 31 0 = (s.fld rHLT_KAT_OVERDUE 31 0 + 1) % 2 ^ 32) ∧
         (h.observed = true ∨ h.due = true ∨ q.katFit n = true →
           r.fld rHLT_KAT_OVERDUE 31 0 = s.fld rHLT_KAT_OVERDUE 31 0))))) ∧
  (∀ s : State, s.dead = false →
    Yields s .healthSaveTimer (fun r => r.hlt.saved = s.hlt.units ∧ r.hlt.savedRgn = s.hlt.spareRgn ∧
      r.hlt.savedAt = s.hlt.savedAt + 2 ^ 30 ∧ r.hlt.units = s.hlt.units ∧ r.count = s.dueAt (s.hlt.savedAt + 2 ^ 30)) ∧
    (∀ v : BitVec 32, Yields s (.reproDefaultsWrite v) (fun r => r.fld rREPRO_DEFAULTS 2 0 = v.toNat % 8 ∧
      r.rd rREPRO_SIG_S = leNat (sha256 (r.sigBlock true)) % 2 ^ 256 ∧
      r.rd rREPRO_SIG_C = leNat (sha256 (r.sigBlock false)) % 2 ^ 256 ∧ { r with ctl := s.ctl } = s)))

/-- Regions: one at or above the threshold is throttled until it reads 2 °C below; its temperature band is kept; a failed
region loses its cache and its kernel and takes no group; a suspect unit is replaced by its cluster's spare, and a failed
region by a spare region, only at a switch point and within the caps; a replacement that began is complete at its time. -/
def Obligations.RegionsThrottleFailAndAreSpared : Prop :=
  (∀ (die : Fin 8) (rgn : Fin 128) (temp : BitVec 16) (cause : Nat) (s : State), s.dead = false →
    let r := die.val * 128 + rgn.val
    (s.nRgn ≤ rgn.val → exec (.throttle die rgn temp) s = .fault .noSuchUnit ∧
      exec (.temperatureBandChange die rgn temp) s = .fault .noSuchUnit ∧ exec (.regionFault die rgn cause) s = .fault .noSuchUnit) ∧
    (rgn.val < s.nRgn →
      Yields s (.throttle die rgn temp) (fun q => (q.rgn r).temp = temp.toNat ∧ s.SameMem q ∧ q.units = s.units ∧
        (q.rgn r).throttled = (if (s.rgn r).throttled then decide (s.throttleAt - 8 < tempOf temp)
          else decide (s.throttleAt ≤ tempOf temp)) ∧ (q.rgn r).pow = (s.rgn r).pow ∧ ∀ x, x ≠ r → q.rgn x = s.rgn x) ∧
      Yields s (.temperatureBandChange die rgn temp) (fun q => q.band r = nextBand (s.band r) (tempOf temp) ∧
        (q.rgn r).temp = temp.toNat ∧ { q with rgns := s.rgns, hlt := s.hlt } = s ∧
        ∀ u, rgnOf u ≠ r → q.hunit u = s.hunit u) ∧
      (s.ctxOfRgn r = none → Yields s (.regionFault die rgn cause) (fun q => q.rgn r = { s.rgn r with failed := true } ∧
        q.rcache.find? r = none ∧ { q with rgns := s.rgns, rcache := s.rcache } = s)) ∧
      (∀ c k, s.ctxOfRgn r = some c → (s.ctx c).kernel = some k → k.closed = false →
        Yields s (.regionFault die rgn cause) (fun q => (q.rgn r).failed = true ∧ s.SameMem q ∧
          ∃ k', (q.ctx c).kernel = some k' ∧ k'.closed = true ∧ k'.cause = 3)))) ∧
  (∀ (die : Fin 8) (rgn : Fin 128) (cl : Fin 64) (unit : Fin 16) (whole : Bool) (s : State), s.dead = false →
    let u := die.val * 2 ^ 17 + rgn.val * 2 ^ 10 + cl.val * 16 + unit.val
    let r := die.val * 128 + rgn.val
    (s.nRgn ≤ rgn.val → exec (.spareSwitchIn die rgn cl unit whole) s = .fault .noSuchUnit) ∧
    (rgn.val < s.nRgn →
      (s.switchPoint r = false → exec (.spareSwitchIn die rgn cl unit whole) s = .next s) ∧
      (s.switchPoint r = true → (s.rgn r).failed = false →
        ((s.hunit u).suspect = false → exec (.spareSwitchIn die rgn cl unit whole) s = .next s) ∧
        (∀ c, (s.hunit u).suspect = true → s.capped u = some c →
          exec (.spareSwitchIn die rgn cl unit whole) s = .next (s.capReport u c)) ∧
        ((s.hunit u).suspect = true → s.capped u = none → s.spareFree u = true → whole = false →
          Yields s (.spareSwitchIn die rgn cl unit whole) (fun q => q.unt u = Unt.reset ∧ (∀ v, v ≠ u → q.unt v = s.unt v) ∧
            q.hunit u = { HUnit.reset with spared := true, lastAt := s.count } ∧
            q.hlt.replacing.find? r = some (s.count + 2 ^ 10) ∧
            (s.start.mode = .ready → q.hlt.expelled.getD die.val 0 = s.hlt.expelled.getD die.val 0 + 1)))) ∧
      (s.switchPoint r = true → (s.rgn r).failed = true → s.spareRgns die.val ≠ 0 → whole = true →
        Yields s (.spareSwitchIn die rgn cl unit whole) (fun q => q.rgn r = { Rgn.reset with temp := (s.rgn r).temp } ∧
          q.hlt.spareRgn.getD die.val 0 = s.hlt.spareRgn.getD die.val 0 + 1 ∧ q.hlt.expelled = s.hlt.expelled)))) ∧
  (∀ (die : Fin 8) (rgn : Fin 128) (s : State), s.dead = false →
    let r := die.val * 128 + rgn.val
    (∀ t, s.hlt.replacing.find? r = some t → Yields s (.replacementComplete die rgn) (fun q =>
      q.count = s.dueAt t ∧ q.hlt = { s.hlt with replacing := s.hlt.replacing.del r } ∧ s.SameMem q)) ∧
    (s.hlt.replacing.find? r = none → exec (.replacementComplete die rgn) s = .next s))

/-! ### Rattle and the event recorder -/

/-- Rattle: a sealed composition's package refuses the unlock, a token that fails a check is refused with an event, and a
good one is in force with its mask; a lock clears every Rattle register; an injection that the token does not permit is
ignored, and one that it permits puts COUNT errors into the word of the Shelf, or the line of the Larder, that it names.
Reading such a place finds one error of it, if any, and nothing else: one that cannot be corrected poisons the row or the
line, and a word of a Shelf puts the unit into observation and takes 32 from its score, unless it was injected; one that can
be corrected poisons nothing. -/
def Obligations.RattleUnlocksInjectsAndLocks : Prop :=
  ∀ (s : State), s.dead = false →
    let b := leBytes 512 (s.rd rRATTLE_TOKEN)
    (s.closedHere = true → Yields s .rattleUnlock (fun r => r.fld rRATTLE_CTRL 3 2 = 2 ∧ { r with ctl := s.ctl } = s)) ∧
    (s.closedHere = false →
      (∀ c, s.tokenFails b 1 = some c → Yields s .rattleUnlock (fun r => r.fld rRATTLE_CTRL 3 2 = 3 ∧
        r.sec = s.sec ∧ r.units = s.units ∧ s.SameMem r)) ∧
      (s.tokenFails b 1 = none → Yields s .rattleUnlock (fun r => r.fld rRATTLE_CTRL 3 2 = 1 ∧
        r.sec = { s.sec with rattle := tokAt b 8 8 } ∧ { r with ctl := s.ctl, sec := s.sec } = s))) ∧
    Yields s .rattleLock (fun r => r.fld rRATTLE_CTRL 3 2 = 0 ∧ r.sec = { s.sec with rattle := 0 } ∧
      (∀ o, 0x40000 ≤ o → o < 0x50000 → r.ctl.find? o = none) ∧
      (∀ o, o < 0x40000 ∨ 0x50000 ≤ o → r.ctl.find? o = s.ctl.find? o) ∧ { r with ctl := s.ctl, sec := s.sec } = s) ∧
    (s.rattles 4 = false → exec .rattleInject s = .next s) ∧
    (let f (hi lo : Nat) : Nat := s.fld rRATTLE_INJECT hi lo
     let u := f 51 16 % 2 ^ 20
     s.rattles 4 = true → s.unitOk u = true →
      (f 15 8 = 0 → exec .rattleInject s = .next s) ∧
      (f 3 0 = 0 ∨ f 3 0 = 3 → Yields s .rattleInject (fun r => { r with flaws := s.flaws, nonce := s.nonce } = s ∧
        ∃ l : List Flaw, r.flaws = s.flaws ++ l ∧ l.length = f 15 8 ∧ ∀ e ∈ l, e.inj = true ∧ e.hard = decide (f 5 4 = 1) ∧
          e.spot = (if f 3 0 = 0 then .shelf (u * 2048 + f 127 64 % 2 ^ 14 / 8)
            else .line ((u / 2 ^ 17 * 2 ^ 38 + f 127 64 % dieBytes) / 64))))) ∧
    (∀ (p : Spot) (oper : Nat),
      let r := s.meet p oper
      (s.flawed p = false → r = s) ∧
      (∀ (e : Flaw) (l l' : List Flaw), s.flaws = l ++ e :: l' → e.spot = p → (∀ x ∈ l, x.spot ≠ p) →
        r.flaws = l ++ l' ∧
        (∀ w, p = .shelf w →
          (e.hard = false → r.spois = s.spois) ∧
          (e.hard = true → (∀ k, k ∈ r.spois ↔ k = w / 8 ∨ k ∈ s.spois) ∧ (r.hunit (w / 2048)).observed = true ∧
            (r.hunit (w / 2048)).score = (s.hunit (w / 2048)).score - (if e.inj then 0 else 32)) ∧
          r.units = s.units ∧ r.lpois = s.lpois ∧ s.SameMem r) ∧
        (∀ n, p = .line n → (e.hard = false → r.lpois = s.lpois) ∧ (e.hard = true → ∀ k, k ∈ r.lpois ↔ k = n ∨ k ∈ s.lpois) ∧
          r.units = s.units ∧ r.spois = s.spois ∧ s.SameMem r)))

/-- The recorder: the fall of PWRFAIL_N is recorded and starts the flush of the most recent records, which the flush area
then holds; its rise is recorded; every bucket gains its token at its multiples, up to its burst; a code whose suppressions
are due is reported, and its count returns to zero; a 1 clears a leaf's or a trip's bit and nothing else. -/
def Obligations.RecorderFlushesRefillsAndNotes : Prop :=
  ∀ (s : State),
    let slot := s.evr.seq % 65536
    (s.aon = true → s.evr.flushing = none → Yields s .pwrfailNFall (fun r => r.evr.pwrfail = true ∧ s.SameMem r ∧
      r.units = s.units ∧ ∃ l, r.evr.flushing = some l ∧
        l.find? slot = some (s.evRecord { code := 0x0002, sev := 0 } (min (s.evr.supp.getD 2 (0, 0)).1 0xFFFFFFFF)) ∧
        ∀ k x, l.find? k = some x → r.evr.carousel.find? k = some x)) ∧
    (s.aon = false ∨ s.evr.flushing.isSome = true → exec .pwrfailNFall s = .next s) ∧
    (∀ l, s.evr.flushing = some l → Yields s .powerFailFlushDone (fun r => r.evr = { s.evr with flushArea := l, flushing := none } ∧
      r.fld rEVR_FLUSH 31 0 = (s.fld rEVR_FLUSH 31 0 + 1) % 2 ^ 32 ∧ r.fld rEVR_FLUSH 63 32 = s.evr.cold % 2 ^ 32 ∧
      { r with evr := s.evr, ctl := s.ctl } = s)) ∧
    (s.evr.flushing = none → exec .powerFailFlushDone s = .next s) ∧
    (s.aon = true → s.evr.pwrfail = true → Yields s .pwrfailNRise (fun r => r.evr.pwrfail = false ∧
      r.evr.carousel.find? slot =
        some (s.evRecord { code := 0x0002, sev := 0, d0 := 1 } (min (s.evr.supp.getD 2 (0, 0)).1 0xFFFFFFFF)))) ∧
    (s.aon = true → ∃ t, t = (s.evr.refillAt / 2 ^ 18 + 1) * 2 ^ 18 ∧ Yields s .tokenRefill (fun r =>
      r.count = s.dueAt t ∧ r.evr.refillAt = t ∧ r.evr.carousel = s.evr.carousel ∧ s.SameMem r ∧
      ∀ c n, s.evr.tokens.find? c = some n → r.evr.tokens.find? c =
        some (if t % (2 ^ 25 / (s.evrRate c).2) = 0 then min (s.evrRate c).1 (n + 1) else n))) ∧
    (∀ (code : BitVec 16) (n t : Nat), s.evr.supp.find? code.toNat = some (n, t) → Yields s (.suppressNote code) (fun r =>
      r.count = s.dueAt (t + 2 ^ 25) ∧ r.evr.supp.find? code.toNat = none ∧ s.SameMem r ∧
      ∃ (q : State) (k : Nat), q.count = r.count ∧
        r.evr.carousel.find? slot = some (q.evRecord { code := 0x0001, sev := 0, d0 := code.toNat, d1 := n } k))) ∧
    (∀ code : BitVec 16, s.evr.supp.find? code.toNat = none → exec (.suppressNote code) s = .next s) ∧
    (∀ (g : Fin 16) (j : Fin 8) (v : BitVec 32), Yields s (.irqLeafWrite g j v) (fun r =>
      (∀ k, k < 32 → bitOf (r.rd rIRQ_LEAF g.val j.val) k = (bitOf (s.rd rIRQ_LEAF g.val j.val) k && !v.getLsbD k)) ∧
      (∀ (g' : Fin 16) (j' : Fin 8), (g', j') ≠ (g, j) → r.rd rIRQ_LEAF g'.val j'.val = s.rd rIRQ_LEAF g'.val j'.val) ∧
      { r with ctl := s.ctl } = s)) ∧
    (∀ v : BitVec 9, s.hubUp = true → Yields s (.pwrTripWrite v) (fun r =>
      (∀ k, k < 9 → bitOf (r.rd rPWR_TRIP) k = (bitOf (s.rd rPWR_TRIP) k && !v.getLsbD k)) ∧ { r with ctl := s.ctl } = s)) ∧
    (∀ v : BitVec 9, s.hubUp = false → exec (.pwrTripWrite v) s = .next s)

/-! ### Starts, clocks and power -/

/-- Starts are triggered: the standby supply brings the package to wait for PORST_N; PORST_N low resets every domain but the
always-on one and keeps what is non-volatile; its release starts cold, with the local count at zero and the next cold-start
number; a warm request from Ready keeps the Larder and the count, is held during a start, and is cold after three failures;
a loader request enters the loader, which writes a verified image to the slot that does not verify, or to slot B. -/
def Obligations.StartsAreTriggered : Prop :=
  (∀ (s : State),
    (s.start.mode = .off → exec .standbySupplyApplied s =
      .next { s with start := { s.start with mode := .standby, porst := true } }) ∧
    (s.start.mode ≠ .off → exec .standbySupplyApplied s = .next s) ∧
    Yields s .standbySupplyLoss (fun r => r.start.mode = .off ∧ r.start.porst = true ∧ r.start.lost = true ∧
      r.units = [] ∧ r.larder = [] ∧ r.shelf = [] ∧ r.evr.carousel = [] ∧ r.evr.flushArea = s.evr.flushArea ∧
      r.evr.vault = s.evr.vault ∧ r.sec.flash = s.sec.flash ∧ r.hlt.saved = s.hlt.saved ∧ r.part = s.part) ∧
    (s.start.mode = .off → exec .porstNFall s = .next s) ∧
    (s.start.mode ≠ .off → Yields s .porstNFall (fun r => r.start.mode = .standby ∧ r.start.porst = true ∧ r.start.therm = false ∧
      r.units = [] ∧ r.larder = [] ∧ r.shelf = [] ∧ r.ctxs = State.reset.ctxs ∧ r.qps = [] ∧ r.evr.carousel = s.evr.carousel ∧
      r.count = s.count ∧ (∀ (g : Fin 16) (j : Fin 8), r.rd rIRQ_LEAF g.val j.val = s.rd rIRQ_LEAF g.val j.val) ∧
      (∀ k v, s.cel.vints.find? k = some v → (∀ e, e ∈ s.cel.vints → e.1 = k → e.2.st = 1) → ∃ v', r.cel.vints.find? k = some v' ∧ v'.st = 1 ∧ v'.exts = v.exts) ∧
      r.sec.flash = s.sec.flash ∧ r.sec.spiOpen = true ∧ r.part = s.part)) ∧
    (s.start.mode = .standby ∧ s.start.porst = true → Yields s .porstNRelease (fun r => r.start.mode = .starting ∧
      r.start.kind = 0 ∧ r.start.step = 1 ∧ r.start.porst = false ∧ r.count = 0 ∧ r.evr.cold = (s.evr.cold + 1) % 2 ^ 32 ∧
      r.units = [] ∧ r.larder = [] ∧ r.ctxs = State.reset.ctxs)) ∧
    (s.start.mode ≠ .standby ∨ s.start.porst = false → exec .porstNRelease s = .next s)) ∧
  (∀ (s : State) (n : Nat),
    (n < 4 → exec (.warmN n) s = .next s) ∧
    (4 ≤ n → exec (.warmN n) s = exec .startCtrlWarm s) ∧
    (s.start.mode = .starting → exec .startCtrlWarm s = .next { s with start := { s.start with heldWarm := true } }) ∧
    (s.start.mode = .ready → s.start.warmFails < 3 → Yields s .startCtrlWarm (fun r => r.start.mode = .starting ∧
      r.start.kind = 1 ∧ r.start.step = 1 ∧ r.count = s.count ∧ r.evr.cold = s.evr.cold ∧ r.larder = s.larder ∧ r.units = [] ∧
      r.shelf = [] ∧ r.qps = [] ∧ r.sec.flash = s.sec.flash)) ∧
    (s.start.mode = .ready → 3 ≤ s.start.warmFails → exec .startCtrlWarm s = exec .startCtrlCold s) ∧
    (s.start.mode = .ready ∨ s.start.mode = .loader → Yields s .startCtrlCold (fun r => r.start.mode = .starting ∧
      r.start.kind = 0 ∧ r.start.step = 1 ∧ r.count = 0 ∧ r.evr.cold = (s.evr.cold + 1) % 2 ^ 32 ∧ r.larder = [] ∧ r.units = [])) ∧
    (s.start.mode = .failed → exec .startCtrlCold s = .next s ∧ exec .startCtrlWarm s = .next s ∧ exec .startCtrlLoader s = .next s) ∧
    (s.start.mode = .ready ∨ s.start.mode = .starting → Yields s .startCtrlLoader (fun r => r.start.mode = .loader ∧
      r.start.step = 0 ∧ r.units = [] ∧ r.larder = [] ∧ r.count = s.count))) ∧
  (∀ s : State, s.start.mode = .loader →
    (∀ c, s.imageFails s.fwImage = some c →
      exec .fwCommit s = .next { s with start := { s.start with fw := [] } }) ∧
    (s.imageFails s.fwImage = none → Yields s .fwCommit (fun r =>
      ((s.imageFails (s.sec.flash.getD 0 [])).isSome = true → r.sec.flash = s.sec.flash.put 0 s.fwImage) ∧
      (s.imageFails (s.sec.flash.getD 0 []) = none → r.sec.flash = s.sec.flash.put 1 s.fwImage) ∧
      r.start = { s.start with fw := [] } ∧ { r with start := s.start, sec := s.sec } = s)))

/-- The steps of a start run in order: a step that completes begins the next, one whose check fails or that runs over its
maximum fails the start and begins the next one at once, which after three failed cold starts is the loader; a cause of step
4 names the stack that failed, until the step passes; step 2 boots slot A when its image verifies, and every enabled link
trains from then on; discovery and the region test never fail a start; step 8 ends when the package has rejoined
or at the rejoin timeout, and the package is Ready with both failure counts at zero. -/
def Obligations.StartStepsRunInOrder : Prop :=
  ∀ (cause : Nat) (s : State),
    let x := s.start
    (x.mode ≠ .starting → (∀ ok, exec (.startStepComplete ok cause) s = .next s) ∧ exec .startStepTimeout s = .next s ∧
      exec .startRejoinTimeout s = .next s) ∧
    (x.mode = .starting →
      (x.step = 1 ∨ x.step = 3 ∨ x.step = 4 → exec (.startStepComplete true cause) s =
        .next { s with start := { x with step := x.step + 1, stepAt := s.count, badStacks := if x.step = 4 then [] else x.badStacks } }) ∧
      (x.step = 1 ∨ x.step = 2 ∨ x.step = 3 ∨ x.step = 4 ∨ x.step = 6 → x.kind = 0 →
        (x.coldFails < 2 → Yields s (.startStepComplete false cause) (fun r => r.start.mode = .starting ∧ r.start.step = 1 ∧
          r.start.kind = 0 ∧ r.start.coldFails = x.coldFails + 1 ∧ r.start.lastFail = x.step ∧ r.count = 0 ∧
          (x.step = 4 → r.start.badStacks = NatSet.add x.badStacks (cause % 16))) ∧
          Yields s .startStepTimeout (fun r => r.start.mode = .starting ∧ r.start.step = 1 ∧ r.start.kind = 0 ∧
            r.start.coldFails = x.coldFails + 1 ∧ r.start.lastFail = x.step)) ∧
        (2 ≤ x.coldFails → Yields s (.startStepComplete false cause) (fun r => r.start.mode = .loader ∧
          r.start.lastFail = x.step))) ∧
      (x.step = 1 ∨ x.step = 2 ∨ x.step = 3 ∨ x.step = 4 ∨ x.step = 6 → x.kind = 1 →
        (x.warmFails < 2 → Yields s (.startStepComplete false cause) (fun r => r.start.mode = .starting ∧ r.start.step = 1 ∧
          r.start.kind = 1 ∧ r.start.warmFails = x.warmFails + 1 ∧ r.count = s.count)) ∧
        (2 ≤ x.warmFails → Yields s (.startStepComplete false cause) (fun r => r.start.mode = .starting ∧ r.start.kind = 0 ∧
          r.start.step = 1))) ∧
      (x.step = 2 → s.imageFails (s.sec.flash.getD 0 []) = none → Yields s (.startStepComplete true cause) (fun r =>
        r.start.step = 3 ∧ (∀ l, l < 33 → s.linkOn l = true → (r.link l).st ≠ 0) ∧ r.sec.slot = 0 ∧ r.sec.version = tokAt (s.sec.flash.getD 0 []) 4 4 ∧
        r.sec.svn = tokAt (s.sec.flash.getD 0 []) 8 4 ∧ r.sec.flash = s.sec.flash)) ∧
      (x.step = 7 → (∀ ok, Yields s (.startStepComplete ok cause) (fun r => r.start.step = 8 ∧ r.start.stepAt = s.count ∧
          ∀ i, (r.rgn i).pow = .off)) ∧
        Yields s .startStepTimeout (fun r => r.start.step = 8 ∧ r.start.mode = .starting ∧
          r.count = s.dueAt (x.stepAt + 2 ^ 26 + 1))) ∧
      (x.step = 8 → x.tables = none → x.heldWarm = false →
        (s.rejoined = true → s.alone = false → ∀ ok, Yields s (.startStepComplete ok cause) (fun r =>
          r.start.mode = .ready ∧ r.start.step = 9 ∧ r.start.coldFails = 0 ∧ r.start.warmFails = 0 ∧
          r.rd rSTART_READY = s.count % 2 ^ 64 ∧ s.SameMem r ∧ r.map = s.map)) ∧
        (s.rejoined = false → s.alone = false → ∀ ok, exec (.startStepComplete ok cause) s = .next s) ∧
        Yields s .startRejoinTimeout (fun r => r.start.mode = .ready ∧ r.start.step = 9 ∧ r.start.coldFails = 0 ∧
          r.start.warmFails = 0 ∧ r.count = s.dueAt (x.stepAt + max 1 (s.rd rSTART_REJOIN_TMO))) ∧
        exec .startStepTimeout s = .next s))

/-- Clocks, rails and trips: the loss of REFCLK fails the package until it is back; a reading at or above 110 °C sets the
die's trip bit, drives THERMTRIP_N low and fails the package; a rail outside its limits or an AVSBus fault fails it; a
voltage target moves by 5 mV within 620 to 800 mV, at most once in 256 counts. -/
def Obligations.ClocksRailsAndTripsFailThePackage : Prop :=
  (∀ (s : State),
    (s.start.mode = .ready → s.start.refclk = true → Yields s .refclkLoss (fun r => r.start.mode = .unclocked ∧
      r.start.refclk = false ∧ r.units = s.units ∧ s.SameMem r)) ∧
    (s.start.mode = .off ∨ s.start.refclk = false → exec .refclkLoss s = .next s) ∧
    (s.start.mode = .unclocked → exec .refclkReturn s =
      .next { s with start := { s.start with mode := .standby, refclk := true } }) ∧
    (s.start.mode = .ready → exec .refclkReturn s = .next { s with start := { s.start with refclk := true } })) ∧
  (∀ (die : Fin 9) (t : BitVec 16) (s : State),
    (s.start.mode = .off ∨ tempOf t < 440 → exec (.thermTrip die t) s = .next s) ∧
    (s.start.mode = .ready ∨ s.start.mode = .starting → 440 ≤ tempOf t → Yields s (.thermTrip die t) (fun r =>
      r.start.mode = .failed ∧ r.start.therm = true ∧ bitOf (r.rd rPWR_TRIP) die.val = true ∧ r.units = s.units ∧ s.SameMem r)) ∧
    (s.dead = false →
      Yields s (.avsFault die t) (fun r => r.start = { s.start with mode := .failed } ∧ s.SameMem r) ∧
      (580 ≤ t.toNat ∧ t.toNat ≤ 850 → exec (.railFault die t) s = .next s) ∧
      (t.toNat < 580 ∨ 850 < t.toNat → Yields s (.railFault die t) (fun r =>
        r.start = { s.start with mode := .failed } ∧ s.SameMem r)))) ∧
  (∀ (die : Fin 9) (up : Bool) (s : State), s.dead = false →
    let v := if up then s.railTarget die.val + 5 else s.railTarget die.val - 5
    ((∀ t, s.pwr.stepAt.find? die.val = some t → t + 256 ≤ s.count) → 620 ≤ v → v ≤ 800 →
      Yields s (.voltageStep die up) (fun r => r.railTarget die.val = v ∧ r.pwr.stepAt.find? die.val = some s.count ∧
        (∀ d, d ≠ die.val → r.railTarget d = s.railTarget d) ∧ { r with pwr := s.pwr } = s)) ∧
    (v < 620 ∨ 800 < v → exec (.voltageStep die up) s = .next s) ∧
    (∀ t, s.pwr.stepAt.find? die.val = some t → s.count < t + 256 → exec (.voltageStep die up) s = .next s))

/-! ### Security -/

/-- Enrolment, versions and unlocks: the first fabric key is enrolled without a signature, a later one only with that of the
present key, and at most eight; the fused version follows the running image; a debug unlock is refused for a sealed
composition and for a bad token, and erases memories, keys and the map before it opens; an SPI token opens the port.
Attestation and link keys: a request samples every field at once and, while a report is being signed, is counted and
ignored; when it is done the report and its signature are in SEC_REPORT; valid keys are installed, and others erased, which takes a link
that is Up out of that state (the model's reading, log entry 46). -/
def Obligations.TokensKeysAndReports : Prop :=
  (∀ (s : State), s.dead = false →
     let n := s.sec.slots.length
     let ok := s.fabricOk s.enrollBody (leBytes 384 (s.fld rSEC_ENROLL 6175 3104))
     let b := s.secToken
     (n < 8 → n = 0 ∨ ok = true → Yields s .enroll (fun r => r.sec = { s.sec with
       slots := s.sec.slots ++ [s.enrollKey.digest], fabricNext := some s.enrollKey } ∧ s.SameMem r ∧ r.units = s.units)) ∧
     (8 ≤ n ∨ (0 < n ∧ ok = false) → Yields s .enroll (fun r => r.sec = s.sec ∧ s.SameMem r ∧ r.units = s.units)) ∧
     exec .svnCommit s = .next { s with sec := { s.sec with fusedSvn := max s.sec.fusedSvn s.sec.svn } } ∧
     (s.closedHere = true → exec .debugUnlock s = .next { s with sec := { s.sec with debug := 2 } }) ∧
     (s.closedHere = false →
       (∀ c, s.tokenFails b 0 = some c → Yields s .debugUnlock (fun r => r.sec = { s.sec with debug := 3 } ∧ s.SameMem r ∧
         r.units = s.units)) ∧
       (s.tokenFails b 0 = none → Yields s .debugUnlock (fun r => r.larder = [] ∧ r.shelf = [] ∧ r.map = .reset ∧ r.ckpt = [] ∧
         r.sec = { s.sec with dataKeys := s.sec.dataKeys.filter (fun k => decide (k.1 = 0)), links := [], debug := 1,
                              debugged := true } ∧ ∀ e, e ∈ r.ctxs → e.1 = 0))) ∧
     (∀ c, s.tokenFails b 2 = some c → Yields s .spiUnlock (fun r => r.sec = s.sec ∧ s.SameMem r)) ∧
     (s.tokenFails b 2 = none → Yields s .spiUnlock (fun r => r.sec = { s.sec with spiOpen := true } ∧ s.SameMem r)) ∧
     exec .spiLock s = .next { s with sec := { s.sec with spiOpen := false } } ∧
     (tokAt b 0 1 ≠ 2 → s.tokenFails b 2 = some 1) ∧
     (tokAt b 0 1 = 2 → beNat ((b.drop 16).take 32) = s.part.identity → tokAt b 4 4 < s.evr.cold → s.tokenFails b 2 = some 3)) ∧
  ((∀ (s : State), s.dead = false →
     (s.sec.sample = none → Yields s .attestGo (fun r => r.sec = { s.sec with sample := some (s.count, s.report) } ∧
       r.fld rSEC_ATTEST 2 2 = 0 ∧ { r with sec := s.sec, ctl := s.ctl } = s)) ∧
     (s.sec.sample.isSome = true → Yields s .attestGo (fun r => r.fld rSEC_ATTEST 31 16 = (s.fld rSEC_ATTEST 31 16 + 1) % 2 ^ 16 ∧
       { r with ctl := s.ctl } = s)) ∧
     (∀ t bytes, s.sec.sample = some (t, bytes) → Yields s .attestDone (fun r => r.sec = { s.sec with sample := none } ∧
       r.fld rSEC_ATTEST 2 2 = 1 ∧ r.rd rSEC_REPORT = leNat (bytes ++ signed bytes) % 2 ^ 5632 ∧
       { r with sec := s.sec, ctl := s.ctl } = s)) ∧
     (s.sec.sample = none → exec .attestDone s = .next s)) ∧
   (∀ (n : Fin 33) (v : BitVec 640) (s : State), s.dead = false →
     let k : LinkKey := { valid := true, persist := v.getLsbD 1, txKey := bits v.toNat 639 384, rxKey := bits v.toNat 383 128,
                          txSalt := bits v.toNat 127 96, rxSalt := bits v.toNat 95 64, txUp := 0, rxUp := 0 }
     (v.getLsbD 0 = false → (s.link n.val).st ≠ 3 → Yields s (.linkKeyWrite n v) (fun r => r.linkKey n.val = .reset ∧
       (∀ m, m ≠ n.val → r.linkKey m = s.linkKey m) ∧ { r with sec := s.sec, ctl := s.ctl } = s)) ∧
     (v.getLsbD 0 = false → (s.link n.val).st = 3 → ∃ q : State, q.linkKey n.val = .reset ∧ { q with sec := s.sec, ctl := s.ctl } = s ∧
       exec (.linkKeyWrite n v) s = .next (q.linkLeave n.val false 2)) ∧
     (v.getLsbD 0 = true → (s.link n.val).partner = none ∨ (s.link n.val).st ≠ 2 → Yields s (.linkKeyWrite n v) (fun r =>
       r.linkKey n.val = k ∧ (∀ m, m ≠ n.val → r.linkKey m = s.linkKey m) ∧ { r with sec := s.sec, ctl := s.ctl } = s)) ∧
     (v.getLsbD 0 = true → (s.link n.val).partner ≠ none → (s.link n.val).st = 2 → (s.link n.val).helloSent = true →
       Yields s (.linkKeyWrite n v) (fun r => r.linkKey n.val = { k with txUp := 1 } ∧ (r.link n.val).st = 3))))

/-! ### Pins and registers -/

/-- The package's own interfaces: an SPI read answers the status and what it reaches; a locked port ignores writes, an open
one writes whole words; the I3C port reads the sensor block from its offset, and the block is refreshed each 4,096 counts;
boundary scan answers its registers, and EXTEST in operation fails the package. Control space: a write at an unassigned
offset or in the firmware window outside the loader is ignored, and in the loader stages its bytes; a Rattle register that
the token does not permit ignores the write; a leaf is cleared by ones; a plain register takes the value and no other
register changes; a start request in START_CTRL acts as its own command. -/
def Obligations.PinsAndRegistersAnswer : Prop :=
  ((∀ (off : BitVec 32) (n : Nat) (s : State),
     (s.spiLive = true → Yields s (.spiRead off n) (fun r => { r with tx := s.tx } = s ∧
       ∃ st data, r.tx = s.tx ++ [.spi (st :: data)] ∧ data.length = n ∧ st.getLsbD 0 = s.spiLocked ∧
         (∀ k, k < n → data[k]? = some (if s.spiReaches (off.toNat + k) then s.regByte (off.toNat + k) else 0)))) ∧
     (s.spiLive = false → exec (.spiRead off n) s = .next s) ∧
     (∀ data : List (BitVec 8), s.spiLive = false ∨ s.spiLocked = true → exec (.spiWrite off data) s = .next s) ∧
     (∀ data : List (BitVec 8), s.spiLive = true → s.spiLocked = false → s.spiReaches off.toNat = true → off.toNat % 4 = 0 →
       data.length = 4 → exec (.spiWrite off data) s = .next (s.regWrite off.toNat (leNat data)))) ∧
   (∀ (off : BitVec 8) (addr : BitVec 7) (n : Nat) (s : State), s.aon = true →
     exec (.i3cPrivateWrite off) s = .next { s with pins := { s.pins with i3cOff := off.toNat } } ∧
     exec (.i3cPrivateRead n) s = .next { s with tx := s.tx ++ [.i3c ((s.pins.block.drop s.pins.i3cOff).take n)] } ∧
     exec (.entdaa addr) s = .next { s with pins := { s.pins with i3cAddr := addr.toNat } } ∧
     ∃ q : State, q.count = s.dueAt (s.pins.blockAt + 2 ^ 12) ∧ q.start = s.start ∧ q.rgns = s.rgns ∧
       Yields s .sensorRefresh (fun r => r.pins = { s.pins with block := q.sensorBlock, blockAt := s.pins.blockAt + 2 ^ 12 } ∧
         r.count = q.count ∧ r.pins.block.length = 55 ∧ s.SameMem r)) ∧
   (∀ (v : BitVec 63) (s : State),
     exec .bypass s = .next { s with pins := { s.pins with jtag := 0 }, tx := s.tx ++ [.jtag 0 0] } ∧
     exec .idcode s = .next { s with pins := { s.pins with jtag := 1 }, tx := s.tx ++ [.jtag 1 0x14816A5B] } ∧
     Yields s (.samplePreload v) (fun r => r.pins = { s.pins with jtag := 2, cells := v.toNat } ∧
       (∃ x, x < 2 ^ 63 ∧ r.tx = s.tx ++ [.jtag 2 x]) ∧ { r with pins := s.pins, tx := s.tx, nonce := s.nonce } = s) ∧
     (s.hubUp = false → exec .extest s =
       .next { s with pins := { s.pins with jtag := 3 }, tx := s.tx ++ [.jtag 3 s.pins.cells] }) ∧
     (s.dead = false → Yields s .extest (fun r => r.pins = { s.pins with jtag := 3 } ∧ r.start = { s.start with mode := .failed } ∧
       s.SameMem r)))) ∧
  (∀ (off v : BitVec 32) (s : State),
     (s.hubUp = false → exec (.registerWrite off v) s = .next s) ∧
     (s.hubUp = true →
       (regAt (off.toNat / 4 * 4) = none → off.toNat < 0x10000000 ∨ 0x14000000 ≤ off.toNat →
         exec (.registerWrite off v) s = .next s) ∧
       (0x10000000 ≤ off.toNat → off.toNat < 0x14000000 →
         (s.start.mode ≠ .loader → exec (.registerWrite off v) s = .next s) ∧
         (s.start.mode = .loader → Memory.wf s.start.fw = true → Yields s (.registerWrite off v) (fun r =>
           { r with start := s.start } = s ∧ Memory.wf r.start.fw = true ∧
           Memory.getAll r.start.fw (off.toNat / 4 * 4 - 0x10000000) 4 = leBytes 4 v.toNat))) ∧
       (s.rattles 1 = false → exec (.registerWrite 0x40010 v) s = .next s) ∧
       (∀ (g : Fin 16) (j : Fin 8), exec (.registerWrite (BitVec.ofNat 32 (0x11000 + 0x20 * g.val + 4 * j.val)) v) s =
         exec (.irqLeafWrite g j v) s) ∧
       Yields s (.registerWrite 0x118 v) (fun r => r.rd rSTART_REJOIN_TMO = v.toNat ∧
         (∀ o, o ≠ 0x118 → r.ctl.find? o = s.ctl.find? o) ∧ { r with ctl := s.ctl } = s) ∧
       (∃ q : State, { q with ctl := s.ctl } = s ∧ exec (.registerWrite 0x100 2) s = exec .startCtrlCold q) ∧
       ∃ q : State, { q with ctl := s.ctl } = s ∧ exec (.registerWrite 0x100 4) s = exec .startCtrlWarm q))
end

