-- ==== Sys2Proof/Laws/Assoc.lean ====
section
/-! SUPPORT. The laws of sparse maps and sets of numbers: what a read gives after each change. -/

namespace Sys2Proof.Machine

variable {α β : Type}

@[simp] theorem Assoc.find?_nil (i : Nat) : Assoc.find? ([] : Assoc α) i = none := rfl

/-- A key just put holds the value put. -/
@[simp] theorem Assoc.find?_put_same (m : Assoc α) (i : Nat) (v : α) : (m.put i v).find? i = some v := by
  induction m with
  | nil => simp [Assoc.put, Assoc.find?]
  | cons e m ih =>
    obtain ⟨k, w⟩ := e
    simp only [Assoc.put]
    split
    · simp [Assoc.find?]
    · split
      · simp [Assoc.find?]
      · next h => simp [Assoc.find?, ih, Ne.symm h]

/-- Every other key holds what it held. -/
theorem Assoc.find?_put_other (m : Assoc α) {i j : Nat} (v : α) (h : j ≠ i) : (m.put i v).find? j = m.find? j := by
  induction m with
  | nil => simp [Assoc.put, Assoc.find?, Ne.symm h]
  | cons e m ih =>
    obtain ⟨k, w⟩ := e
    simp only [Assoc.put]
    split
    · simp [Assoc.find?, Ne.symm h]
    · split
      · next h1 => subst h1; simp [Assoc.find?, Ne.symm h]
      · simp only [Assoc.find?, ih]

/-- What a key holds after a put. -/
theorem Assoc.find?_put (m : Assoc α) (i j : Nat) (v : α) :
    (m.put i v).find? j = if j = i then some v else m.find? j := by
  split
  · next h => subst h; exact find?_put_same m j v
  · next h => exact find?_put_other m v h

/-- Read with a default after a put. -/
theorem Assoc.getD_put (m : Assoc α) (i j : Nat) (v d : α) :
    (m.put i v).getD j d = if j = i then v else m.getD j d := by
  simp only [Assoc.getD, find?_put]; split <;> rfl

@[simp] theorem Assoc.getD_put_same (m : Assoc α) (i : Nat) (v d : α) : (m.put i v).getD i d = v := by
  simp [getD_put]

/-- A filter that looks at keys alone keeps what the kept keys hold. -/
theorem Assoc.find?_filter_key (m : Assoc α) (p : Nat → Bool) (j : Nat) :
    Assoc.find? (m.filter (fun e => p e.1)) j = if p j then m.find? j else none := by
  induction m with
  | nil => simp [Assoc.find?]
  | cons e m ih =>
    obtain ⟨k, w⟩ := e
    by_cases hk : p k = true
    · rw [List.filter_cons_of_pos (by simpa using hk)]
      simp only [Assoc.find?, ih]
      by_cases h : k = j
      · subst h; simp [hk]
      · simp [h]
    · rw [List.filter_cons_of_neg (by simpa using hk), ih]
      by_cases h : k = j
      · subst h; simp [hk]
      · simp [Assoc.find?, h]

/-- What a key holds after a removal. -/
theorem Assoc.find?_del (m : Assoc α) (i j : Nat) : (m.del i).find? j = if j = i then none else m.find? j := by
  have h := find?_filter_key m (fun k => decide (k ≠ i)) j
  simp only [Assoc.del, decide_not] at h ⊢
  rw [h]; by_cases hj : j = i <;> simp [hj]

@[simp] theorem Assoc.find?_del_same (m : Assoc α) (i : Nat) : (m.del i).find? i = none := by simp [find?_del]

/-- What a key holds after a map of every value. -/
@[simp] theorem Assoc.find?_mapV (m : Assoc α) (f : Nat → α → β) (j : Nat) :
    (m.mapV f).find? j = (m.find? j).map (f j) := by
  induction m with
  | nil => rfl
  | cons e m ih =>
    obtain ⟨k, w⟩ := e
    simp only [Assoc.mapV, List.map_cons, Assoc.find?] at ih ⊢
    by_cases h : k = j
    · subst h; simp
    · simp only [h, if_false]; exact ih

/-- A key has an entry when a read finds one. -/
theorem Assoc.has_iff (m : Assoc α) (i : Nat) : m.has i = true ↔ ∃ v, m.find? i = some v := by
  simp [Assoc.has, Option.isSome_iff_exists]

/-- A number just added is there, and so is every number that was. -/
theorem NatSet.mem_add (m : NatSet) (i j : Nat) : j ∈ NatSet.add m i ↔ j = i ∨ j ∈ m := by
  induction m with
  | nil => simp [NatSet.add]
  | cons k m ih =>
    simp only [NatSet.add]
    split
    · simp
    · split
      · next h => subst h; simp
      · simp [ih, or_left_comm]

/-- A number removed is gone, and no other is. -/
theorem NatSet.mem_rem (m : NatSet) (i j : Nat) : j ∈ NatSet.rem m i ↔ j ∈ m ∧ j ≠ i := by
  simp [NatSet.rem]

end Sys2Proof.Machine
end

