-- ==== Sys2Proof/Laws/Memory.lean ====
section
/-! SUPPORT. The laws of byte memories: a read after a write, and that every operation keeps the canonical form. -/

namespace Sys2Proof.Machine

/-! ### Canonical form -/

/-- A bound below which every listed address lies above. -/
def Memory.above (lo : Option Nat) (a : Nat) : Prop := match lo with | none => True | some l => l < a

theorem Memory.wfFrom_cons {lo : Option Nat} {k : Nat} {b : Byte} {m : List Host.Cell} :
    Memory.wfFrom lo ((k, b) :: m) = true ↔ Memory.above lo k ∧ b ≠ 0 ∧ Memory.wfFrom (some k) m = true := by
  cases lo <;> simp [Memory.wfFrom, Memory.above, and_assoc]

theorem Memory.above_trans {lo : Option Nat} {k a : Nat} (h : Memory.above lo k) (hk : k < a) : Memory.above lo a := by
  cases lo with
  | none => trivial
  | some l => exact Nat.lt_trans h hk

/-- A list that is canonical above a bound is so above every lower one. -/
theorem Memory.wfFrom_weaken {m : List Host.Cell} {lo : Option Nat} {k : Nat} (h : Memory.above lo k)
    (hm : Memory.wfFrom (some k) m = true) : Memory.wfFrom lo m = true := by
  cases m with
  | nil => rfl
  | cons c m =>
    obtain ⟨a, b⟩ := c
    rw [Memory.wfFrom_cons] at hm ⊢
    exact ⟨above_trans h hm.1, hm.2⟩

/-- An address at or below a bound is unlisted. -/
theorem Memory.get_below {m : List Host.Cell} {l a : Nat} (hm : Memory.wfFrom (some l) m = true) (h : a ≤ l) :
    Memory.get m a = 0 := by
  induction m generalizing l with
  | nil => rfl
  | cons c m ih =>
    obtain ⟨k, b⟩ := c
    rw [Memory.wfFrom_cons] at hm
    have hk : l < k := hm.1
    have : k ≠ a := by omega
    simp only [Memory.get, this, if_false]
    exact ih hm.2.2 (by omega)

/-- Removing an address keeps the canonical form. -/
theorem Memory.wfFrom_clear {m : List Host.Cell} {lo : Option Nat} (a : Nat) (hm : Memory.wfFrom lo m = true) :
    Memory.wfFrom lo (Memory.clear m a) = true := by
  induction m generalizing lo with
  | nil => exact hm
  | cons c m ih =>
    obtain ⟨k, b⟩ := c
    rw [Memory.wfFrom_cons] at hm
    simp only [Memory.clear]
    split
    · exact wfFrom_weaken hm.1 hm.2.2
    · exact wfFrom_cons.mpr ⟨hm.1, hm.2.1, ih hm.2.2⟩

/-- Writing a byte that is not zero keeps the canonical form. -/
theorem Memory.wfFrom_insert {m : List Host.Cell} {lo : Option Nat} {a : Nat} {v : Byte} (hv : v ≠ 0)
    (ha : Memory.above lo a) (hm : Memory.wfFrom lo m = true) : Memory.wfFrom lo (Memory.insert m a v) = true := by
  induction m generalizing lo with
  | nil => exact wfFrom_cons.mpr ⟨ha, hv, rfl⟩
  | cons c m ih =>
    obtain ⟨k, b⟩ := c
    rw [Memory.wfFrom_cons] at hm
    simp only [Memory.insert]
    split
    · next h => exact wfFrom_cons.mpr ⟨ha, hv, wfFrom_cons.mpr ⟨h, hm.2⟩⟩
    · split
      · next h => subst h; exact wfFrom_cons.mpr ⟨ha, hv, hm.2.2⟩
      · next h1 h2 => exact wfFrom_cons.mpr ⟨hm.1, hm.2.1, ih (show k < a by omega) hm.2.2⟩

/-- Writing one byte keeps the canonical form. -/
theorem Memory.wf_set {m : List Host.Cell} (a : Nat) (v : Byte) (hm : Memory.wf m = true) :
    Memory.wf (Memory.set m a v) = true := by
  unfold Memory.set; split
  · exact wfFrom_clear a hm
  · next h => exact wfFrom_insert h trivial hm

/-- Writing bytes keeps the canonical form. -/
theorem Memory.wf_setAll {m : List Host.Cell} (a : Nat) (bs : List Byte) (hm : Memory.wf m = true) :
    Memory.wf (Memory.setAll m a bs) = true := by
  induction bs generalizing m a with
  | nil => exact hm
  | cons b bs ih => exact ih (a + 1) (wf_set a b hm)

/-- Dropping listed addresses keeps the canonical form. -/
theorem Memory.wfFrom_filter {m : List Host.Cell} {lo : Option Nat} (p : Host.Cell → Bool)
    (hm : Memory.wfFrom lo m = true) : Memory.wfFrom lo (m.filter p) = true := by
  induction m generalizing lo with
  | nil => exact hm
  | cons c m ih =>
    obtain ⟨k, b⟩ := c
    rw [Memory.wfFrom_cons] at hm
    by_cases h : p (k, b) = true
    · rw [List.filter_cons_of_pos h]; exact wfFrom_cons.mpr ⟨hm.1, hm.2.1, ih hm.2.2⟩
    · rw [List.filter_cons_of_neg h]; exact wfFrom_weaken hm.1 (ih hm.2.2)

/-- Dropping listed addresses keeps the canonical form. -/
theorem Memory.wf_filter {m : List Host.Cell} (p : Host.Cell → Bool) (hm : Memory.wf m = true) :
    Memory.wf (m.filter p) = true := wfFrom_filter p hm

/-- Zeroing a range keeps the canonical form. -/
theorem Memory.wf_zero {m : List Host.Cell} (a n : Nat) (hm : Memory.wf m = true) : Memory.wf (Memory.zero m a n) = true :=
  wf_filter _ hm

/-- The empty memory is canonical. -/
@[simp] theorem Memory.wf_nil : Memory.wf [] = true := rfl

/-! ### Reads after writes -/

theorem Memory.get_clear {m : List Host.Cell} {lo : Option Nat} (a x : Nat) (hm : Memory.wfFrom lo m = true) :
    Memory.get (Memory.clear m a) x = if x = a then 0 else Memory.get m x := by
  induction m generalizing lo with
  | nil => simp [Memory.clear, Memory.get]
  | cons c m ih =>
    obtain ⟨k, b⟩ := c
    rw [Memory.wfFrom_cons] at hm
    simp only [Memory.clear]
    split
    · next h =>
      subst h
      by_cases hx : x = k
      · subst hx; simp [get_below hm.2.2 (Nat.le_refl x)]
      · simp [Memory.get, hx, Ne.symm hx]
    · next h =>
      simp only [Memory.get, ih hm.2.2]
      by_cases hx : x = a
      · subst hx; simp [h]
      · simp [hx]

theorem Memory.get_insert (m : List Host.Cell) (a x : Nat) (v : Byte) :
    Memory.get (Memory.insert m a v) x = if x = a then v else Memory.get m x := by
  induction m with
  | nil => by_cases h : a = x <;> simp [Memory.insert, Memory.get, h, eq_comm]
  | cons c m ih =>
    obtain ⟨k, b⟩ := c
    simp only [Memory.insert]
    split
    · by_cases hx : x = a
      · subst hx; simp [Memory.get]
      · simp [Memory.get, hx, Ne.symm hx]
    · split
      · next h => subst h; by_cases hx : x = a
                  · subst hx; simp [Memory.get]
                  · simp [Memory.get, hx, Ne.symm hx]
      · next h => simp only [Memory.get, ih]
                  by_cases hx : x = a
                  · subst hx; simp [Ne.symm h]
                  · simp [hx]

/-- A read after a write of one byte (log entry 4: an unlisted byte reads zero). -/
theorem Memory.get_set {m : List Host.Cell} (a x : Nat) (v : Byte) (hm : Memory.wf m = true) :
    Memory.get (Memory.set m a v) x = if x = a then v else Memory.get m x := by
  unfold Memory.set; split
  · next h => subst h; exact get_clear a x hm
  · exact get_insert m a x v

/-- A write of bytes leaves every address outside them alone. -/
theorem Memory.get_setAll_other {m : List Host.Cell} (a x : Nat) (bs : List Byte) (hm : Memory.wf m = true)
    (h : x < a ∨ a + bs.length ≤ x) : Memory.get (Memory.setAll m a bs) x = Memory.get m x := by
  induction bs generalizing m a with
  | nil => rfl
  | cons b bs ih =>
    simp only [List.length_cons] at h
    rw [Memory.setAll, ih (a + 1) (wf_set a b hm) (by omega), get_set a x b hm, if_neg (by omega)]

/-- A write of bytes reads back. -/
theorem Memory.get_setAll {m : List Host.Cell} (a : Nat) (bs : List Byte) (hm : Memory.wf m = true) (i : Nat)
    (h : i < bs.length) : Memory.get (Memory.setAll m a bs) (a + i) = bs[i] := by
  induction bs generalizing m a i with
  | nil => exact absurd h (by simp)
  | cons b bs ih =>
    cases i with
    | zero =>
      show Memory.get _ a = b
      rw [Memory.setAll, get_setAll_other (a + 1) a bs (wf_set a b hm) (by omega), get_set a a b hm, if_pos rfl]
    | succ i =>
      have := ih (a + 1) (wf_set a b hm) i (by simpa using h)
      rw [Memory.setAll, show a + (i + 1) = a + 1 + i by omega, this]; rfl

/-- Bytes read upward from an address are those written there. -/
theorem Memory.getAll_setAll {m : List Host.Cell} (a : Nat) (bs : List Byte) (hm : Memory.wf m = true) :
    Memory.getAll (Memory.setAll m a bs) a bs.length = bs := by
  have key : ∀ (n : Nat) (m' : List Host.Cell) (x : Nat), Memory.getAll m' x n = (List.range n).map (fun i => Memory.get m' (x + i)) := by
    intro n
    induction n with
    | zero => intros; rfl
    | succ n ih =>
      intro m' x
      rw [Memory.getAll, ih, List.range_succ_eq_map]
      simp [Function.comp_def, Nat.add_assoc, Nat.add_comm 1]
  rw [key]
  apply List.ext_getElem
  · simp
  · intro i h1 h2
    simp [get_setAll a bs hm i h2]

/-- A zeroed range reads zero, and the rest as it was. -/
theorem Memory.get_zero (m : List Host.Cell) (a n x : Nat) :
    Memory.get (Memory.zero m a n) x = if a ≤ x ∧ x < a + n then 0 else Memory.get m x := by
  induction m with
  | nil => simp [Memory.zero, Memory.get]
  | cons c m ih =>
    obtain ⟨k, b⟩ := c
    simp only [Memory.zero] at ih ⊢
    by_cases hk : k < a ∨ a + n ≤ k
    · rw [List.filter_cons_of_pos (by simpa using hk)]
      simp only [Memory.get, ih]
      by_cases h : k = x
      · subst h; rw [if_pos rfl, if_pos rfl, if_neg (by omega)]
      · simp [h]
    · rw [List.filter_cons_of_neg (by simpa using hk), ih]
      by_cases h : k = x
      · subst h; rw [if_pos (by omega), if_pos (by omega)]
      · simp [Memory.get, h]

end Sys2Proof.Machine
end

