-- ==== Sys2Proof/Laws/State.lean ====
section
/-! SUPPORT. What each update of one part of the state leaves alone, field by field, and what its accessor then reads. -/

namespace Sys2Proof.Machine

/-! #### `setUnt` -/

@[simp] theorem State.setUnt_pending (s : State) (u : Nat) (x : Unt) : (s.setUnt u x).pending = s.pending := rfl
@[simp] theorem State.setUnt_count (s : State) (u : Nat) (x : Unt) : (s.setUnt u x).count = s.count := rfl
@[simp] theorem State.setUnt_nonce (s : State) (u : Nat) (x : Unt) : (s.setUnt u x).nonce = s.nonce := rfl
@[simp] theorem State.setUnt_part (s : State) (u : Nat) (x : Unt) : (s.setUnt u x).part = s.part := rfl
@[simp] theorem State.setUnt_ctl (s : State) (u : Nat) (x : Unt) : (s.setUnt u x).ctl = s.ctl := rfl
@[simp] theorem State.setUnt_larder (s : State) (u : Nat) (x : Unt) : (s.setUnt u x).larder = s.larder := rfl
@[simp] theorem State.setUnt_shelf (s : State) (u : Nat) (x : Unt) : (s.setUnt u x).shelf = s.shelf := rfl
@[simp] theorem State.setUnt_lpois (s : State) (u : Nat) (x : Unt) : (s.setUnt u x).lpois = s.lpois := rfl
@[simp] theorem State.setUnt_spois (s : State) (u : Nat) (x : Unt) : (s.setUnt u x).spois = s.spois := rfl
@[simp] theorem State.setUnt_flaws (s : State) (u : Nat) (x : Unt) : (s.setUnt u x).flaws = s.flaws := rfl
@[simp] theorem State.setUnt_lcount (s : State) (u : Nat) (x : Unt) : (s.setUnt u x).lcount = s.lcount := rfl
@[simp] theorem State.setUnt_pageOwner (s : State) (u : Nat) (x : Unt) : (s.setUnt u x).pageOwner = s.pageOwner := rfl
@[simp] theorem State.setUnt_groups (s : State) (u : Nat) (x : Unt) : (s.setUnt u x).groups = s.groups := rfl
@[simp] theorem State.setUnt_rgns (s : State) (u : Nat) (x : Unt) : (s.setUnt u x).rgns = s.rgns := rfl
@[simp] theorem State.setUnt_wakes (s : State) (u : Nat) (x : Unt) : (s.setUnt u x).wakes = s.wakes := rfl
@[simp] theorem State.setUnt_taken (s : State) (u : Nat) (x : Unt) : (s.setUnt u x).taken = s.taken := rfl
@[simp] theorem State.setUnt_rcache (s : State) (u : Nat) (x : Unt) : (s.setUnt u x).rcache = s.rcache := rfl
@[simp] theorem State.setUnt_ctxs (s : State) (u : Nat) (x : Unt) : (s.setUnt u x).ctxs = s.ctxs := rfl
@[simp] theorem State.setUnt_flt (s : State) (u : Nat) (x : Unt) : (s.setUnt u x).flt = s.flt := rfl
@[simp] theorem State.setUnt_qps (s : State) (u : Nat) (x : Unt) : (s.setUnt u x).qps = s.qps := rfl
@[simp] theorem State.setUnt_keys (s : State) (u : Nat) (x : Unt) : (s.setUnt u x).keys = s.keys := rfl
@[simp] theorem State.setUnt_keyGen (s : State) (u : Nat) (x : Unt) : (s.setUnt u x).keyGen = s.keyGen := rfl
@[simp] theorem State.setUnt_cel (s : State) (u : Nat) (x : Unt) : (s.setUnt u x).cel = s.cel := rfl
@[simp] theorem State.setUnt_gly (s : State) (u : Nat) (x : Unt) : (s.setUnt u x).gly = s.gly := rfl
@[simp] theorem State.setUnt_home (s : State) (u : Nat) (x : Unt) : (s.setUnt u x).home = s.home := rfl
@[simp] theorem State.setUnt_repro (s : State) (u : Nat) (x : Unt) : (s.setUnt u x).repro = s.repro := rfl
@[simp] theorem State.setUnt_ckpt (s : State) (u : Nat) (x : Unt) : (s.setUnt u x).ckpt = s.ckpt := rfl
@[simp] theorem State.setUnt_map (s : State) (u : Nat) (x : Unt) : (s.setUnt u x).map = s.map := rfl
@[simp] theorem State.setUnt_srch (s : State) (u : Nat) (x : Unt) : (s.setUnt u x).srch = s.srch := rfl
@[simp] theorem State.setUnt_emb (s : State) (u : Nat) (x : Unt) : (s.setUnt u x).emb = s.emb := rfl
@[simp] theorem State.setUnt_evr (s : State) (u : Nat) (x : Unt) : (s.setUnt u x).evr = s.evr := rfl
@[simp] theorem State.setUnt_start (s : State) (u : Nat) (x : Unt) : (s.setUnt u x).start = s.start := rfl
@[simp] theorem State.setUnt_sec (s : State) (u : Nat) (x : Unt) : (s.setUnt u x).sec = s.sec := rfl
@[simp] theorem State.setUnt_swc (s : State) (u : Nat) (x : Unt) : (s.setUnt u x).swc = s.swc := rfl
@[simp] theorem State.setUnt_eth (s : State) (u : Nat) (x : Unt) : (s.setUnt u x).eth = s.eth := rfl
@[simp] theorem State.setUnt_hlt (s : State) (u : Nat) (x : Unt) : (s.setUnt u x).hlt = s.hlt := rfl
@[simp] theorem State.setUnt_pwr (s : State) (u : Nat) (x : Unt) : (s.setUnt u x).pwr = s.pwr := rfl
@[simp] theorem State.setUnt_pins (s : State) (u : Nat) (x : Unt) : (s.setUnt u x).pins = s.pins := rfl
@[simp] theorem State.setUnt_tx (s : State) (u : Nat) (x : Unt) : (s.setUnt u x).tx = s.tx := rfl

/-! #### `updUnt` -/

@[simp] theorem State.updUnt_pending (s : State) (u : Nat) (f : Unt → Unt) : (s.updUnt u f).pending = s.pending := rfl
@[simp] theorem State.updUnt_count (s : State) (u : Nat) (f : Unt → Unt) : (s.updUnt u f).count = s.count := rfl
@[simp] theorem State.updUnt_nonce (s : State) (u : Nat) (f : Unt → Unt) : (s.updUnt u f).nonce = s.nonce := rfl
@[simp] theorem State.updUnt_part (s : State) (u : Nat) (f : Unt → Unt) : (s.updUnt u f).part = s.part := rfl
@[simp] theorem State.updUnt_ctl (s : State) (u : Nat) (f : Unt → Unt) : (s.updUnt u f).ctl = s.ctl := rfl
@[simp] theorem State.updUnt_larder (s : State) (u : Nat) (f : Unt → Unt) : (s.updUnt u f).larder = s.larder := rfl
@[simp] theorem State.updUnt_shelf (s : State) (u : Nat) (f : Unt → Unt) : (s.updUnt u f).shelf = s.shelf := rfl
@[simp] theorem State.updUnt_lpois (s : State) (u : Nat) (f : Unt → Unt) : (s.updUnt u f).lpois = s.lpois := rfl
@[simp] theorem State.updUnt_spois (s : State) (u : Nat) (f : Unt → Unt) : (s.updUnt u f).spois = s.spois := rfl
@[simp] theorem State.updUnt_flaws (s : State) (u : Nat) (f : Unt → Unt) : (s.updUnt u f).flaws = s.flaws := rfl
@[simp] theorem State.updUnt_lcount (s : State) (u : Nat) (f : Unt → Unt) : (s.updUnt u f).lcount = s.lcount := rfl
@[simp] theorem State.updUnt_pageOwner (s : State) (u : Nat) (f : Unt → Unt) : (s.updUnt u f).pageOwner = s.pageOwner := rfl
@[simp] theorem State.updUnt_groups (s : State) (u : Nat) (f : Unt → Unt) : (s.updUnt u f).groups = s.groups := rfl
@[simp] theorem State.updUnt_rgns (s : State) (u : Nat) (f : Unt → Unt) : (s.updUnt u f).rgns = s.rgns := rfl
@[simp] theorem State.updUnt_wakes (s : State) (u : Nat) (f : Unt → Unt) : (s.updUnt u f).wakes = s.wakes := rfl
@[simp] theorem State.updUnt_taken (s : State) (u : Nat) (f : Unt → Unt) : (s.updUnt u f).taken = s.taken := rfl
@[simp] theorem State.updUnt_rcache (s : State) (u : Nat) (f : Unt → Unt) : (s.updUnt u f).rcache = s.rcache := rfl
@[simp] theorem State.updUnt_ctxs (s : State) (u : Nat) (f : Unt → Unt) : (s.updUnt u f).ctxs = s.ctxs := rfl
@[simp] theorem State.updUnt_flt (s : State) (u : Nat) (f : Unt → Unt) : (s.updUnt u f).flt = s.flt := rfl
@[simp] theorem State.updUnt_qps (s : State) (u : Nat) (f : Unt → Unt) : (s.updUnt u f).qps = s.qps := rfl
@[simp] theorem State.updUnt_keys (s : State) (u : Nat) (f : Unt → Unt) : (s.updUnt u f).keys = s.keys := rfl
@[simp] theorem State.updUnt_keyGen (s : State) (u : Nat) (f : Unt → Unt) : (s.updUnt u f).keyGen = s.keyGen := rfl
@[simp] theorem State.updUnt_cel (s : State) (u : Nat) (f : Unt → Unt) : (s.updUnt u f).cel = s.cel := rfl
@[simp] theorem State.updUnt_gly (s : State) (u : Nat) (f : Unt → Unt) : (s.updUnt u f).gly = s.gly := rfl
@[simp] theorem State.updUnt_home (s : State) (u : Nat) (f : Unt → Unt) : (s.updUnt u f).home = s.home := rfl
@[simp] theorem State.updUnt_repro (s : State) (u : Nat) (f : Unt → Unt) : (s.updUnt u f).repro = s.repro := rfl
@[simp] theorem State.updUnt_ckpt (s : State) (u : Nat) (f : Unt → Unt) : (s.updUnt u f).ckpt = s.ckpt := rfl
@[simp] theorem State.updUnt_map (s : State) (u : Nat) (f : Unt → Unt) : (s.updUnt u f).map = s.map := rfl
@[simp] theorem State.updUnt_srch (s : State) (u : Nat) (f : Unt → Unt) : (s.updUnt u f).srch = s.srch := rfl
@[simp] theorem State.updUnt_emb (s : State) (u : Nat) (f : Unt → Unt) : (s.updUnt u f).emb = s.emb := rfl
@[simp] theorem State.updUnt_evr (s : State) (u : Nat) (f : Unt → Unt) : (s.updUnt u f).evr = s.evr := rfl
@[simp] theorem State.updUnt_start (s : State) (u : Nat) (f : Unt → Unt) : (s.updUnt u f).start = s.start := rfl
@[simp] theorem State.updUnt_sec (s : State) (u : Nat) (f : Unt → Unt) : (s.updUnt u f).sec = s.sec := rfl
@[simp] theorem State.updUnt_swc (s : State) (u : Nat) (f : Unt → Unt) : (s.updUnt u f).swc = s.swc := rfl
@[simp] theorem State.updUnt_eth (s : State) (u : Nat) (f : Unt → Unt) : (s.updUnt u f).eth = s.eth := rfl
@[simp] theorem State.updUnt_hlt (s : State) (u : Nat) (f : Unt → Unt) : (s.updUnt u f).hlt = s.hlt := rfl
@[simp] theorem State.updUnt_pwr (s : State) (u : Nat) (f : Unt → Unt) : (s.updUnt u f).pwr = s.pwr := rfl
@[simp] theorem State.updUnt_pins (s : State) (u : Nat) (f : Unt → Unt) : (s.updUnt u f).pins = s.pins := rfl
@[simp] theorem State.updUnt_tx (s : State) (u : Nat) (f : Unt → Unt) : (s.updUnt u f).tx = s.tx := rfl

/-! #### `setThr` -/

@[simp] theorem State.setThr_pending (s : State) (u t : Nat) (y : Thread) : (s.setThr u t y).pending = s.pending := rfl
@[simp] theorem State.setThr_count (s : State) (u t : Nat) (y : Thread) : (s.setThr u t y).count = s.count := rfl
@[simp] theorem State.setThr_nonce (s : State) (u t : Nat) (y : Thread) : (s.setThr u t y).nonce = s.nonce := rfl
@[simp] theorem State.setThr_part (s : State) (u t : Nat) (y : Thread) : (s.setThr u t y).part = s.part := rfl
@[simp] theorem State.setThr_ctl (s : State) (u t : Nat) (y : Thread) : (s.setThr u t y).ctl = s.ctl := rfl
@[simp] theorem State.setThr_larder (s : State) (u t : Nat) (y : Thread) : (s.setThr u t y).larder = s.larder := rfl
@[simp] theorem State.setThr_shelf (s : State) (u t : Nat) (y : Thread) : (s.setThr u t y).shelf = s.shelf := rfl
@[simp] theorem State.setThr_lpois (s : State) (u t : Nat) (y : Thread) : (s.setThr u t y).lpois = s.lpois := rfl
@[simp] theorem State.setThr_spois (s : State) (u t : Nat) (y : Thread) : (s.setThr u t y).spois = s.spois := rfl
@[simp] theorem State.setThr_flaws (s : State) (u t : Nat) (y : Thread) : (s.setThr u t y).flaws = s.flaws := rfl
@[simp] theorem State.setThr_lcount (s : State) (u t : Nat) (y : Thread) : (s.setThr u t y).lcount = s.lcount := rfl
@[simp] theorem State.setThr_pageOwner (s : State) (u t : Nat) (y : Thread) : (s.setThr u t y).pageOwner = s.pageOwner := rfl
@[simp] theorem State.setThr_groups (s : State) (u t : Nat) (y : Thread) : (s.setThr u t y).groups = s.groups := rfl
@[simp] theorem State.setThr_rgns (s : State) (u t : Nat) (y : Thread) : (s.setThr u t y).rgns = s.rgns := rfl
@[simp] theorem State.setThr_wakes (s : State) (u t : Nat) (y : Thread) : (s.setThr u t y).wakes = s.wakes := rfl
@[simp] theorem State.setThr_taken (s : State) (u t : Nat) (y : Thread) : (s.setThr u t y).taken = s.taken := rfl
@[simp] theorem State.setThr_rcache (s : State) (u t : Nat) (y : Thread) : (s.setThr u t y).rcache = s.rcache := rfl
@[simp] theorem State.setThr_ctxs (s : State) (u t : Nat) (y : Thread) : (s.setThr u t y).ctxs = s.ctxs := rfl
@[simp] theorem State.setThr_flt (s : State) (u t : Nat) (y : Thread) : (s.setThr u t y).flt = s.flt := rfl
@[simp] theorem State.setThr_qps (s : State) (u t : Nat) (y : Thread) : (s.setThr u t y).qps = s.qps := rfl
@[simp] theorem State.setThr_keys (s : State) (u t : Nat) (y : Thread) : (s.setThr u t y).keys = s.keys := rfl
@[simp] theorem State.setThr_keyGen (s : State) (u t : Nat) (y : Thread) : (s.setThr u t y).keyGen = s.keyGen := rfl
@[simp] theorem State.setThr_cel (s : State) (u t : Nat) (y : Thread) : (s.setThr u t y).cel = s.cel := rfl
@[simp] theorem State.setThr_gly (s : State) (u t : Nat) (y : Thread) : (s.setThr u t y).gly = s.gly := rfl
@[simp] theorem State.setThr_home (s : State) (u t : Nat) (y : Thread) : (s.setThr u t y).home = s.home := rfl
@[simp] theorem State.setThr_repro (s : State) (u t : Nat) (y : Thread) : (s.setThr u t y).repro = s.repro := rfl
@[simp] theorem State.setThr_ckpt (s : State) (u t : Nat) (y : Thread) : (s.setThr u t y).ckpt = s.ckpt := rfl
@[simp] theorem State.setThr_map (s : State) (u t : Nat) (y : Thread) : (s.setThr u t y).map = s.map := rfl
@[simp] theorem State.setThr_srch (s : State) (u t : Nat) (y : Thread) : (s.setThr u t y).srch = s.srch := rfl
@[simp] theorem State.setThr_emb (s : State) (u t : Nat) (y : Thread) : (s.setThr u t y).emb = s.emb := rfl
@[simp] theorem State.setThr_evr (s : State) (u t : Nat) (y : Thread) : (s.setThr u t y).evr = s.evr := rfl
@[simp] theorem State.setThr_start (s : State) (u t : Nat) (y : Thread) : (s.setThr u t y).start = s.start := rfl
@[simp] theorem State.setThr_sec (s : State) (u t : Nat) (y : Thread) : (s.setThr u t y).sec = s.sec := rfl
@[simp] theorem State.setThr_swc (s : State) (u t : Nat) (y : Thread) : (s.setThr u t y).swc = s.swc := rfl
@[simp] theorem State.setThr_eth (s : State) (u t : Nat) (y : Thread) : (s.setThr u t y).eth = s.eth := rfl
@[simp] theorem State.setThr_hlt (s : State) (u t : Nat) (y : Thread) : (s.setThr u t y).hlt = s.hlt := rfl
@[simp] theorem State.setThr_pwr (s : State) (u t : Nat) (y : Thread) : (s.setThr u t y).pwr = s.pwr := rfl
@[simp] theorem State.setThr_pins (s : State) (u t : Nat) (y : Thread) : (s.setThr u t y).pins = s.pins := rfl
@[simp] theorem State.setThr_tx (s : State) (u t : Nat) (y : Thread) : (s.setThr u t y).tx = s.tx := rfl

/-! #### `updThr` -/

@[simp] theorem State.updThr_pending (s : State) (u t : Nat) (f : Thread → Thread) : (s.updThr u t f).pending = s.pending := rfl
@[simp] theorem State.updThr_count (s : State) (u t : Nat) (f : Thread → Thread) : (s.updThr u t f).count = s.count := rfl
@[simp] theorem State.updThr_nonce (s : State) (u t : Nat) (f : Thread → Thread) : (s.updThr u t f).nonce = s.nonce := rfl
@[simp] theorem State.updThr_part (s : State) (u t : Nat) (f : Thread → Thread) : (s.updThr u t f).part = s.part := rfl
@[simp] theorem State.updThr_ctl (s : State) (u t : Nat) (f : Thread → Thread) : (s.updThr u t f).ctl = s.ctl := rfl
@[simp] theorem State.updThr_larder (s : State) (u t : Nat) (f : Thread → Thread) : (s.updThr u t f).larder = s.larder := rfl
@[simp] theorem State.updThr_shelf (s : State) (u t : Nat) (f : Thread → Thread) : (s.updThr u t f).shelf = s.shelf := rfl
@[simp] theorem State.updThr_lpois (s : State) (u t : Nat) (f : Thread → Thread) : (s.updThr u t f).lpois = s.lpois := rfl
@[simp] theorem State.updThr_spois (s : State) (u t : Nat) (f : Thread → Thread) : (s.updThr u t f).spois = s.spois := rfl
@[simp] theorem State.updThr_flaws (s : State) (u t : Nat) (f : Thread → Thread) : (s.updThr u t f).flaws = s.flaws := rfl
@[simp] theorem State.updThr_lcount (s : State) (u t : Nat) (f : Thread → Thread) : (s.updThr u t f).lcount = s.lcount := rfl
@[simp] theorem State.updThr_pageOwner (s : State) (u t : Nat) (f : Thread → Thread) : (s.updThr u t f).pageOwner = s.pageOwner := rfl
@[simp] theorem State.updThr_groups (s : State) (u t : Nat) (f : Thread → Thread) : (s.updThr u t f).groups = s.groups := rfl
@[simp] theorem State.updThr_rgns (s : State) (u t : Nat) (f : Thread → Thread) : (s.updThr u t f).rgns = s.rgns := rfl
@[simp] theorem State.updThr_wakes (s : State) (u t : Nat) (f : Thread → Thread) : (s.updThr u t f).wakes = s.wakes := rfl
@[simp] theorem State.updThr_taken (s : State) (u t : Nat) (f : Thread → Thread) : (s.updThr u t f).taken = s.taken := rfl
@[simp] theorem State.updThr_rcache (s : State) (u t : Nat) (f : Thread → Thread) : (s.updThr u t f).rcache = s.rcache := rfl
@[simp] theorem State.updThr_ctxs (s : State) (u t : Nat) (f : Thread → Thread) : (s.updThr u t f).ctxs = s.ctxs := rfl
@[simp] theorem State.updThr_flt (s : State) (u t : Nat) (f : Thread → Thread) : (s.updThr u t f).flt = s.flt := rfl
@[simp] theorem State.updThr_qps (s : State) (u t : Nat) (f : Thread → Thread) : (s.updThr u t f).qps = s.qps := rfl
@[simp] theorem State.updThr_keys (s : State) (u t : Nat) (f : Thread → Thread) : (s.updThr u t f).keys = s.keys := rfl
@[simp] theorem State.updThr_keyGen (s : State) (u t : Nat) (f : Thread → Thread) : (s.updThr u t f).keyGen = s.keyGen := rfl
@[simp] theorem State.updThr_cel (s : State) (u t : Nat) (f : Thread → Thread) : (s.updThr u t f).cel = s.cel := rfl
@[simp] theorem State.updThr_gly (s : State) (u t : Nat) (f : Thread → Thread) : (s.updThr u t f).gly = s.gly := rfl
@[simp] theorem State.updThr_home (s : State) (u t : Nat) (f : Thread → Thread) : (s.updThr u t f).home = s.home := rfl
@[simp] theorem State.updThr_repro (s : State) (u t : Nat) (f : Thread → Thread) : (s.updThr u t f).repro = s.repro := rfl
@[simp] theorem State.updThr_ckpt (s : State) (u t : Nat) (f : Thread → Thread) : (s.updThr u t f).ckpt = s.ckpt := rfl
@[simp] theorem State.updThr_map (s : State) (u t : Nat) (f : Thread → Thread) : (s.updThr u t f).map = s.map := rfl
@[simp] theorem State.updThr_srch (s : State) (u t : Nat) (f : Thread → Thread) : (s.updThr u t f).srch = s.srch := rfl
@[simp] theorem State.updThr_emb (s : State) (u t : Nat) (f : Thread → Thread) : (s.updThr u t f).emb = s.emb := rfl
@[simp] theorem State.updThr_evr (s : State) (u t : Nat) (f : Thread → Thread) : (s.updThr u t f).evr = s.evr := rfl
@[simp] theorem State.updThr_start (s : State) (u t : Nat) (f : Thread → Thread) : (s.updThr u t f).start = s.start := rfl
@[simp] theorem State.updThr_sec (s : State) (u t : Nat) (f : Thread → Thread) : (s.updThr u t f).sec = s.sec := rfl
@[simp] theorem State.updThr_swc (s : State) (u t : Nat) (f : Thread → Thread) : (s.updThr u t f).swc = s.swc := rfl
@[simp] theorem State.updThr_eth (s : State) (u t : Nat) (f : Thread → Thread) : (s.updThr u t f).eth = s.eth := rfl
@[simp] theorem State.updThr_hlt (s : State) (u t : Nat) (f : Thread → Thread) : (s.updThr u t f).hlt = s.hlt := rfl
@[simp] theorem State.updThr_pwr (s : State) (u t : Nat) (f : Thread → Thread) : (s.updThr u t f).pwr = s.pwr := rfl
@[simp] theorem State.updThr_pins (s : State) (u t : Nat) (f : Thread → Thread) : (s.updThr u t f).pins = s.pins := rfl
@[simp] theorem State.updThr_tx (s : State) (u t : Nat) (f : Thread → Thread) : (s.updThr u t f).tx = s.tx := rfl

/-! #### `updRgn` -/

@[simp] theorem State.updRgn_pending (s : State) (r : Nat) (f : Rgn → Rgn) : (s.updRgn r f).pending = s.pending := rfl
@[simp] theorem State.updRgn_count (s : State) (r : Nat) (f : Rgn → Rgn) : (s.updRgn r f).count = s.count := rfl
@[simp] theorem State.updRgn_nonce (s : State) (r : Nat) (f : Rgn → Rgn) : (s.updRgn r f).nonce = s.nonce := rfl
@[simp] theorem State.updRgn_part (s : State) (r : Nat) (f : Rgn → Rgn) : (s.updRgn r f).part = s.part := rfl
@[simp] theorem State.updRgn_ctl (s : State) (r : Nat) (f : Rgn → Rgn) : (s.updRgn r f).ctl = s.ctl := rfl
@[simp] theorem State.updRgn_larder (s : State) (r : Nat) (f : Rgn → Rgn) : (s.updRgn r f).larder = s.larder := rfl
@[simp] theorem State.updRgn_shelf (s : State) (r : Nat) (f : Rgn → Rgn) : (s.updRgn r f).shelf = s.shelf := rfl
@[simp] theorem State.updRgn_lpois (s : State) (r : Nat) (f : Rgn → Rgn) : (s.updRgn r f).lpois = s.lpois := rfl
@[simp] theorem State.updRgn_spois (s : State) (r : Nat) (f : Rgn → Rgn) : (s.updRgn r f).spois = s.spois := rfl
@[simp] theorem State.updRgn_flaws (s : State) (r : Nat) (f : Rgn → Rgn) : (s.updRgn r f).flaws = s.flaws := rfl
@[simp] theorem State.updRgn_lcount (s : State) (r : Nat) (f : Rgn → Rgn) : (s.updRgn r f).lcount = s.lcount := rfl
@[simp] theorem State.updRgn_pageOwner (s : State) (r : Nat) (f : Rgn → Rgn) : (s.updRgn r f).pageOwner = s.pageOwner := rfl
@[simp] theorem State.updRgn_units (s : State) (r : Nat) (f : Rgn → Rgn) : (s.updRgn r f).units = s.units := rfl
@[simp] theorem State.updRgn_groups (s : State) (r : Nat) (f : Rgn → Rgn) : (s.updRgn r f).groups = s.groups := rfl
@[simp] theorem State.updRgn_wakes (s : State) (r : Nat) (f : Rgn → Rgn) : (s.updRgn r f).wakes = s.wakes := rfl
@[simp] theorem State.updRgn_taken (s : State) (r : Nat) (f : Rgn → Rgn) : (s.updRgn r f).taken = s.taken := rfl
@[simp] theorem State.updRgn_rcache (s : State) (r : Nat) (f : Rgn → Rgn) : (s.updRgn r f).rcache = s.rcache := rfl
@[simp] theorem State.updRgn_ctxs (s : State) (r : Nat) (f : Rgn → Rgn) : (s.updRgn r f).ctxs = s.ctxs := rfl
@[simp] theorem State.updRgn_flt (s : State) (r : Nat) (f : Rgn → Rgn) : (s.updRgn r f).flt = s.flt := rfl
@[simp] theorem State.updRgn_qps (s : State) (r : Nat) (f : Rgn → Rgn) : (s.updRgn r f).qps = s.qps := rfl
@[simp] theorem State.updRgn_keys (s : State) (r : Nat) (f : Rgn → Rgn) : (s.updRgn r f).keys = s.keys := rfl
@[simp] theorem State.updRgn_keyGen (s : State) (r : Nat) (f : Rgn → Rgn) : (s.updRgn r f).keyGen = s.keyGen := rfl
@[simp] theorem State.updRgn_cel (s : State) (r : Nat) (f : Rgn → Rgn) : (s.updRgn r f).cel = s.cel := rfl
@[simp] theorem State.updRgn_gly (s : State) (r : Nat) (f : Rgn → Rgn) : (s.updRgn r f).gly = s.gly := rfl
@[simp] theorem State.updRgn_home (s : State) (r : Nat) (f : Rgn → Rgn) : (s.updRgn r f).home = s.home := rfl
@[simp] theorem State.updRgn_repro (s : State) (r : Nat) (f : Rgn → Rgn) : (s.updRgn r f).repro = s.repro := rfl
@[simp] theorem State.updRgn_ckpt (s : State) (r : Nat) (f : Rgn → Rgn) : (s.updRgn r f).ckpt = s.ckpt := rfl
@[simp] theorem State.updRgn_map (s : State) (r : Nat) (f : Rgn → Rgn) : (s.updRgn r f).map = s.map := rfl
@[simp] theorem State.updRgn_srch (s : State) (r : Nat) (f : Rgn → Rgn) : (s.updRgn r f).srch = s.srch := rfl
@[simp] theorem State.updRgn_emb (s : State) (r : Nat) (f : Rgn → Rgn) : (s.updRgn r f).emb = s.emb := rfl
@[simp] theorem State.updRgn_evr (s : State) (r : Nat) (f : Rgn → Rgn) : (s.updRgn r f).evr = s.evr := rfl
@[simp] theorem State.updRgn_start (s : State) (r : Nat) (f : Rgn → Rgn) : (s.updRgn r f).start = s.start := rfl
@[simp] theorem State.updRgn_sec (s : State) (r : Nat) (f : Rgn → Rgn) : (s.updRgn r f).sec = s.sec := rfl
@[simp] theorem State.updRgn_swc (s : State) (r : Nat) (f : Rgn → Rgn) : (s.updRgn r f).swc = s.swc := rfl
@[simp] theorem State.updRgn_eth (s : State) (r : Nat) (f : Rgn → Rgn) : (s.updRgn r f).eth = s.eth := rfl
@[simp] theorem State.updRgn_hlt (s : State) (r : Nat) (f : Rgn → Rgn) : (s.updRgn r f).hlt = s.hlt := rfl
@[simp] theorem State.updRgn_pwr (s : State) (r : Nat) (f : Rgn → Rgn) : (s.updRgn r f).pwr = s.pwr := rfl
@[simp] theorem State.updRgn_pins (s : State) (r : Nat) (f : Rgn → Rgn) : (s.updRgn r f).pins = s.pins := rfl
@[simp] theorem State.updRgn_tx (s : State) (r : Nat) (f : Rgn → Rgn) : (s.updRgn r f).tx = s.tx := rfl

/-! #### `updCtx` -/

@[simp] theorem State.updCtx_pending (s : State) (c : Nat) (f : Ctx → Ctx) : (s.updCtx c f).pending = s.pending := rfl
@[simp] theorem State.updCtx_count (s : State) (c : Nat) (f : Ctx → Ctx) : (s.updCtx c f).count = s.count := rfl
@[simp] theorem State.updCtx_nonce (s : State) (c : Nat) (f : Ctx → Ctx) : (s.updCtx c f).nonce = s.nonce := rfl
@[simp] theorem State.updCtx_part (s : State) (c : Nat) (f : Ctx → Ctx) : (s.updCtx c f).part = s.part := rfl
@[simp] theorem State.updCtx_ctl (s : State) (c : Nat) (f : Ctx → Ctx) : (s.updCtx c f).ctl = s.ctl := rfl
@[simp] theorem State.updCtx_larder (s : State) (c : Nat) (f : Ctx → Ctx) : (s.updCtx c f).larder = s.larder := rfl
@[simp] theorem State.updCtx_shelf (s : State) (c : Nat) (f : Ctx → Ctx) : (s.updCtx c f).shelf = s.shelf := rfl
@[simp] theorem State.updCtx_lpois (s : State) (c : Nat) (f : Ctx → Ctx) : (s.updCtx c f).lpois = s.lpois := rfl
@[simp] theorem State.updCtx_spois (s : State) (c : Nat) (f : Ctx → Ctx) : (s.updCtx c f).spois = s.spois := rfl
@[simp] theorem State.updCtx_flaws (s : State) (c : Nat) (f : Ctx → Ctx) : (s.updCtx c f).flaws = s.flaws := rfl
@[simp] theorem State.updCtx_lcount (s : State) (c : Nat) (f : Ctx → Ctx) : (s.updCtx c f).lcount = s.lcount := rfl
@[simp] theorem State.updCtx_pageOwner (s : State) (c : Nat) (f : Ctx → Ctx) : (s.updCtx c f).pageOwner = s.pageOwner := rfl
@[simp] theorem State.updCtx_units (s : State) (c : Nat) (f : Ctx → Ctx) : (s.updCtx c f).units = s.units := rfl
@[simp] theorem State.updCtx_groups (s : State) (c : Nat) (f : Ctx → Ctx) : (s.updCtx c f).groups = s.groups := rfl
@[simp] theorem State.updCtx_rgns (s : State) (c : Nat) (f : Ctx → Ctx) : (s.updCtx c f).rgns = s.rgns := rfl
@[simp] theorem State.updCtx_wakes (s : State) (c : Nat) (f : Ctx → Ctx) : (s.updCtx c f).wakes = s.wakes := rfl
@[simp] theorem State.updCtx_taken (s : State) (c : Nat) (f : Ctx → Ctx) : (s.updCtx c f).taken = s.taken := rfl
@[simp] theorem State.updCtx_rcache (s : State) (c : Nat) (f : Ctx → Ctx) : (s.updCtx c f).rcache = s.rcache := rfl
@[simp] theorem State.updCtx_flt (s : State) (c : Nat) (f : Ctx → Ctx) : (s.updCtx c f).flt = s.flt := rfl
@[simp] theorem State.updCtx_qps (s : State) (c : Nat) (f : Ctx → Ctx) : (s.updCtx c f).qps = s.qps := rfl
@[simp] theorem State.updCtx_keys (s : State) (c : Nat) (f : Ctx → Ctx) : (s.updCtx c f).keys = s.keys := rfl
@[simp] theorem State.updCtx_keyGen (s : State) (c : Nat) (f : Ctx → Ctx) : (s.updCtx c f).keyGen = s.keyGen := rfl
@[simp] theorem State.updCtx_cel (s : State) (c : Nat) (f : Ctx → Ctx) : (s.updCtx c f).cel = s.cel := rfl
@[simp] theorem State.updCtx_gly (s : State) (c : Nat) (f : Ctx → Ctx) : (s.updCtx c f).gly = s.gly := rfl
@[simp] theorem State.updCtx_home (s : State) (c : Nat) (f : Ctx → Ctx) : (s.updCtx c f).home = s.home := rfl
@[simp] theorem State.updCtx_repro (s : State) (c : Nat) (f : Ctx → Ctx) : (s.updCtx c f).repro = s.repro := rfl
@[simp] theorem State.updCtx_ckpt (s : State) (c : Nat) (f : Ctx → Ctx) : (s.updCtx c f).ckpt = s.ckpt := rfl
@[simp] theorem State.updCtx_map (s : State) (c : Nat) (f : Ctx → Ctx) : (s.updCtx c f).map = s.map := rfl
@[simp] theorem State.updCtx_srch (s : State) (c : Nat) (f : Ctx → Ctx) : (s.updCtx c f).srch = s.srch := rfl
@[simp] theorem State.updCtx_emb (s : State) (c : Nat) (f : Ctx → Ctx) : (s.updCtx c f).emb = s.emb := rfl
@[simp] theorem State.updCtx_evr (s : State) (c : Nat) (f : Ctx → Ctx) : (s.updCtx c f).evr = s.evr := rfl
@[simp] theorem State.updCtx_start (s : State) (c : Nat) (f : Ctx → Ctx) : (s.updCtx c f).start = s.start := rfl
@[simp] theorem State.updCtx_sec (s : State) (c : Nat) (f : Ctx → Ctx) : (s.updCtx c f).sec = s.sec := rfl
@[simp] theorem State.updCtx_swc (s : State) (c : Nat) (f : Ctx → Ctx) : (s.updCtx c f).swc = s.swc := rfl
@[simp] theorem State.updCtx_eth (s : State) (c : Nat) (f : Ctx → Ctx) : (s.updCtx c f).eth = s.eth := rfl
@[simp] theorem State.updCtx_hlt (s : State) (c : Nat) (f : Ctx → Ctx) : (s.updCtx c f).hlt = s.hlt := rfl
@[simp] theorem State.updCtx_pwr (s : State) (c : Nat) (f : Ctx → Ctx) : (s.updCtx c f).pwr = s.pwr := rfl
@[simp] theorem State.updCtx_pins (s : State) (c : Nat) (f : Ctx → Ctx) : (s.updCtx c f).pins = s.pins := rfl
@[simp] theorem State.updCtx_tx (s : State) (c : Nat) (f : Ctx → Ctx) : (s.updCtx c f).tx = s.tx := rfl

/-! #### `updKer` -/

@[simp] theorem State.updKer_pending (s : State) (c : Nat) (f : Kernel → Kernel) : (s.updKer c f).pending = s.pending := rfl
@[simp] theorem State.updKer_count (s : State) (c : Nat) (f : Kernel → Kernel) : (s.updKer c f).count = s.count := rfl
@[simp] theorem State.updKer_nonce (s : State) (c : Nat) (f : Kernel → Kernel) : (s.updKer c f).nonce = s.nonce := rfl
@[simp] theorem State.updKer_part (s : State) (c : Nat) (f : Kernel → Kernel) : (s.updKer c f).part = s.part := rfl
@[simp] theorem State.updKer_ctl (s : State) (c : Nat) (f : Kernel → Kernel) : (s.updKer c f).ctl = s.ctl := rfl
@[simp] theorem State.updKer_larder (s : State) (c : Nat) (f : Kernel → Kernel) : (s.updKer c f).larder = s.larder := rfl
@[simp] theorem State.updKer_shelf (s : State) (c : Nat) (f : Kernel → Kernel) : (s.updKer c f).shelf = s.shelf := rfl
@[simp] theorem State.updKer_lpois (s : State) (c : Nat) (f : Kernel → Kernel) : (s.updKer c f).lpois = s.lpois := rfl
@[simp] theorem State.updKer_spois (s : State) (c : Nat) (f : Kernel → Kernel) : (s.updKer c f).spois = s.spois := rfl
@[simp] theorem State.updKer_flaws (s : State) (c : Nat) (f : Kernel → Kernel) : (s.updKer c f).flaws = s.flaws := rfl
@[simp] theorem State.updKer_lcount (s : State) (c : Nat) (f : Kernel → Kernel) : (s.updKer c f).lcount = s.lcount := rfl
@[simp] theorem State.updKer_pageOwner (s : State) (c : Nat) (f : Kernel → Kernel) : (s.updKer c f).pageOwner = s.pageOwner := rfl
@[simp] theorem State.updKer_units (s : State) (c : Nat) (f : Kernel → Kernel) : (s.updKer c f).units = s.units := rfl
@[simp] theorem State.updKer_groups (s : State) (c : Nat) (f : Kernel → Kernel) : (s.updKer c f).groups = s.groups := rfl
@[simp] theorem State.updKer_rgns (s : State) (c : Nat) (f : Kernel → Kernel) : (s.updKer c f).rgns = s.rgns := rfl
@[simp] theorem State.updKer_wakes (s : State) (c : Nat) (f : Kernel → Kernel) : (s.updKer c f).wakes = s.wakes := rfl
@[simp] theorem State.updKer_taken (s : State) (c : Nat) (f : Kernel → Kernel) : (s.updKer c f).taken = s.taken := rfl
@[simp] theorem State.updKer_rcache (s : State) (c : Nat) (f : Kernel → Kernel) : (s.updKer c f).rcache = s.rcache := rfl
@[simp] theorem State.updKer_flt (s : State) (c : Nat) (f : Kernel → Kernel) : (s.updKer c f).flt = s.flt := rfl
@[simp] theorem State.updKer_qps (s : State) (c : Nat) (f : Kernel → Kernel) : (s.updKer c f).qps = s.qps := rfl
@[simp] theorem State.updKer_keys (s : State) (c : Nat) (f : Kernel → Kernel) : (s.updKer c f).keys = s.keys := rfl
@[simp] theorem State.updKer_keyGen (s : State) (c : Nat) (f : Kernel → Kernel) : (s.updKer c f).keyGen = s.keyGen := rfl
@[simp] theorem State.updKer_cel (s : State) (c : Nat) (f : Kernel → Kernel) : (s.updKer c f).cel = s.cel := rfl
@[simp] theorem State.updKer_gly (s : State) (c : Nat) (f : Kernel → Kernel) : (s.updKer c f).gly = s.gly := rfl
@[simp] theorem State.updKer_home (s : State) (c : Nat) (f : Kernel → Kernel) : (s.updKer c f).home = s.home := rfl
@[simp] theorem State.updKer_repro (s : State) (c : Nat) (f : Kernel → Kernel) : (s.updKer c f).repro = s.repro := rfl
@[simp] theorem State.updKer_ckpt (s : State) (c : Nat) (f : Kernel → Kernel) : (s.updKer c f).ckpt = s.ckpt := rfl
@[simp] theorem State.updKer_map (s : State) (c : Nat) (f : Kernel → Kernel) : (s.updKer c f).map = s.map := rfl
@[simp] theorem State.updKer_srch (s : State) (c : Nat) (f : Kernel → Kernel) : (s.updKer c f).srch = s.srch := rfl
@[simp] theorem State.updKer_emb (s : State) (c : Nat) (f : Kernel → Kernel) : (s.updKer c f).emb = s.emb := rfl
@[simp] theorem State.updKer_evr (s : State) (c : Nat) (f : Kernel → Kernel) : (s.updKer c f).evr = s.evr := rfl
@[simp] theorem State.updKer_start (s : State) (c : Nat) (f : Kernel → Kernel) : (s.updKer c f).start = s.start := rfl
@[simp] theorem State.updKer_sec (s : State) (c : Nat) (f : Kernel → Kernel) : (s.updKer c f).sec = s.sec := rfl
@[simp] theorem State.updKer_swc (s : State) (c : Nat) (f : Kernel → Kernel) : (s.updKer c f).swc = s.swc := rfl
@[simp] theorem State.updKer_eth (s : State) (c : Nat) (f : Kernel → Kernel) : (s.updKer c f).eth = s.eth := rfl
@[simp] theorem State.updKer_hlt (s : State) (c : Nat) (f : Kernel → Kernel) : (s.updKer c f).hlt = s.hlt := rfl
@[simp] theorem State.updKer_pwr (s : State) (c : Nat) (f : Kernel → Kernel) : (s.updKer c f).pwr = s.pwr := rfl
@[simp] theorem State.updKer_pins (s : State) (c : Nat) (f : Kernel → Kernel) : (s.updKer c f).pins = s.pins := rfl
@[simp] theorem State.updKer_tx (s : State) (c : Nat) (f : Kernel → Kernel) : (s.updKer c f).tx = s.tx := rfl

/-! #### `tick` -/

@[simp] theorem State.tick_pending (s : State) : (s.tick).pending = s.pending := rfl
@[simp] theorem State.tick_count (s : State) : (s.tick).count = s.count := rfl
@[simp] theorem State.tick_part (s : State) : (s.tick).part = s.part := rfl
@[simp] theorem State.tick_ctl (s : State) : (s.tick).ctl = s.ctl := rfl
@[simp] theorem State.tick_larder (s : State) : (s.tick).larder = s.larder := rfl
@[simp] theorem State.tick_shelf (s : State) : (s.tick).shelf = s.shelf := rfl
@[simp] theorem State.tick_lpois (s : State) : (s.tick).lpois = s.lpois := rfl
@[simp] theorem State.tick_spois (s : State) : (s.tick).spois = s.spois := rfl
@[simp] theorem State.tick_flaws (s : State) : (s.tick).flaws = s.flaws := rfl
@[simp] theorem State.tick_lcount (s : State) : (s.tick).lcount = s.lcount := rfl
@[simp] theorem State.tick_pageOwner (s : State) : (s.tick).pageOwner = s.pageOwner := rfl
@[simp] theorem State.tick_units (s : State) : (s.tick).units = s.units := rfl
@[simp] theorem State.tick_groups (s : State) : (s.tick).groups = s.groups := rfl
@[simp] theorem State.tick_rgns (s : State) : (s.tick).rgns = s.rgns := rfl
@[simp] theorem State.tick_wakes (s : State) : (s.tick).wakes = s.wakes := rfl
@[simp] theorem State.tick_taken (s : State) : (s.tick).taken = s.taken := rfl
@[simp] theorem State.tick_rcache (s : State) : (s.tick).rcache = s.rcache := rfl
@[simp] theorem State.tick_ctxs (s : State) : (s.tick).ctxs = s.ctxs := rfl
@[simp] theorem State.tick_flt (s : State) : (s.tick).flt = s.flt := rfl
@[simp] theorem State.tick_qps (s : State) : (s.tick).qps = s.qps := rfl
@[simp] theorem State.tick_keys (s : State) : (s.tick).keys = s.keys := rfl
@[simp] theorem State.tick_keyGen (s : State) : (s.tick).keyGen = s.keyGen := rfl
@[simp] theorem State.tick_cel (s : State) : (s.tick).cel = s.cel := rfl
@[simp] theorem State.tick_gly (s : State) : (s.tick).gly = s.gly := rfl
@[simp] theorem State.tick_home (s : State) : (s.tick).home = s.home := rfl
@[simp] theorem State.tick_repro (s : State) : (s.tick).repro = s.repro := rfl
@[simp] theorem State.tick_ckpt (s : State) : (s.tick).ckpt = s.ckpt := rfl
@[simp] theorem State.tick_map (s : State) : (s.tick).map = s.map := rfl
@[simp] theorem State.tick_srch (s : State) : (s.tick).srch = s.srch := rfl
@[simp] theorem State.tick_emb (s : State) : (s.tick).emb = s.emb := rfl
@[simp] theorem State.tick_evr (s : State) : (s.tick).evr = s.evr := rfl
@[simp] theorem State.tick_start (s : State) : (s.tick).start = s.start := rfl
@[simp] theorem State.tick_sec (s : State) : (s.tick).sec = s.sec := rfl
@[simp] theorem State.tick_swc (s : State) : (s.tick).swc = s.swc := rfl
@[simp] theorem State.tick_eth (s : State) : (s.tick).eth = s.eth := rfl
@[simp] theorem State.tick_hlt (s : State) : (s.tick).hlt = s.hlt := rfl
@[simp] theorem State.tick_pwr (s : State) : (s.tick).pwr = s.pwr := rfl
@[simp] theorem State.tick_pins (s : State) : (s.tick).pins = s.pins := rfl
@[simp] theorem State.tick_tx (s : State) : (s.tick).tx = s.tx := rfl

/-! #### `send` -/

@[simp] theorem State.send_pending (s : State) (t : Tx) : (s.send t).pending = s.pending := rfl
@[simp] theorem State.send_count (s : State) (t : Tx) : (s.send t).count = s.count := rfl
@[simp] theorem State.send_nonce (s : State) (t : Tx) : (s.send t).nonce = s.nonce := rfl
@[simp] theorem State.send_part (s : State) (t : Tx) : (s.send t).part = s.part := rfl
@[simp] theorem State.send_ctl (s : State) (t : Tx) : (s.send t).ctl = s.ctl := rfl
@[simp] theorem State.send_larder (s : State) (t : Tx) : (s.send t).larder = s.larder := rfl
@[simp] theorem State.send_shelf (s : State) (t : Tx) : (s.send t).shelf = s.shelf := rfl
@[simp] theorem State.send_lpois (s : State) (t : Tx) : (s.send t).lpois = s.lpois := rfl
@[simp] theorem State.send_spois (s : State) (t : Tx) : (s.send t).spois = s.spois := rfl
@[simp] theorem State.send_flaws (s : State) (t : Tx) : (s.send t).flaws = s.flaws := rfl
@[simp] theorem State.send_lcount (s : State) (t : Tx) : (s.send t).lcount = s.lcount := rfl
@[simp] theorem State.send_pageOwner (s : State) (t : Tx) : (s.send t).pageOwner = s.pageOwner := rfl
@[simp] theorem State.send_units (s : State) (t : Tx) : (s.send t).units = s.units := rfl
@[simp] theorem State.send_groups (s : State) (t : Tx) : (s.send t).groups = s.groups := rfl
@[simp] theorem State.send_rgns (s : State) (t : Tx) : (s.send t).rgns = s.rgns := rfl
@[simp] theorem State.send_wakes (s : State) (t : Tx) : (s.send t).wakes = s.wakes := rfl
@[simp] theorem State.send_taken (s : State) (t : Tx) : (s.send t).taken = s.taken := rfl
@[simp] theorem State.send_rcache (s : State) (t : Tx) : (s.send t).rcache = s.rcache := rfl
@[simp] theorem State.send_ctxs (s : State) (t : Tx) : (s.send t).ctxs = s.ctxs := rfl
@[simp] theorem State.send_flt (s : State) (t : Tx) : (s.send t).flt = s.flt := rfl
@[simp] theorem State.send_qps (s : State) (t : Tx) : (s.send t).qps = s.qps := rfl
@[simp] theorem State.send_keys (s : State) (t : Tx) : (s.send t).keys = s.keys := rfl
@[simp] theorem State.send_keyGen (s : State) (t : Tx) : (s.send t).keyGen = s.keyGen := rfl
@[simp] theorem State.send_cel (s : State) (t : Tx) : (s.send t).cel = s.cel := rfl
@[simp] theorem State.send_gly (s : State) (t : Tx) : (s.send t).gly = s.gly := rfl
@[simp] theorem State.send_home (s : State) (t : Tx) : (s.send t).home = s.home := rfl
@[simp] theorem State.send_repro (s : State) (t : Tx) : (s.send t).repro = s.repro := rfl
@[simp] theorem State.send_ckpt (s : State) (t : Tx) : (s.send t).ckpt = s.ckpt := rfl
@[simp] theorem State.send_map (s : State) (t : Tx) : (s.send t).map = s.map := rfl
@[simp] theorem State.send_srch (s : State) (t : Tx) : (s.send t).srch = s.srch := rfl
@[simp] theorem State.send_emb (s : State) (t : Tx) : (s.send t).emb = s.emb := rfl
@[simp] theorem State.send_evr (s : State) (t : Tx) : (s.send t).evr = s.evr := rfl
@[simp] theorem State.send_start (s : State) (t : Tx) : (s.send t).start = s.start := rfl
@[simp] theorem State.send_sec (s : State) (t : Tx) : (s.send t).sec = s.sec := rfl
@[simp] theorem State.send_swc (s : State) (t : Tx) : (s.send t).swc = s.swc := rfl
@[simp] theorem State.send_eth (s : State) (t : Tx) : (s.send t).eth = s.eth := rfl
@[simp] theorem State.send_hlt (s : State) (t : Tx) : (s.send t).hlt = s.hlt := rfl
@[simp] theorem State.send_pwr (s : State) (t : Tx) : (s.send t).pwr = s.pwr := rfl
@[simp] theorem State.send_pins (s : State) (t : Tx) : (s.send t).pins = s.pins := rfl

/-! #### `wr` -/

@[simp] theorem State.wr_pending (s : State) (r : RegDef) (i j v : Nat) : (s.wr r i j v).pending = s.pending := rfl
@[simp] theorem State.wr_count (s : State) (r : RegDef) (i j v : Nat) : (s.wr r i j v).count = s.count := rfl
@[simp] theorem State.wr_nonce (s : State) (r : RegDef) (i j v : Nat) : (s.wr r i j v).nonce = s.nonce := rfl
@[simp] theorem State.wr_part (s : State) (r : RegDef) (i j v : Nat) : (s.wr r i j v).part = s.part := rfl
@[simp] theorem State.wr_larder (s : State) (r : RegDef) (i j v : Nat) : (s.wr r i j v).larder = s.larder := rfl
@[simp] theorem State.wr_shelf (s : State) (r : RegDef) (i j v : Nat) : (s.wr r i j v).shelf = s.shelf := rfl
@[simp] theorem State.wr_lpois (s : State) (r : RegDef) (i j v : Nat) : (s.wr r i j v).lpois = s.lpois := rfl
@[simp] theorem State.wr_spois (s : State) (r : RegDef) (i j v : Nat) : (s.wr r i j v).spois = s.spois := rfl
@[simp] theorem State.wr_flaws (s : State) (r : RegDef) (i j v : Nat) : (s.wr r i j v).flaws = s.flaws := rfl
@[simp] theorem State.wr_lcount (s : State) (r : RegDef) (i j v : Nat) : (s.wr r i j v).lcount = s.lcount := rfl
@[simp] theorem State.wr_pageOwner (s : State) (r : RegDef) (i j v : Nat) : (s.wr r i j v).pageOwner = s.pageOwner := rfl
@[simp] theorem State.wr_units (s : State) (r : RegDef) (i j v : Nat) : (s.wr r i j v).units = s.units := rfl
@[simp] theorem State.wr_groups (s : State) (r : RegDef) (i j v : Nat) : (s.wr r i j v).groups = s.groups := rfl
@[simp] theorem State.wr_rgns (s : State) (r : RegDef) (i j v : Nat) : (s.wr r i j v).rgns = s.rgns := rfl
@[simp] theorem State.wr_wakes (s : State) (r : RegDef) (i j v : Nat) : (s.wr r i j v).wakes = s.wakes := rfl
@[simp] theorem State.wr_taken (s : State) (r : RegDef) (i j v : Nat) : (s.wr r i j v).taken = s.taken := rfl
@[simp] theorem State.wr_rcache (s : State) (r : RegDef) (i j v : Nat) : (s.wr r i j v).rcache = s.rcache := rfl
@[simp] theorem State.wr_ctxs (s : State) (r : RegDef) (i j v : Nat) : (s.wr r i j v).ctxs = s.ctxs := rfl
@[simp] theorem State.wr_flt (s : State) (r : RegDef) (i j v : Nat) : (s.wr r i j v).flt = s.flt := rfl
@[simp] theorem State.wr_qps (s : State) (r : RegDef) (i j v : Nat) : (s.wr r i j v).qps = s.qps := rfl
@[simp] theorem State.wr_keys (s : State) (r : RegDef) (i j v : Nat) : (s.wr r i j v).keys = s.keys := rfl
@[simp] theorem State.wr_keyGen (s : State) (r : RegDef) (i j v : Nat) : (s.wr r i j v).keyGen = s.keyGen := rfl
@[simp] theorem State.wr_cel (s : State) (r : RegDef) (i j v : Nat) : (s.wr r i j v).cel = s.cel := rfl
@[simp] theorem State.wr_gly (s : State) (r : RegDef) (i j v : Nat) : (s.wr r i j v).gly = s.gly := rfl
@[simp] theorem State.wr_home (s : State) (r : RegDef) (i j v : Nat) : (s.wr r i j v).home = s.home := rfl
@[simp] theorem State.wr_repro (s : State) (r : RegDef) (i j v : Nat) : (s.wr r i j v).repro = s.repro := rfl
@[simp] theorem State.wr_ckpt (s : State) (r : RegDef) (i j v : Nat) : (s.wr r i j v).ckpt = s.ckpt := rfl
@[simp] theorem State.wr_map (s : State) (r : RegDef) (i j v : Nat) : (s.wr r i j v).map = s.map := rfl
@[simp] theorem State.wr_srch (s : State) (r : RegDef) (i j v : Nat) : (s.wr r i j v).srch = s.srch := rfl
@[simp] theorem State.wr_emb (s : State) (r : RegDef) (i j v : Nat) : (s.wr r i j v).emb = s.emb := rfl
@[simp] theorem State.wr_evr (s : State) (r : RegDef) (i j v : Nat) : (s.wr r i j v).evr = s.evr := rfl
@[simp] theorem State.wr_start (s : State) (r : RegDef) (i j v : Nat) : (s.wr r i j v).start = s.start := rfl
@[simp] theorem State.wr_sec (s : State) (r : RegDef) (i j v : Nat) : (s.wr r i j v).sec = s.sec := rfl
@[simp] theorem State.wr_swc (s : State) (r : RegDef) (i j v : Nat) : (s.wr r i j v).swc = s.swc := rfl
@[simp] theorem State.wr_eth (s : State) (r : RegDef) (i j v : Nat) : (s.wr r i j v).eth = s.eth := rfl
@[simp] theorem State.wr_hlt (s : State) (r : RegDef) (i j v : Nat) : (s.wr r i j v).hlt = s.hlt := rfl
@[simp] theorem State.wr_pwr (s : State) (r : RegDef) (i j v : Nat) : (s.wr r i j v).pwr = s.pwr := rfl
@[simp] theorem State.wr_pins (s : State) (r : RegDef) (i j v : Nat) : (s.wr r i j v).pins = s.pins := rfl
@[simp] theorem State.wr_tx (s : State) (r : RegDef) (i j v : Nat) : (s.wr r i j v).tx = s.tx := rfl

/-! #### `setFld` -/

@[simp] theorem State.setFld_pending (s : State) (r : RegDef) (hi lo v i j : Nat) : (s.setFld r hi lo v i j).pending = s.pending := rfl
@[simp] theorem State.setFld_count (s : State) (r : RegDef) (hi lo v i j : Nat) : (s.setFld r hi lo v i j).count = s.count := rfl
@[simp] theorem State.setFld_nonce (s : State) (r : RegDef) (hi lo v i j : Nat) : (s.setFld r hi lo v i j).nonce = s.nonce := rfl
@[simp] theorem State.setFld_part (s : State) (r : RegDef) (hi lo v i j : Nat) : (s.setFld r hi lo v i j).part = s.part := rfl
@[simp] theorem State.setFld_larder (s : State) (r : RegDef) (hi lo v i j : Nat) : (s.setFld r hi lo v i j).larder = s.larder := rfl
@[simp] theorem State.setFld_shelf (s : State) (r : RegDef) (hi lo v i j : Nat) : (s.setFld r hi lo v i j).shelf = s.shelf := rfl
@[simp] theorem State.setFld_lpois (s : State) (r : RegDef) (hi lo v i j : Nat) : (s.setFld r hi lo v i j).lpois = s.lpois := rfl
@[simp] theorem State.setFld_spois (s : State) (r : RegDef) (hi lo v i j : Nat) : (s.setFld r hi lo v i j).spois = s.spois := rfl
@[simp] theorem State.setFld_flaws (s : State) (r : RegDef) (hi lo v i j : Nat) : (s.setFld r hi lo v i j).flaws = s.flaws := rfl
@[simp] theorem State.setFld_lcount (s : State) (r : RegDef) (hi lo v i j : Nat) : (s.setFld r hi lo v i j).lcount = s.lcount := rfl
@[simp] theorem State.setFld_pageOwner (s : State) (r : RegDef) (hi lo v i j : Nat) : (s.setFld r hi lo v i j).pageOwner = s.pageOwner := rfl
@[simp] theorem State.setFld_units (s : State) (r : RegDef) (hi lo v i j : Nat) : (s.setFld r hi lo v i j).units = s.units := rfl
@[simp] theorem State.setFld_groups (s : State) (r : RegDef) (hi lo v i j : Nat) : (s.setFld r hi lo v i j).groups = s.groups := rfl
@[simp] theorem State.setFld_rgns (s : State) (r : RegDef) (hi lo v i j : Nat) : (s.setFld r hi lo v i j).rgns = s.rgns := rfl
@[simp] theorem State.setFld_wakes (s : State) (r : RegDef) (hi lo v i j : Nat) : (s.setFld r hi lo v i j).wakes = s.wakes := rfl
@[simp] theorem State.setFld_taken (s : State) (r : RegDef) (hi lo v i j : Nat) : (s.setFld r hi lo v i j).taken = s.taken := rfl
@[simp] theorem State.setFld_rcache (s : State) (r : RegDef) (hi lo v i j : Nat) : (s.setFld r hi lo v i j).rcache = s.rcache := rfl
@[simp] theorem State.setFld_ctxs (s : State) (r : RegDef) (hi lo v i j : Nat) : (s.setFld r hi lo v i j).ctxs = s.ctxs := rfl
@[simp] theorem State.setFld_flt (s : State) (r : RegDef) (hi lo v i j : Nat) : (s.setFld r hi lo v i j).flt = s.flt := rfl
@[simp] theorem State.setFld_qps (s : State) (r : RegDef) (hi lo v i j : Nat) : (s.setFld r hi lo v i j).qps = s.qps := rfl
@[simp] theorem State.setFld_keys (s : State) (r : RegDef) (hi lo v i j : Nat) : (s.setFld r hi lo v i j).keys = s.keys := rfl
@[simp] theorem State.setFld_keyGen (s : State) (r : RegDef) (hi lo v i j : Nat) : (s.setFld r hi lo v i j).keyGen = s.keyGen := rfl
@[simp] theorem State.setFld_cel (s : State) (r : RegDef) (hi lo v i j : Nat) : (s.setFld r hi lo v i j).cel = s.cel := rfl
@[simp] theorem State.setFld_gly (s : State) (r : RegDef) (hi lo v i j : Nat) : (s.setFld r hi lo v i j).gly = s.gly := rfl
@[simp] theorem State.setFld_home (s : State) (r : RegDef) (hi lo v i j : Nat) : (s.setFld r hi lo v i j).home = s.home := rfl
@[simp] theorem State.setFld_repro (s : State) (r : RegDef) (hi lo v i j : Nat) : (s.setFld r hi lo v i j).repro = s.repro := rfl
@[simp] theorem State.setFld_ckpt (s : State) (r : RegDef) (hi lo v i j : Nat) : (s.setFld r hi lo v i j).ckpt = s.ckpt := rfl
@[simp] theorem State.setFld_map (s : State) (r : RegDef) (hi lo v i j : Nat) : (s.setFld r hi lo v i j).map = s.map := rfl
@[simp] theorem State.setFld_srch (s : State) (r : RegDef) (hi lo v i j : Nat) : (s.setFld r hi lo v i j).srch = s.srch := rfl
@[simp] theorem State.setFld_emb (s : State) (r : RegDef) (hi lo v i j : Nat) : (s.setFld r hi lo v i j).emb = s.emb := rfl
@[simp] theorem State.setFld_evr (s : State) (r : RegDef) (hi lo v i j : Nat) : (s.setFld r hi lo v i j).evr = s.evr := rfl
@[simp] theorem State.setFld_start (s : State) (r : RegDef) (hi lo v i j : Nat) : (s.setFld r hi lo v i j).start = s.start := rfl
@[simp] theorem State.setFld_sec (s : State) (r : RegDef) (hi lo v i j : Nat) : (s.setFld r hi lo v i j).sec = s.sec := rfl
@[simp] theorem State.setFld_swc (s : State) (r : RegDef) (hi lo v i j : Nat) : (s.setFld r hi lo v i j).swc = s.swc := rfl
@[simp] theorem State.setFld_eth (s : State) (r : RegDef) (hi lo v i j : Nat) : (s.setFld r hi lo v i j).eth = s.eth := rfl
@[simp] theorem State.setFld_hlt (s : State) (r : RegDef) (hi lo v i j : Nat) : (s.setFld r hi lo v i j).hlt = s.hlt := rfl
@[simp] theorem State.setFld_pwr (s : State) (r : RegDef) (hi lo v i j : Nat) : (s.setFld r hi lo v i j).pwr = s.pwr := rfl
@[simp] theorem State.setFld_pins (s : State) (r : RegDef) (hi lo v i j : Nat) : (s.setFld r hi lo v i j).pins = s.pins := rfl
@[simp] theorem State.setFld_tx (s : State) (r : RegDef) (hi lo v i j : Nat) : (s.setFld r hi lo v i j).tx = s.tx := rfl

/-! #### `wrRw` -/

@[simp] theorem State.wrRw_pending (s : State) (r : RegDef) (i j v : Nat) : (s.wrRw r i j v).pending = s.pending := rfl
@[simp] theorem State.wrRw_count (s : State) (r : RegDef) (i j v : Nat) : (s.wrRw r i j v).count = s.count := rfl
@[simp] theorem State.wrRw_nonce (s : State) (r : RegDef) (i j v : Nat) : (s.wrRw r i j v).nonce = s.nonce := rfl
@[simp] theorem State.wrRw_part (s : State) (r : RegDef) (i j v : Nat) : (s.wrRw r i j v).part = s.part := rfl
@[simp] theorem State.wrRw_larder (s : State) (r : RegDef) (i j v : Nat) : (s.wrRw r i j v).larder = s.larder := rfl
@[simp] theorem State.wrRw_shelf (s : State) (r : RegDef) (i j v : Nat) : (s.wrRw r i j v).shelf = s.shelf := rfl
@[simp] theorem State.wrRw_lpois (s : State) (r : RegDef) (i j v : Nat) : (s.wrRw r i j v).lpois = s.lpois := rfl
@[simp] theorem State.wrRw_spois (s : State) (r : RegDef) (i j v : Nat) : (s.wrRw r i j v).spois = s.spois := rfl
@[simp] theorem State.wrRw_flaws (s : State) (r : RegDef) (i j v : Nat) : (s.wrRw r i j v).flaws = s.flaws := rfl
@[simp] theorem State.wrRw_lcount (s : State) (r : RegDef) (i j v : Nat) : (s.wrRw r i j v).lcount = s.lcount := rfl
@[simp] theorem State.wrRw_pageOwner (s : State) (r : RegDef) (i j v : Nat) : (s.wrRw r i j v).pageOwner = s.pageOwner := rfl
@[simp] theorem State.wrRw_units (s : State) (r : RegDef) (i j v : Nat) : (s.wrRw r i j v).units = s.units := rfl
@[simp] theorem State.wrRw_groups (s : State) (r : RegDef) (i j v : Nat) : (s.wrRw r i j v).groups = s.groups := rfl
@[simp] theorem State.wrRw_rgns (s : State) (r : RegDef) (i j v : Nat) : (s.wrRw r i j v).rgns = s.rgns := rfl
@[simp] theorem State.wrRw_wakes (s : State) (r : RegDef) (i j v : Nat) : (s.wrRw r i j v).wakes = s.wakes := rfl
@[simp] theorem State.wrRw_taken (s : State) (r : RegDef) (i j v : Nat) : (s.wrRw r i j v).taken = s.taken := rfl
@[simp] theorem State.wrRw_rcache (s : State) (r : RegDef) (i j v : Nat) : (s.wrRw r i j v).rcache = s.rcache := rfl
@[simp] theorem State.wrRw_ctxs (s : State) (r : RegDef) (i j v : Nat) : (s.wrRw r i j v).ctxs = s.ctxs := rfl
@[simp] theorem State.wrRw_flt (s : State) (r : RegDef) (i j v : Nat) : (s.wrRw r i j v).flt = s.flt := rfl
@[simp] theorem State.wrRw_qps (s : State) (r : RegDef) (i j v : Nat) : (s.wrRw r i j v).qps = s.qps := rfl
@[simp] theorem State.wrRw_keys (s : State) (r : RegDef) (i j v : Nat) : (s.wrRw r i j v).keys = s.keys := rfl
@[simp] theorem State.wrRw_keyGen (s : State) (r : RegDef) (i j v : Nat) : (s.wrRw r i j v).keyGen = s.keyGen := rfl
@[simp] theorem State.wrRw_cel (s : State) (r : RegDef) (i j v : Nat) : (s.wrRw r i j v).cel = s.cel := rfl
@[simp] theorem State.wrRw_gly (s : State) (r : RegDef) (i j v : Nat) : (s.wrRw r i j v).gly = s.gly := rfl
@[simp] theorem State.wrRw_home (s : State) (r : RegDef) (i j v : Nat) : (s.wrRw r i j v).home = s.home := rfl
@[simp] theorem State.wrRw_repro (s : State) (r : RegDef) (i j v : Nat) : (s.wrRw r i j v).repro = s.repro := rfl
@[simp] theorem State.wrRw_ckpt (s : State) (r : RegDef) (i j v : Nat) : (s.wrRw r i j v).ckpt = s.ckpt := rfl
@[simp] theorem State.wrRw_map (s : State) (r : RegDef) (i j v : Nat) : (s.wrRw r i j v).map = s.map := rfl
@[simp] theorem State.wrRw_srch (s : State) (r : RegDef) (i j v : Nat) : (s.wrRw r i j v).srch = s.srch := rfl
@[simp] theorem State.wrRw_emb (s : State) (r : RegDef) (i j v : Nat) : (s.wrRw r i j v).emb = s.emb := rfl
@[simp] theorem State.wrRw_evr (s : State) (r : RegDef) (i j v : Nat) : (s.wrRw r i j v).evr = s.evr := rfl
@[simp] theorem State.wrRw_start (s : State) (r : RegDef) (i j v : Nat) : (s.wrRw r i j v).start = s.start := rfl
@[simp] theorem State.wrRw_sec (s : State) (r : RegDef) (i j v : Nat) : (s.wrRw r i j v).sec = s.sec := rfl
@[simp] theorem State.wrRw_swc (s : State) (r : RegDef) (i j v : Nat) : (s.wrRw r i j v).swc = s.swc := rfl
@[simp] theorem State.wrRw_eth (s : State) (r : RegDef) (i j v : Nat) : (s.wrRw r i j v).eth = s.eth := rfl
@[simp] theorem State.wrRw_hlt (s : State) (r : RegDef) (i j v : Nat) : (s.wrRw r i j v).hlt = s.hlt := rfl
@[simp] theorem State.wrRw_pwr (s : State) (r : RegDef) (i j v : Nat) : (s.wrRw r i j v).pwr = s.pwr := rfl
@[simp] theorem State.wrRw_pins (s : State) (r : RegDef) (i j v : Nat) : (s.wrRw r i j v).pins = s.pins := rfl
@[simp] theorem State.wrRw_tx (s : State) (r : RegDef) (i j v : Nat) : (s.wrRw r i j v).tx = s.tx := rfl

/-! #### `inc` -/

@[simp] theorem State.inc_pending (s : State) (r : RegDef) (hi lo i j n : Nat) : (s.inc r hi lo i j n).pending = s.pending := rfl
@[simp] theorem State.inc_count (s : State) (r : RegDef) (hi lo i j n : Nat) : (s.inc r hi lo i j n).count = s.count := rfl
@[simp] theorem State.inc_nonce (s : State) (r : RegDef) (hi lo i j n : Nat) : (s.inc r hi lo i j n).nonce = s.nonce := rfl
@[simp] theorem State.inc_part (s : State) (r : RegDef) (hi lo i j n : Nat) : (s.inc r hi lo i j n).part = s.part := rfl
@[simp] theorem State.inc_larder (s : State) (r : RegDef) (hi lo i j n : Nat) : (s.inc r hi lo i j n).larder = s.larder := rfl
@[simp] theorem State.inc_shelf (s : State) (r : RegDef) (hi lo i j n : Nat) : (s.inc r hi lo i j n).shelf = s.shelf := rfl
@[simp] theorem State.inc_lpois (s : State) (r : RegDef) (hi lo i j n : Nat) : (s.inc r hi lo i j n).lpois = s.lpois := rfl
@[simp] theorem State.inc_spois (s : State) (r : RegDef) (hi lo i j n : Nat) : (s.inc r hi lo i j n).spois = s.spois := rfl
@[simp] theorem State.inc_flaws (s : State) (r : RegDef) (hi lo i j n : Nat) : (s.inc r hi lo i j n).flaws = s.flaws := rfl
@[simp] theorem State.inc_lcount (s : State) (r : RegDef) (hi lo i j n : Nat) : (s.inc r hi lo i j n).lcount = s.lcount := rfl
@[simp] theorem State.inc_pageOwner (s : State) (r : RegDef) (hi lo i j n : Nat) : (s.inc r hi lo i j n).pageOwner = s.pageOwner := rfl
@[simp] theorem State.inc_units (s : State) (r : RegDef) (hi lo i j n : Nat) : (s.inc r hi lo i j n).units = s.units := rfl
@[simp] theorem State.inc_groups (s : State) (r : RegDef) (hi lo i j n : Nat) : (s.inc r hi lo i j n).groups = s.groups := rfl
@[simp] theorem State.inc_rgns (s : State) (r : RegDef) (hi lo i j n : Nat) : (s.inc r hi lo i j n).rgns = s.rgns := rfl
@[simp] theorem State.inc_wakes (s : State) (r : RegDef) (hi lo i j n : Nat) : (s.inc r hi lo i j n).wakes = s.wakes := rfl
@[simp] theorem State.inc_taken (s : State) (r : RegDef) (hi lo i j n : Nat) : (s.inc r hi lo i j n).taken = s.taken := rfl
@[simp] theorem State.inc_rcache (s : State) (r : RegDef) (hi lo i j n : Nat) : (s.inc r hi lo i j n).rcache = s.rcache := rfl
@[simp] theorem State.inc_ctxs (s : State) (r : RegDef) (hi lo i j n : Nat) : (s.inc r hi lo i j n).ctxs = s.ctxs := rfl
@[simp] theorem State.inc_flt (s : State) (r : RegDef) (hi lo i j n : Nat) : (s.inc r hi lo i j n).flt = s.flt := rfl
@[simp] theorem State.inc_qps (s : State) (r : RegDef) (hi lo i j n : Nat) : (s.inc r hi lo i j n).qps = s.qps := rfl
@[simp] theorem State.inc_keys (s : State) (r : RegDef) (hi lo i j n : Nat) : (s.inc r hi lo i j n).keys = s.keys := rfl
@[simp] theorem State.inc_keyGen (s : State) (r : RegDef) (hi lo i j n : Nat) : (s.inc r hi lo i j n).keyGen = s.keyGen := rfl
@[simp] theorem State.inc_cel (s : State) (r : RegDef) (hi lo i j n : Nat) : (s.inc r hi lo i j n).cel = s.cel := rfl
@[simp] theorem State.inc_gly (s : State) (r : RegDef) (hi lo i j n : Nat) : (s.inc r hi lo i j n).gly = s.gly := rfl
@[simp] theorem State.inc_home (s : State) (r : RegDef) (hi lo i j n : Nat) : (s.inc r hi lo i j n).home = s.home := rfl
@[simp] theorem State.inc_repro (s : State) (r : RegDef) (hi lo i j n : Nat) : (s.inc r hi lo i j n).repro = s.repro := rfl
@[simp] theorem State.inc_ckpt (s : State) (r : RegDef) (hi lo i j n : Nat) : (s.inc r hi lo i j n).ckpt = s.ckpt := rfl
@[simp] theorem State.inc_map (s : State) (r : RegDef) (hi lo i j n : Nat) : (s.inc r hi lo i j n).map = s.map := rfl
@[simp] theorem State.inc_srch (s : State) (r : RegDef) (hi lo i j n : Nat) : (s.inc r hi lo i j n).srch = s.srch := rfl
@[simp] theorem State.inc_emb (s : State) (r : RegDef) (hi lo i j n : Nat) : (s.inc r hi lo i j n).emb = s.emb := rfl
@[simp] theorem State.inc_evr (s : State) (r : RegDef) (hi lo i j n : Nat) : (s.inc r hi lo i j n).evr = s.evr := rfl
@[simp] theorem State.inc_start (s : State) (r : RegDef) (hi lo i j n : Nat) : (s.inc r hi lo i j n).start = s.start := rfl
@[simp] theorem State.inc_sec (s : State) (r : RegDef) (hi lo i j n : Nat) : (s.inc r hi lo i j n).sec = s.sec := rfl
@[simp] theorem State.inc_swc (s : State) (r : RegDef) (hi lo i j n : Nat) : (s.inc r hi lo i j n).swc = s.swc := rfl
@[simp] theorem State.inc_eth (s : State) (r : RegDef) (hi lo i j n : Nat) : (s.inc r hi lo i j n).eth = s.eth := rfl
@[simp] theorem State.inc_hlt (s : State) (r : RegDef) (hi lo i j n : Nat) : (s.inc r hi lo i j n).hlt = s.hlt := rfl
@[simp] theorem State.inc_pwr (s : State) (r : RegDef) (hi lo i j n : Nat) : (s.inc r hi lo i j n).pwr = s.pwr := rfl
@[simp] theorem State.inc_pins (s : State) (r : RegDef) (hi lo i j n : Nat) : (s.inc r hi lo i j n).pins = s.pins := rfl
@[simp] theorem State.inc_tx (s : State) (r : RegDef) (hi lo i j n : Nat) : (s.inc r hi lo i j n).tx = s.tx := rfl
/-! ### What the accessors read after an update -/

@[simp] theorem State.unt_setUnt_same (s : State) (u : Nat) (x : Unt) : (s.setUnt u x).unt u = x := by
  simp [State.unt, State.setUnt]
theorem State.unt_setUnt_other (s : State) {u v : Nat} (x : Unt) (h : v ≠ u) : (s.setUnt u x).unt v = s.unt v := by
  simp [State.unt, State.setUnt, Assoc.getD_put, h]
@[simp] theorem State.unt_updUnt_same (s : State) (u : Nat) (f : Unt → Unt) : (s.updUnt u f).unt u = f (s.unt u) := by
  simp [State.updUnt]
theorem State.unt_updUnt_other (s : State) {u v : Nat} (f : Unt → Unt) (h : v ≠ u) : (s.updUnt u f).unt v = s.unt v :=
  State.unt_setUnt_other s _ h
@[simp] theorem State.rgn_updRgn_same (s : State) (r : Nat) (f : Rgn → Rgn) : (s.updRgn r f).rgn r = f (s.rgn r) := by
  simp [State.rgn, State.updRgn]
theorem State.rgn_updRgn_other (s : State) {r q : Nat} (f : Rgn → Rgn) (h : q ≠ r) : (s.updRgn r f).rgn q = s.rgn q := by
  simp [State.rgn, State.updRgn, Assoc.getD_put, h]
@[simp] theorem State.ctx_updCtx_same (s : State) (c : Nat) (f : Ctx → Ctx) : (s.updCtx c f).ctx c = f (s.ctx c) := by
  simp [State.ctx, State.updCtx]
theorem State.ctx_updCtx_other (s : State) {c d : Nat} (f : Ctx → Ctx) (h : d ≠ c) : (s.updCtx c f).ctx d = s.ctx d := by
  simp [State.ctx, State.updCtx, Assoc.getD_put, h]

/-- The slots of a unit after one is stored. -/
theorem Unt.thr_setThr (x : Unt) (t v : Nat) (y : Thread) :
    (x.setThr t y).thr v = if v = t ∧ t < 8 then y else x.thr v := by
  simp only [Unt.thr, Unt.setThr, List.getD_eq_getElem?_getD, Vector.toList_setIfInBounds]
  rw [List.getElem?_set]
  by_cases h : t = v
  · subst h
    by_cases ht : t < 8
    · simp [ht]
    · have hn : x.th.toList[t]? = none := List.getElem?_eq_none (by simp; omega)
      simp [ht]
  · simp [h, Ne.symm h]
@[simp] theorem Unt.thr_setThr_same (x : Unt) (t : Nat) (y : Thread) (h : t < 8) : (x.setThr t y).thr t = y := by
  simp [Unt.thr_setThr, h]
theorem State.thr_setThr_same (s : State) (u t : Nat) (y : Thread) (h : t < 8) : (s.setThr u t y).thr u t = y := by
  simp [State.thr, State.setThr, h]
theorem State.thr_setThr_other (s : State) {u v t k : Nat} (y : Thread) (h : v ≠ u ∨ k ≠ t) :
    (s.setThr u t y).thr v k = s.thr v k := by
  by_cases hv : v = u
  · subst hv
    have hk : k ≠ t := by simpa using h
    simp [State.thr, State.setThr, Unt.thr_setThr, hk]
  · simp [State.thr, State.setThr, State.unt_updUnt_other s _ hv]

/-! ### Control registers -/

@[simp] theorem State.rd_wr_same (s : State) (r : RegDef) (i j v : Nat) : (s.wr r i j v).rd r i j = v % 2 ^ r.width := by
  simp [State.rd, State.wr]
theorem State.rd_wr_other (s : State) {r q : RegDef} {i j k l v : Nat} (h : q.at k l ≠ r.at i j) :
    (s.wr r i j v).rd q k l = s.rd q k l := by
  simp [State.rd, State.wr, Assoc.getD_put, h]
theorem State.rd_setFld_other (s : State) {r q : RegDef} {hi lo v i j k l : Nat} (h : q.at k l ≠ r.at i j) :
    (s.setFld r hi lo v i j).rd q k l = s.rd q k l := State.rd_wr_other s h
theorem State.rd_inc_other (s : State) {r q : RegDef} {hi lo i j n k l : Nat} (h : q.at k l ≠ r.at i j) :
    (s.inc r hi lo i j n).rd q k l = s.rd q k l := State.rd_wr_other s h

/-! ### Passing time -/

@[simp] theorem State.untilDue_pending (s : State) (t : Nat) : (s.untilDue t).pending = s.pending := rfl
@[simp] theorem State.untilDue_nonce (s : State) (t : Nat) : (s.untilDue t).nonce = s.nonce := rfl
@[simp] theorem State.untilDue_part (s : State) (t : Nat) : (s.untilDue t).part = s.part := rfl
@[simp] theorem State.untilDue_ctl (s : State) (t : Nat) : (s.untilDue t).ctl = s.ctl := rfl
@[simp] theorem State.untilDue_larder (s : State) (t : Nat) : (s.untilDue t).larder = s.larder := rfl
@[simp] theorem State.untilDue_shelf (s : State) (t : Nat) : (s.untilDue t).shelf = s.shelf := rfl
@[simp] theorem State.untilDue_lpois (s : State) (t : Nat) : (s.untilDue t).lpois = s.lpois := rfl
@[simp] theorem State.untilDue_spois (s : State) (t : Nat) : (s.untilDue t).spois = s.spois := rfl
@[simp] theorem State.untilDue_flaws (s : State) (t : Nat) : (s.untilDue t).flaws = s.flaws := rfl
@[simp] theorem State.untilDue_lcount (s : State) (t : Nat) : (s.untilDue t).lcount = s.lcount := rfl
@[simp] theorem State.untilDue_pageOwner (s : State) (t : Nat) : (s.untilDue t).pageOwner = s.pageOwner := rfl
@[simp] theorem State.untilDue_units (s : State) (t : Nat) : (s.untilDue t).units = s.units := rfl
@[simp] theorem State.untilDue_groups (s : State) (t : Nat) : (s.untilDue t).groups = s.groups := rfl
@[simp] theorem State.untilDue_rgns (s : State) (t : Nat) : (s.untilDue t).rgns = s.rgns := rfl
@[simp] theorem State.untilDue_wakes (s : State) (t : Nat) : (s.untilDue t).wakes = s.wakes := rfl
@[simp] theorem State.untilDue_taken (s : State) (t : Nat) : (s.untilDue t).taken = s.taken := rfl
@[simp] theorem State.untilDue_rcache (s : State) (t : Nat) : (s.untilDue t).rcache = s.rcache := rfl
@[simp] theorem State.untilDue_ctxs (s : State) (t : Nat) : (s.untilDue t).ctxs = s.ctxs := rfl
@[simp] theorem State.untilDue_flt (s : State) (t : Nat) : (s.untilDue t).flt = s.flt := rfl
@[simp] theorem State.untilDue_qps (s : State) (t : Nat) : (s.untilDue t).qps = s.qps := rfl
@[simp] theorem State.untilDue_keys (s : State) (t : Nat) : (s.untilDue t).keys = s.keys := rfl
@[simp] theorem State.untilDue_keyGen (s : State) (t : Nat) : (s.untilDue t).keyGen = s.keyGen := rfl
@[simp] theorem State.untilDue_cel (s : State) (t : Nat) : (s.untilDue t).cel = s.cel := rfl
@[simp] theorem State.untilDue_gly (s : State) (t : Nat) : (s.untilDue t).gly = s.gly := rfl
@[simp] theorem State.untilDue_home (s : State) (t : Nat) : (s.untilDue t).home = s.home := rfl
@[simp] theorem State.untilDue_repro (s : State) (t : Nat) : (s.untilDue t).repro = s.repro := rfl
@[simp] theorem State.untilDue_ckpt (s : State) (t : Nat) : (s.untilDue t).ckpt = s.ckpt := rfl
@[simp] theorem State.untilDue_srch (s : State) (t : Nat) : (s.untilDue t).srch = s.srch := rfl
@[simp] theorem State.untilDue_emb (s : State) (t : Nat) : (s.untilDue t).emb = s.emb := rfl
@[simp] theorem State.untilDue_evr (s : State) (t : Nat) : (s.untilDue t).evr = s.evr := rfl
@[simp] theorem State.untilDue_start (s : State) (t : Nat) : (s.untilDue t).start = s.start := rfl
@[simp] theorem State.untilDue_sec (s : State) (t : Nat) : (s.untilDue t).sec = s.sec := rfl
@[simp] theorem State.untilDue_swc (s : State) (t : Nat) : (s.untilDue t).swc = s.swc := rfl
@[simp] theorem State.untilDue_eth (s : State) (t : Nat) : (s.untilDue t).eth = s.eth := rfl
@[simp] theorem State.untilDue_hlt (s : State) (t : Nat) : (s.untilDue t).hlt = s.hlt := rfl
@[simp] theorem State.untilDue_pwr (s : State) (t : Nat) : (s.untilDue t).pwr = s.pwr := rfl
@[simp] theorem State.untilDue_pins (s : State) (t : Nat) : (s.untilDue t).pins = s.pins := rfl
@[simp] theorem State.untilDue_tx (s : State) (t : Nat) : (s.untilDue t).tx = s.tx := rfl
/-- Waiting until a count moves the local count to it, and never back but by its wrap at 64 bits (R7). -/
@[simp] theorem State.untilDue_count (s : State) (t : Nat) : (s.untilDue t).count = s.dueAt t := by
  simp only [State.untilDue, State.pass, State.dueAt]; congr 1; omega

end Sys2Proof.Machine
end

