-- ==== Sys2Proof/Laws/Blocks.lean ====
section
/-! SUPPORT. The same for the updates of the blocks of the hub: what each leaves alone, field by field. -/

namespace Sys2Proof.Machine

/-! #### `updAcc` -/

@[simp] theorem State.updAcc_pending (s : State) (u n : Nat) (f : Acc → Acc) : (s.updAcc u n f).pending = s.pending := rfl
@[simp] theorem State.updAcc_count (s : State) (u n : Nat) (f : Acc → Acc) : (s.updAcc u n f).count = s.count := rfl
@[simp] theorem State.updAcc_nonce (s : State) (u n : Nat) (f : Acc → Acc) : (s.updAcc u n f).nonce = s.nonce := rfl
@[simp] theorem State.updAcc_part (s : State) (u n : Nat) (f : Acc → Acc) : (s.updAcc u n f).part = s.part := rfl
@[simp] theorem State.updAcc_ctl (s : State) (u n : Nat) (f : Acc → Acc) : (s.updAcc u n f).ctl = s.ctl := rfl
@[simp] theorem State.updAcc_larder (s : State) (u n : Nat) (f : Acc → Acc) : (s.updAcc u n f).larder = s.larder := rfl
@[simp] theorem State.updAcc_shelf (s : State) (u n : Nat) (f : Acc → Acc) : (s.updAcc u n f).shelf = s.shelf := rfl
@[simp] theorem State.updAcc_lpois (s : State) (u n : Nat) (f : Acc → Acc) : (s.updAcc u n f).lpois = s.lpois := rfl
@[simp] theorem State.updAcc_spois (s : State) (u n : Nat) (f : Acc → Acc) : (s.updAcc u n f).spois = s.spois := rfl
@[simp] theorem State.updAcc_flaws (s : State) (u n : Nat) (f : Acc → Acc) : (s.updAcc u n f).flaws = s.flaws := rfl
@[simp] theorem State.updAcc_lcount (s : State) (u n : Nat) (f : Acc → Acc) : (s.updAcc u n f).lcount = s.lcount := rfl
@[simp] theorem State.updAcc_pageOwner (s : State) (u n : Nat) (f : Acc → Acc) : (s.updAcc u n f).pageOwner = s.pageOwner := rfl
@[simp] theorem State.updAcc_groups (s : State) (u n : Nat) (f : Acc → Acc) : (s.updAcc u n f).groups = s.groups := rfl
@[simp] theorem State.updAcc_rgns (s : State) (u n : Nat) (f : Acc → Acc) : (s.updAcc u n f).rgns = s.rgns := rfl
@[simp] theorem State.updAcc_wakes (s : State) (u n : Nat) (f : Acc → Acc) : (s.updAcc u n f).wakes = s.wakes := rfl
@[simp] theorem State.updAcc_taken (s : State) (u n : Nat) (f : Acc → Acc) : (s.updAcc u n f).taken = s.taken := rfl
@[simp] theorem State.updAcc_rcache (s : State) (u n : Nat) (f : Acc → Acc) : (s.updAcc u n f).rcache = s.rcache := rfl
@[simp] theorem State.updAcc_ctxs (s : State) (u n : Nat) (f : Acc → Acc) : (s.updAcc u n f).ctxs = s.ctxs := rfl
@[simp] theorem State.updAcc_flt (s : State) (u n : Nat) (f : Acc → Acc) : (s.updAcc u n f).flt = s.flt := rfl
@[simp] theorem State.updAcc_qps (s : State) (u n : Nat) (f : Acc → Acc) : (s.updAcc u n f).qps = s.qps := rfl
@[simp] theorem State.updAcc_keys (s : State) (u n : Nat) (f : Acc → Acc) : (s.updAcc u n f).keys = s.keys := rfl
@[simp] theorem State.updAcc_keyGen (s : State) (u n : Nat) (f : Acc → Acc) : (s.updAcc u n f).keyGen = s.keyGen := rfl
@[simp] theorem State.updAcc_cel (s : State) (u n : Nat) (f : Acc → Acc) : (s.updAcc u n f).cel = s.cel := rfl
@[simp] theorem State.updAcc_gly (s : State) (u n : Nat) (f : Acc → Acc) : (s.updAcc u n f).gly = s.gly := rfl
@[simp] theorem State.updAcc_home (s : State) (u n : Nat) (f : Acc → Acc) : (s.updAcc u n f).home = s.home := rfl
@[simp] theorem State.updAcc_repro (s : State) (u n : Nat) (f : Acc → Acc) : (s.updAcc u n f).repro = s.repro := rfl
@[simp] theorem State.updAcc_ckpt (s : State) (u n : Nat) (f : Acc → Acc) : (s.updAcc u n f).ckpt = s.ckpt := rfl
@[simp] theorem State.updAcc_map (s : State) (u n : Nat) (f : Acc → Acc) : (s.updAcc u n f).map = s.map := rfl
@[simp] theorem State.updAcc_srch (s : State) (u n : Nat) (f : Acc → Acc) : (s.updAcc u n f).srch = s.srch := rfl
@[simp] theorem State.updAcc_emb (s : State) (u n : Nat) (f : Acc → Acc) : (s.updAcc u n f).emb = s.emb := rfl
@[simp] theorem State.updAcc_evr (s : State) (u n : Nat) (f : Acc → Acc) : (s.updAcc u n f).evr = s.evr := rfl
@[simp] theorem State.updAcc_start (s : State) (u n : Nat) (f : Acc → Acc) : (s.updAcc u n f).start = s.start := rfl
@[simp] theorem State.updAcc_sec (s : State) (u n : Nat) (f : Acc → Acc) : (s.updAcc u n f).sec = s.sec := rfl
@[simp] theorem State.updAcc_swc (s : State) (u n : Nat) (f : Acc → Acc) : (s.updAcc u n f).swc = s.swc := rfl
@[simp] theorem State.updAcc_eth (s : State) (u n : Nat) (f : Acc → Acc) : (s.updAcc u n f).eth = s.eth := rfl
@[simp] theorem State.updAcc_hlt (s : State) (u n : Nat) (f : Acc → Acc) : (s.updAcc u n f).hlt = s.hlt := rfl
@[simp] theorem State.updAcc_pwr (s : State) (u n : Nat) (f : Acc → Acc) : (s.updAcc u n f).pwr = s.pwr := rfl
@[simp] theorem State.updAcc_pins (s : State) (u n : Nat) (f : Acc → Acc) : (s.updAcc u n f).pins = s.pins := rfl
@[simp] theorem State.updAcc_tx (s : State) (u n : Nat) (f : Acc → Acc) : (s.updAcc u n f).tx = s.tx := rfl

/-! #### `updChan` -/

@[simp] theorem State.updChan_pending (s : State) (c : Nat) (f : CChan → CChan) : (s.updChan c f).pending = s.pending := rfl
@[simp] theorem State.updChan_count (s : State) (c : Nat) (f : CChan → CChan) : (s.updChan c f).count = s.count := rfl
@[simp] theorem State.updChan_nonce (s : State) (c : Nat) (f : CChan → CChan) : (s.updChan c f).nonce = s.nonce := rfl
@[simp] theorem State.updChan_part (s : State) (c : Nat) (f : CChan → CChan) : (s.updChan c f).part = s.part := rfl
@[simp] theorem State.updChan_ctl (s : State) (c : Nat) (f : CChan → CChan) : (s.updChan c f).ctl = s.ctl := rfl
@[simp] theorem State.updChan_larder (s : State) (c : Nat) (f : CChan → CChan) : (s.updChan c f).larder = s.larder := rfl
@[simp] theorem State.updChan_shelf (s : State) (c : Nat) (f : CChan → CChan) : (s.updChan c f).shelf = s.shelf := rfl
@[simp] theorem State.updChan_lpois (s : State) (c : Nat) (f : CChan → CChan) : (s.updChan c f).lpois = s.lpois := rfl
@[simp] theorem State.updChan_spois (s : State) (c : Nat) (f : CChan → CChan) : (s.updChan c f).spois = s.spois := rfl
@[simp] theorem State.updChan_flaws (s : State) (c : Nat) (f : CChan → CChan) : (s.updChan c f).flaws = s.flaws := rfl
@[simp] theorem State.updChan_lcount (s : State) (c : Nat) (f : CChan → CChan) : (s.updChan c f).lcount = s.lcount := rfl
@[simp] theorem State.updChan_pageOwner (s : State) (c : Nat) (f : CChan → CChan) : (s.updChan c f).pageOwner = s.pageOwner := rfl
@[simp] theorem State.updChan_units (s : State) (c : Nat) (f : CChan → CChan) : (s.updChan c f).units = s.units := rfl
@[simp] theorem State.updChan_groups (s : State) (c : Nat) (f : CChan → CChan) : (s.updChan c f).groups = s.groups := rfl
@[simp] theorem State.updChan_rgns (s : State) (c : Nat) (f : CChan → CChan) : (s.updChan c f).rgns = s.rgns := rfl
@[simp] theorem State.updChan_wakes (s : State) (c : Nat) (f : CChan → CChan) : (s.updChan c f).wakes = s.wakes := rfl
@[simp] theorem State.updChan_taken (s : State) (c : Nat) (f : CChan → CChan) : (s.updChan c f).taken = s.taken := rfl
@[simp] theorem State.updChan_rcache (s : State) (c : Nat) (f : CChan → CChan) : (s.updChan c f).rcache = s.rcache := rfl
@[simp] theorem State.updChan_ctxs (s : State) (c : Nat) (f : CChan → CChan) : (s.updChan c f).ctxs = s.ctxs := rfl
@[simp] theorem State.updChan_flt (s : State) (c : Nat) (f : CChan → CChan) : (s.updChan c f).flt = s.flt := rfl
@[simp] theorem State.updChan_qps (s : State) (c : Nat) (f : CChan → CChan) : (s.updChan c f).qps = s.qps := rfl
@[simp] theorem State.updChan_keys (s : State) (c : Nat) (f : CChan → CChan) : (s.updChan c f).keys = s.keys := rfl
@[simp] theorem State.updChan_keyGen (s : State) (c : Nat) (f : CChan → CChan) : (s.updChan c f).keyGen = s.keyGen := rfl
@[simp] theorem State.updChan_gly (s : State) (c : Nat) (f : CChan → CChan) : (s.updChan c f).gly = s.gly := rfl
@[simp] theorem State.updChan_home (s : State) (c : Nat) (f : CChan → CChan) : (s.updChan c f).home = s.home := rfl
@[simp] theorem State.updChan_repro (s : State) (c : Nat) (f : CChan → CChan) : (s.updChan c f).repro = s.repro := rfl
@[simp] theorem State.updChan_ckpt (s : State) (c : Nat) (f : CChan → CChan) : (s.updChan c f).ckpt = s.ckpt := rfl
@[simp] theorem State.updChan_map (s : State) (c : Nat) (f : CChan → CChan) : (s.updChan c f).map = s.map := rfl
@[simp] theorem State.updChan_srch (s : State) (c : Nat) (f : CChan → CChan) : (s.updChan c f).srch = s.srch := rfl
@[simp] theorem State.updChan_emb (s : State) (c : Nat) (f : CChan → CChan) : (s.updChan c f).emb = s.emb := rfl
@[simp] theorem State.updChan_evr (s : State) (c : Nat) (f : CChan → CChan) : (s.updChan c f).evr = s.evr := rfl
@[simp] theorem State.updChan_start (s : State) (c : Nat) (f : CChan → CChan) : (s.updChan c f).start = s.start := rfl
@[simp] theorem State.updChan_sec (s : State) (c : Nat) (f : CChan → CChan) : (s.updChan c f).sec = s.sec := rfl
@[simp] theorem State.updChan_swc (s : State) (c : Nat) (f : CChan → CChan) : (s.updChan c f).swc = s.swc := rfl
@[simp] theorem State.updChan_eth (s : State) (c : Nat) (f : CChan → CChan) : (s.updChan c f).eth = s.eth := rfl
@[simp] theorem State.updChan_hlt (s : State) (c : Nat) (f : CChan → CChan) : (s.updChan c f).hlt = s.hlt := rfl
@[simp] theorem State.updChan_pwr (s : State) (c : Nat) (f : CChan → CChan) : (s.updChan c f).pwr = s.pwr := rfl
@[simp] theorem State.updChan_pins (s : State) (c : Nat) (f : CChan → CChan) : (s.updChan c f).pins = s.pins := rfl
@[simp] theorem State.updChan_tx (s : State) (c : Nat) (f : CChan → CChan) : (s.updChan c f).tx = s.tx := rfl

/-! #### `updVint` -/

@[simp] theorem State.updVint_pending (s : State) (k : Nat) (f : Vint → Vint) : (s.updVint k f).pending = s.pending := rfl
@[simp] theorem State.updVint_count (s : State) (k : Nat) (f : Vint → Vint) : (s.updVint k f).count = s.count := rfl
@[simp] theorem State.updVint_nonce (s : State) (k : Nat) (f : Vint → Vint) : (s.updVint k f).nonce = s.nonce := rfl
@[simp] theorem State.updVint_part (s : State) (k : Nat) (f : Vint → Vint) : (s.updVint k f).part = s.part := rfl
@[simp] theorem State.updVint_ctl (s : State) (k : Nat) (f : Vint → Vint) : (s.updVint k f).ctl = s.ctl := rfl
@[simp] theorem State.updVint_larder (s : State) (k : Nat) (f : Vint → Vint) : (s.updVint k f).larder = s.larder := rfl
@[simp] theorem State.updVint_shelf (s : State) (k : Nat) (f : Vint → Vint) : (s.updVint k f).shelf = s.shelf := rfl
@[simp] theorem State.updVint_lpois (s : State) (k : Nat) (f : Vint → Vint) : (s.updVint k f).lpois = s.lpois := rfl
@[simp] theorem State.updVint_spois (s : State) (k : Nat) (f : Vint → Vint) : (s.updVint k f).spois = s.spois := rfl
@[simp] theorem State.updVint_flaws (s : State) (k : Nat) (f : Vint → Vint) : (s.updVint k f).flaws = s.flaws := rfl
@[simp] theorem State.updVint_lcount (s : State) (k : Nat) (f : Vint → Vint) : (s.updVint k f).lcount = s.lcount := rfl
@[simp] theorem State.updVint_pageOwner (s : State) (k : Nat) (f : Vint → Vint) : (s.updVint k f).pageOwner = s.pageOwner := rfl
@[simp] theorem State.updVint_units (s : State) (k : Nat) (f : Vint → Vint) : (s.updVint k f).units = s.units := rfl
@[simp] theorem State.updVint_groups (s : State) (k : Nat) (f : Vint → Vint) : (s.updVint k f).groups = s.groups := rfl
@[simp] theorem State.updVint_rgns (s : State) (k : Nat) (f : Vint → Vint) : (s.updVint k f).rgns = s.rgns := rfl
@[simp] theorem State.updVint_wakes (s : State) (k : Nat) (f : Vint → Vint) : (s.updVint k f).wakes = s.wakes := rfl
@[simp] theorem State.updVint_taken (s : State) (k : Nat) (f : Vint → Vint) : (s.updVint k f).taken = s.taken := rfl
@[simp] theorem State.updVint_rcache (s : State) (k : Nat) (f : Vint → Vint) : (s.updVint k f).rcache = s.rcache := rfl
@[simp] theorem State.updVint_ctxs (s : State) (k : Nat) (f : Vint → Vint) : (s.updVint k f).ctxs = s.ctxs := rfl
@[simp] theorem State.updVint_flt (s : State) (k : Nat) (f : Vint → Vint) : (s.updVint k f).flt = s.flt := rfl
@[simp] theorem State.updVint_qps (s : State) (k : Nat) (f : Vint → Vint) : (s.updVint k f).qps = s.qps := rfl
@[simp] theorem State.updVint_keys (s : State) (k : Nat) (f : Vint → Vint) : (s.updVint k f).keys = s.keys := rfl
@[simp] theorem State.updVint_keyGen (s : State) (k : Nat) (f : Vint → Vint) : (s.updVint k f).keyGen = s.keyGen := rfl
@[simp] theorem State.updVint_gly (s : State) (k : Nat) (f : Vint → Vint) : (s.updVint k f).gly = s.gly := rfl
@[simp] theorem State.updVint_home (s : State) (k : Nat) (f : Vint → Vint) : (s.updVint k f).home = s.home := rfl
@[simp] theorem State.updVint_repro (s : State) (k : Nat) (f : Vint → Vint) : (s.updVint k f).repro = s.repro := rfl
@[simp] theorem State.updVint_ckpt (s : State) (k : Nat) (f : Vint → Vint) : (s.updVint k f).ckpt = s.ckpt := rfl
@[simp] theorem State.updVint_map (s : State) (k : Nat) (f : Vint → Vint) : (s.updVint k f).map = s.map := rfl
@[simp] theorem State.updVint_srch (s : State) (k : Nat) (f : Vint → Vint) : (s.updVint k f).srch = s.srch := rfl
@[simp] theorem State.updVint_emb (s : State) (k : Nat) (f : Vint → Vint) : (s.updVint k f).emb = s.emb := rfl
@[simp] theorem State.updVint_evr (s : State) (k : Nat) (f : Vint → Vint) : (s.updVint k f).evr = s.evr := rfl
@[simp] theorem State.updVint_start (s : State) (k : Nat) (f : Vint → Vint) : (s.updVint k f).start = s.start := rfl
@[simp] theorem State.updVint_sec (s : State) (k : Nat) (f : Vint → Vint) : (s.updVint k f).sec = s.sec := rfl
@[simp] theorem State.updVint_swc (s : State) (k : Nat) (f : Vint → Vint) : (s.updVint k f).swc = s.swc := rfl
@[simp] theorem State.updVint_eth (s : State) (k : Nat) (f : Vint → Vint) : (s.updVint k f).eth = s.eth := rfl
@[simp] theorem State.updVint_hlt (s : State) (k : Nat) (f : Vint → Vint) : (s.updVint k f).hlt = s.hlt := rfl
@[simp] theorem State.updVint_pwr (s : State) (k : Nat) (f : Vint → Vint) : (s.updVint k f).pwr = s.pwr := rfl
@[simp] theorem State.updVint_pins (s : State) (k : Nat) (f : Vint → Vint) : (s.updVint k f).pins = s.pins := rfl
@[simp] theorem State.updVint_tx (s : State) (k : Nat) (f : Vint → Vint) : (s.updVint k f).tx = s.tx := rfl

/-! #### `updCkpt` -/

@[simp] theorem State.updCkpt_pending (s : State) (c : Nat) (f : Ckpt → Ckpt) : (s.updCkpt c f).pending = s.pending := rfl
@[simp] theorem State.updCkpt_count (s : State) (c : Nat) (f : Ckpt → Ckpt) : (s.updCkpt c f).count = s.count := rfl
@[simp] theorem State.updCkpt_nonce (s : State) (c : Nat) (f : Ckpt → Ckpt) : (s.updCkpt c f).nonce = s.nonce := rfl
@[simp] theorem State.updCkpt_part (s : State) (c : Nat) (f : Ckpt → Ckpt) : (s.updCkpt c f).part = s.part := rfl
@[simp] theorem State.updCkpt_ctl (s : State) (c : Nat) (f : Ckpt → Ckpt) : (s.updCkpt c f).ctl = s.ctl := rfl
@[simp] theorem State.updCkpt_larder (s : State) (c : Nat) (f : Ckpt → Ckpt) : (s.updCkpt c f).larder = s.larder := rfl
@[simp] theorem State.updCkpt_shelf (s : State) (c : Nat) (f : Ckpt → Ckpt) : (s.updCkpt c f).shelf = s.shelf := rfl
@[simp] theorem State.updCkpt_lpois (s : State) (c : Nat) (f : Ckpt → Ckpt) : (s.updCkpt c f).lpois = s.lpois := rfl
@[simp] theorem State.updCkpt_spois (s : State) (c : Nat) (f : Ckpt → Ckpt) : (s.updCkpt c f).spois = s.spois := rfl
@[simp] theorem State.updCkpt_flaws (s : State) (c : Nat) (f : Ckpt → Ckpt) : (s.updCkpt c f).flaws = s.flaws := rfl
@[simp] theorem State.updCkpt_lcount (s : State) (c : Nat) (f : Ckpt → Ckpt) : (s.updCkpt c f).lcount = s.lcount := rfl
@[simp] theorem State.updCkpt_pageOwner (s : State) (c : Nat) (f : Ckpt → Ckpt) : (s.updCkpt c f).pageOwner = s.pageOwner := rfl
@[simp] theorem State.updCkpt_units (s : State) (c : Nat) (f : Ckpt → Ckpt) : (s.updCkpt c f).units = s.units := rfl
@[simp] theorem State.updCkpt_groups (s : State) (c : Nat) (f : Ckpt → Ckpt) : (s.updCkpt c f).groups = s.groups := rfl
@[simp] theorem State.updCkpt_rgns (s : State) (c : Nat) (f : Ckpt → Ckpt) : (s.updCkpt c f).rgns = s.rgns := rfl
@[simp] theorem State.updCkpt_wakes (s : State) (c : Nat) (f : Ckpt → Ckpt) : (s.updCkpt c f).wakes = s.wakes := rfl
@[simp] theorem State.updCkpt_taken (s : State) (c : Nat) (f : Ckpt → Ckpt) : (s.updCkpt c f).taken = s.taken := rfl
@[simp] theorem State.updCkpt_rcache (s : State) (c : Nat) (f : Ckpt → Ckpt) : (s.updCkpt c f).rcache = s.rcache := rfl
@[simp] theorem State.updCkpt_ctxs (s : State) (c : Nat) (f : Ckpt → Ckpt) : (s.updCkpt c f).ctxs = s.ctxs := rfl
@[simp] theorem State.updCkpt_flt (s : State) (c : Nat) (f : Ckpt → Ckpt) : (s.updCkpt c f).flt = s.flt := rfl
@[simp] theorem State.updCkpt_qps (s : State) (c : Nat) (f : Ckpt → Ckpt) : (s.updCkpt c f).qps = s.qps := rfl
@[simp] theorem State.updCkpt_keys (s : State) (c : Nat) (f : Ckpt → Ckpt) : (s.updCkpt c f).keys = s.keys := rfl
@[simp] theorem State.updCkpt_keyGen (s : State) (c : Nat) (f : Ckpt → Ckpt) : (s.updCkpt c f).keyGen = s.keyGen := rfl
@[simp] theorem State.updCkpt_cel (s : State) (c : Nat) (f : Ckpt → Ckpt) : (s.updCkpt c f).cel = s.cel := rfl
@[simp] theorem State.updCkpt_gly (s : State) (c : Nat) (f : Ckpt → Ckpt) : (s.updCkpt c f).gly = s.gly := rfl
@[simp] theorem State.updCkpt_home (s : State) (c : Nat) (f : Ckpt → Ckpt) : (s.updCkpt c f).home = s.home := rfl
@[simp] theorem State.updCkpt_repro (s : State) (c : Nat) (f : Ckpt → Ckpt) : (s.updCkpt c f).repro = s.repro := rfl
@[simp] theorem State.updCkpt_map (s : State) (c : Nat) (f : Ckpt → Ckpt) : (s.updCkpt c f).map = s.map := rfl
@[simp] theorem State.updCkpt_srch (s : State) (c : Nat) (f : Ckpt → Ckpt) : (s.updCkpt c f).srch = s.srch := rfl
@[simp] theorem State.updCkpt_emb (s : State) (c : Nat) (f : Ckpt → Ckpt) : (s.updCkpt c f).emb = s.emb := rfl
@[simp] theorem State.updCkpt_evr (s : State) (c : Nat) (f : Ckpt → Ckpt) : (s.updCkpt c f).evr = s.evr := rfl
@[simp] theorem State.updCkpt_start (s : State) (c : Nat) (f : Ckpt → Ckpt) : (s.updCkpt c f).start = s.start := rfl
@[simp] theorem State.updCkpt_sec (s : State) (c : Nat) (f : Ckpt → Ckpt) : (s.updCkpt c f).sec = s.sec := rfl
@[simp] theorem State.updCkpt_swc (s : State) (c : Nat) (f : Ckpt → Ckpt) : (s.updCkpt c f).swc = s.swc := rfl
@[simp] theorem State.updCkpt_eth (s : State) (c : Nat) (f : Ckpt → Ckpt) : (s.updCkpt c f).eth = s.eth := rfl
@[simp] theorem State.updCkpt_hlt (s : State) (c : Nat) (f : Ckpt → Ckpt) : (s.updCkpt c f).hlt = s.hlt := rfl
@[simp] theorem State.updCkpt_pwr (s : State) (c : Nat) (f : Ckpt → Ckpt) : (s.updCkpt c f).pwr = s.pwr := rfl
@[simp] theorem State.updCkpt_pins (s : State) (c : Nat) (f : Ckpt → Ckpt) : (s.updCkpt c f).pins = s.pins := rfl
@[simp] theorem State.updCkpt_tx (s : State) (c : Nat) (f : Ckpt → Ckpt) : (s.updCkpt c f).tx = s.tx := rfl

/-! #### `updLink` -/

@[simp] theorem State.updLink_pending (s : State) (l : Nat) (f : Link → Link) : (s.updLink l f).pending = s.pending := rfl
@[simp] theorem State.updLink_count (s : State) (l : Nat) (f : Link → Link) : (s.updLink l f).count = s.count := rfl
@[simp] theorem State.updLink_nonce (s : State) (l : Nat) (f : Link → Link) : (s.updLink l f).nonce = s.nonce := rfl
@[simp] theorem State.updLink_part (s : State) (l : Nat) (f : Link → Link) : (s.updLink l f).part = s.part := rfl
@[simp] theorem State.updLink_ctl (s : State) (l : Nat) (f : Link → Link) : (s.updLink l f).ctl = s.ctl := rfl
@[simp] theorem State.updLink_larder (s : State) (l : Nat) (f : Link → Link) : (s.updLink l f).larder = s.larder := rfl
@[simp] theorem State.updLink_shelf (s : State) (l : Nat) (f : Link → Link) : (s.updLink l f).shelf = s.shelf := rfl
@[simp] theorem State.updLink_lpois (s : State) (l : Nat) (f : Link → Link) : (s.updLink l f).lpois = s.lpois := rfl
@[simp] theorem State.updLink_spois (s : State) (l : Nat) (f : Link → Link) : (s.updLink l f).spois = s.spois := rfl
@[simp] theorem State.updLink_flaws (s : State) (l : Nat) (f : Link → Link) : (s.updLink l f).flaws = s.flaws := rfl
@[simp] theorem State.updLink_lcount (s : State) (l : Nat) (f : Link → Link) : (s.updLink l f).lcount = s.lcount := rfl
@[simp] theorem State.updLink_pageOwner (s : State) (l : Nat) (f : Link → Link) : (s.updLink l f).pageOwner = s.pageOwner := rfl
@[simp] theorem State.updLink_units (s : State) (l : Nat) (f : Link → Link) : (s.updLink l f).units = s.units := rfl
@[simp] theorem State.updLink_groups (s : State) (l : Nat) (f : Link → Link) : (s.updLink l f).groups = s.groups := rfl
@[simp] theorem State.updLink_rgns (s : State) (l : Nat) (f : Link → Link) : (s.updLink l f).rgns = s.rgns := rfl
@[simp] theorem State.updLink_wakes (s : State) (l : Nat) (f : Link → Link) : (s.updLink l f).wakes = s.wakes := rfl
@[simp] theorem State.updLink_taken (s : State) (l : Nat) (f : Link → Link) : (s.updLink l f).taken = s.taken := rfl
@[simp] theorem State.updLink_rcache (s : State) (l : Nat) (f : Link → Link) : (s.updLink l f).rcache = s.rcache := rfl
@[simp] theorem State.updLink_ctxs (s : State) (l : Nat) (f : Link → Link) : (s.updLink l f).ctxs = s.ctxs := rfl
@[simp] theorem State.updLink_flt (s : State) (l : Nat) (f : Link → Link) : (s.updLink l f).flt = s.flt := rfl
@[simp] theorem State.updLink_qps (s : State) (l : Nat) (f : Link → Link) : (s.updLink l f).qps = s.qps := rfl
@[simp] theorem State.updLink_keys (s : State) (l : Nat) (f : Link → Link) : (s.updLink l f).keys = s.keys := rfl
@[simp] theorem State.updLink_keyGen (s : State) (l : Nat) (f : Link → Link) : (s.updLink l f).keyGen = s.keyGen := rfl
@[simp] theorem State.updLink_cel (s : State) (l : Nat) (f : Link → Link) : (s.updLink l f).cel = s.cel := rfl
@[simp] theorem State.updLink_home (s : State) (l : Nat) (f : Link → Link) : (s.updLink l f).home = s.home := rfl
@[simp] theorem State.updLink_repro (s : State) (l : Nat) (f : Link → Link) : (s.updLink l f).repro = s.repro := rfl
@[simp] theorem State.updLink_ckpt (s : State) (l : Nat) (f : Link → Link) : (s.updLink l f).ckpt = s.ckpt := rfl
@[simp] theorem State.updLink_map (s : State) (l : Nat) (f : Link → Link) : (s.updLink l f).map = s.map := rfl
@[simp] theorem State.updLink_srch (s : State) (l : Nat) (f : Link → Link) : (s.updLink l f).srch = s.srch := rfl
@[simp] theorem State.updLink_emb (s : State) (l : Nat) (f : Link → Link) : (s.updLink l f).emb = s.emb := rfl
@[simp] theorem State.updLink_evr (s : State) (l : Nat) (f : Link → Link) : (s.updLink l f).evr = s.evr := rfl
@[simp] theorem State.updLink_start (s : State) (l : Nat) (f : Link → Link) : (s.updLink l f).start = s.start := rfl
@[simp] theorem State.updLink_sec (s : State) (l : Nat) (f : Link → Link) : (s.updLink l f).sec = s.sec := rfl
@[simp] theorem State.updLink_swc (s : State) (l : Nat) (f : Link → Link) : (s.updLink l f).swc = s.swc := rfl
@[simp] theorem State.updLink_eth (s : State) (l : Nat) (f : Link → Link) : (s.updLink l f).eth = s.eth := rfl
@[simp] theorem State.updLink_hlt (s : State) (l : Nat) (f : Link → Link) : (s.updLink l f).hlt = s.hlt := rfl
@[simp] theorem State.updLink_pwr (s : State) (l : Nat) (f : Link → Link) : (s.updLink l f).pwr = s.pwr := rfl
@[simp] theorem State.updLink_pins (s : State) (l : Nat) (f : Link → Link) : (s.updLink l f).pins = s.pins := rfl
@[simp] theorem State.updLink_tx (s : State) (l : Nat) (f : Link → Link) : (s.updLink l f).tx = s.tx := rfl

/-! #### `updPair` -/

@[simp] theorem State.updPair_pending (s : State) (d : Nat) (f : Pair → Pair) : (s.updPair d f).pending = s.pending := rfl
@[simp] theorem State.updPair_count (s : State) (d : Nat) (f : Pair → Pair) : (s.updPair d f).count = s.count := rfl
@[simp] theorem State.updPair_nonce (s : State) (d : Nat) (f : Pair → Pair) : (s.updPair d f).nonce = s.nonce := rfl
@[simp] theorem State.updPair_part (s : State) (d : Nat) (f : Pair → Pair) : (s.updPair d f).part = s.part := rfl
@[simp] theorem State.updPair_ctl (s : State) (d : Nat) (f : Pair → Pair) : (s.updPair d f).ctl = s.ctl := rfl
@[simp] theorem State.updPair_larder (s : State) (d : Nat) (f : Pair → Pair) : (s.updPair d f).larder = s.larder := rfl
@[simp] theorem State.updPair_shelf (s : State) (d : Nat) (f : Pair → Pair) : (s.updPair d f).shelf = s.shelf := rfl
@[simp] theorem State.updPair_lpois (s : State) (d : Nat) (f : Pair → Pair) : (s.updPair d f).lpois = s.lpois := rfl
@[simp] theorem State.updPair_spois (s : State) (d : Nat) (f : Pair → Pair) : (s.updPair d f).spois = s.spois := rfl
@[simp] theorem State.updPair_flaws (s : State) (d : Nat) (f : Pair → Pair) : (s.updPair d f).flaws = s.flaws := rfl
@[simp] theorem State.updPair_lcount (s : State) (d : Nat) (f : Pair → Pair) : (s.updPair d f).lcount = s.lcount := rfl
@[simp] theorem State.updPair_pageOwner (s : State) (d : Nat) (f : Pair → Pair) : (s.updPair d f).pageOwner = s.pageOwner := rfl
@[simp] theorem State.updPair_units (s : State) (d : Nat) (f : Pair → Pair) : (s.updPair d f).units = s.units := rfl
@[simp] theorem State.updPair_groups (s : State) (d : Nat) (f : Pair → Pair) : (s.updPair d f).groups = s.groups := rfl
@[simp] theorem State.updPair_rgns (s : State) (d : Nat) (f : Pair → Pair) : (s.updPair d f).rgns = s.rgns := rfl
@[simp] theorem State.updPair_wakes (s : State) (d : Nat) (f : Pair → Pair) : (s.updPair d f).wakes = s.wakes := rfl
@[simp] theorem State.updPair_taken (s : State) (d : Nat) (f : Pair → Pair) : (s.updPair d f).taken = s.taken := rfl
@[simp] theorem State.updPair_rcache (s : State) (d : Nat) (f : Pair → Pair) : (s.updPair d f).rcache = s.rcache := rfl
@[simp] theorem State.updPair_ctxs (s : State) (d : Nat) (f : Pair → Pair) : (s.updPair d f).ctxs = s.ctxs := rfl
@[simp] theorem State.updPair_flt (s : State) (d : Nat) (f : Pair → Pair) : (s.updPair d f).flt = s.flt := rfl
@[simp] theorem State.updPair_qps (s : State) (d : Nat) (f : Pair → Pair) : (s.updPair d f).qps = s.qps := rfl
@[simp] theorem State.updPair_keys (s : State) (d : Nat) (f : Pair → Pair) : (s.updPair d f).keys = s.keys := rfl
@[simp] theorem State.updPair_keyGen (s : State) (d : Nat) (f : Pair → Pair) : (s.updPair d f).keyGen = s.keyGen := rfl
@[simp] theorem State.updPair_cel (s : State) (d : Nat) (f : Pair → Pair) : (s.updPair d f).cel = s.cel := rfl
@[simp] theorem State.updPair_home (s : State) (d : Nat) (f : Pair → Pair) : (s.updPair d f).home = s.home := rfl
@[simp] theorem State.updPair_repro (s : State) (d : Nat) (f : Pair → Pair) : (s.updPair d f).repro = s.repro := rfl
@[simp] theorem State.updPair_ckpt (s : State) (d : Nat) (f : Pair → Pair) : (s.updPair d f).ckpt = s.ckpt := rfl
@[simp] theorem State.updPair_map (s : State) (d : Nat) (f : Pair → Pair) : (s.updPair d f).map = s.map := rfl
@[simp] theorem State.updPair_srch (s : State) (d : Nat) (f : Pair → Pair) : (s.updPair d f).srch = s.srch := rfl
@[simp] theorem State.updPair_emb (s : State) (d : Nat) (f : Pair → Pair) : (s.updPair d f).emb = s.emb := rfl
@[simp] theorem State.updPair_evr (s : State) (d : Nat) (f : Pair → Pair) : (s.updPair d f).evr = s.evr := rfl
@[simp] theorem State.updPair_start (s : State) (d : Nat) (f : Pair → Pair) : (s.updPair d f).start = s.start := rfl
@[simp] theorem State.updPair_sec (s : State) (d : Nat) (f : Pair → Pair) : (s.updPair d f).sec = s.sec := rfl
@[simp] theorem State.updPair_swc (s : State) (d : Nat) (f : Pair → Pair) : (s.updPair d f).swc = s.swc := rfl
@[simp] theorem State.updPair_eth (s : State) (d : Nat) (f : Pair → Pair) : (s.updPair d f).eth = s.eth := rfl
@[simp] theorem State.updPair_hlt (s : State) (d : Nat) (f : Pair → Pair) : (s.updPair d f).hlt = s.hlt := rfl
@[simp] theorem State.updPair_pwr (s : State) (d : Nat) (f : Pair → Pair) : (s.updPair d f).pwr = s.pwr := rfl
@[simp] theorem State.updPair_pins (s : State) (d : Nat) (f : Pair → Pair) : (s.updPair d f).pins = s.pins := rfl
@[simp] theorem State.updPair_tx (s : State) (d : Nat) (f : Pair → Pair) : (s.updPair d f).tx = s.tx := rfl

/-! #### `updKeys` -/

@[simp] theorem State.updKeys_pending (s : State) (l : Nat) (f : LinkKey → LinkKey) : (s.updKeys l f).pending = s.pending := rfl
@[simp] theorem State.updKeys_count (s : State) (l : Nat) (f : LinkKey → LinkKey) : (s.updKeys l f).count = s.count := rfl
@[simp] theorem State.updKeys_nonce (s : State) (l : Nat) (f : LinkKey → LinkKey) : (s.updKeys l f).nonce = s.nonce := rfl
@[simp] theorem State.updKeys_part (s : State) (l : Nat) (f : LinkKey → LinkKey) : (s.updKeys l f).part = s.part := rfl
@[simp] theorem State.updKeys_ctl (s : State) (l : Nat) (f : LinkKey → LinkKey) : (s.updKeys l f).ctl = s.ctl := rfl
@[simp] theorem State.updKeys_larder (s : State) (l : Nat) (f : LinkKey → LinkKey) : (s.updKeys l f).larder = s.larder := rfl
@[simp] theorem State.updKeys_shelf (s : State) (l : Nat) (f : LinkKey → LinkKey) : (s.updKeys l f).shelf = s.shelf := rfl
@[simp] theorem State.updKeys_lpois (s : State) (l : Nat) (f : LinkKey → LinkKey) : (s.updKeys l f).lpois = s.lpois := rfl
@[simp] theorem State.updKeys_spois (s : State) (l : Nat) (f : LinkKey → LinkKey) : (s.updKeys l f).spois = s.spois := rfl
@[simp] theorem State.updKeys_flaws (s : State) (l : Nat) (f : LinkKey → LinkKey) : (s.updKeys l f).flaws = s.flaws := rfl
@[simp] theorem State.updKeys_lcount (s : State) (l : Nat) (f : LinkKey → LinkKey) : (s.updKeys l f).lcount = s.lcount := rfl
@[simp] theorem State.updKeys_pageOwner (s : State) (l : Nat) (f : LinkKey → LinkKey) : (s.updKeys l f).pageOwner = s.pageOwner := rfl
@[simp] theorem State.updKeys_units (s : State) (l : Nat) (f : LinkKey → LinkKey) : (s.updKeys l f).units = s.units := rfl
@[simp] theorem State.updKeys_groups (s : State) (l : Nat) (f : LinkKey → LinkKey) : (s.updKeys l f).groups = s.groups := rfl
@[simp] theorem State.updKeys_rgns (s : State) (l : Nat) (f : LinkKey → LinkKey) : (s.updKeys l f).rgns = s.rgns := rfl
@[simp] theorem State.updKeys_wakes (s : State) (l : Nat) (f : LinkKey → LinkKey) : (s.updKeys l f).wakes = s.wakes := rfl
@[simp] theorem State.updKeys_taken (s : State) (l : Nat) (f : LinkKey → LinkKey) : (s.updKeys l f).taken = s.taken := rfl
@[simp] theorem State.updKeys_rcache (s : State) (l : Nat) (f : LinkKey → LinkKey) : (s.updKeys l f).rcache = s.rcache := rfl
@[simp] theorem State.updKeys_ctxs (s : State) (l : Nat) (f : LinkKey → LinkKey) : (s.updKeys l f).ctxs = s.ctxs := rfl
@[simp] theorem State.updKeys_flt (s : State) (l : Nat) (f : LinkKey → LinkKey) : (s.updKeys l f).flt = s.flt := rfl
@[simp] theorem State.updKeys_qps (s : State) (l : Nat) (f : LinkKey → LinkKey) : (s.updKeys l f).qps = s.qps := rfl
@[simp] theorem State.updKeys_keys (s : State) (l : Nat) (f : LinkKey → LinkKey) : (s.updKeys l f).keys = s.keys := rfl
@[simp] theorem State.updKeys_keyGen (s : State) (l : Nat) (f : LinkKey → LinkKey) : (s.updKeys l f).keyGen = s.keyGen := rfl
@[simp] theorem State.updKeys_cel (s : State) (l : Nat) (f : LinkKey → LinkKey) : (s.updKeys l f).cel = s.cel := rfl
@[simp] theorem State.updKeys_gly (s : State) (l : Nat) (f : LinkKey → LinkKey) : (s.updKeys l f).gly = s.gly := rfl
@[simp] theorem State.updKeys_home (s : State) (l : Nat) (f : LinkKey → LinkKey) : (s.updKeys l f).home = s.home := rfl
@[simp] theorem State.updKeys_repro (s : State) (l : Nat) (f : LinkKey → LinkKey) : (s.updKeys l f).repro = s.repro := rfl
@[simp] theorem State.updKeys_ckpt (s : State) (l : Nat) (f : LinkKey → LinkKey) : (s.updKeys l f).ckpt = s.ckpt := rfl
@[simp] theorem State.updKeys_map (s : State) (l : Nat) (f : LinkKey → LinkKey) : (s.updKeys l f).map = s.map := rfl
@[simp] theorem State.updKeys_srch (s : State) (l : Nat) (f : LinkKey → LinkKey) : (s.updKeys l f).srch = s.srch := rfl
@[simp] theorem State.updKeys_emb (s : State) (l : Nat) (f : LinkKey → LinkKey) : (s.updKeys l f).emb = s.emb := rfl
@[simp] theorem State.updKeys_evr (s : State) (l : Nat) (f : LinkKey → LinkKey) : (s.updKeys l f).evr = s.evr := rfl
@[simp] theorem State.updKeys_start (s : State) (l : Nat) (f : LinkKey → LinkKey) : (s.updKeys l f).start = s.start := rfl
@[simp] theorem State.updKeys_swc (s : State) (l : Nat) (f : LinkKey → LinkKey) : (s.updKeys l f).swc = s.swc := rfl
@[simp] theorem State.updKeys_eth (s : State) (l : Nat) (f : LinkKey → LinkKey) : (s.updKeys l f).eth = s.eth := rfl
@[simp] theorem State.updKeys_hlt (s : State) (l : Nat) (f : LinkKey → LinkKey) : (s.updKeys l f).hlt = s.hlt := rfl
@[simp] theorem State.updKeys_pwr (s : State) (l : Nat) (f : LinkKey → LinkKey) : (s.updKeys l f).pwr = s.pwr := rfl
@[simp] theorem State.updKeys_pins (s : State) (l : Nat) (f : LinkKey → LinkKey) : (s.updKeys l f).pins = s.pins := rfl
@[simp] theorem State.updKeys_tx (s : State) (l : Nat) (f : LinkKey → LinkKey) : (s.updKeys l f).tx = s.tx := rfl

/-! #### `updTxn` -/

@[simp] theorem State.updTxn_pending (s : State) (id : Nat) (f : HTxn → HTxn) : (s.updTxn id f).pending = s.pending := rfl
@[simp] theorem State.updTxn_count (s : State) (id : Nat) (f : HTxn → HTxn) : (s.updTxn id f).count = s.count := rfl
@[simp] theorem State.updTxn_nonce (s : State) (id : Nat) (f : HTxn → HTxn) : (s.updTxn id f).nonce = s.nonce := rfl
@[simp] theorem State.updTxn_part (s : State) (id : Nat) (f : HTxn → HTxn) : (s.updTxn id f).part = s.part := rfl
@[simp] theorem State.updTxn_ctl (s : State) (id : Nat) (f : HTxn → HTxn) : (s.updTxn id f).ctl = s.ctl := rfl
@[simp] theorem State.updTxn_larder (s : State) (id : Nat) (f : HTxn → HTxn) : (s.updTxn id f).larder = s.larder := rfl
@[simp] theorem State.updTxn_shelf (s : State) (id : Nat) (f : HTxn → HTxn) : (s.updTxn id f).shelf = s.shelf := rfl
@[simp] theorem State.updTxn_lpois (s : State) (id : Nat) (f : HTxn → HTxn) : (s.updTxn id f).lpois = s.lpois := rfl
@[simp] theorem State.updTxn_spois (s : State) (id : Nat) (f : HTxn → HTxn) : (s.updTxn id f).spois = s.spois := rfl
@[simp] theorem State.updTxn_flaws (s : State) (id : Nat) (f : HTxn → HTxn) : (s.updTxn id f).flaws = s.flaws := rfl
@[simp] theorem State.updTxn_lcount (s : State) (id : Nat) (f : HTxn → HTxn) : (s.updTxn id f).lcount = s.lcount := rfl
@[simp] theorem State.updTxn_pageOwner (s : State) (id : Nat) (f : HTxn → HTxn) : (s.updTxn id f).pageOwner = s.pageOwner := rfl
@[simp] theorem State.updTxn_units (s : State) (id : Nat) (f : HTxn → HTxn) : (s.updTxn id f).units = s.units := rfl
@[simp] theorem State.updTxn_groups (s : State) (id : Nat) (f : HTxn → HTxn) : (s.updTxn id f).groups = s.groups := rfl
@[simp] theorem State.updTxn_rgns (s : State) (id : Nat) (f : HTxn → HTxn) : (s.updTxn id f).rgns = s.rgns := rfl
@[simp] theorem State.updTxn_wakes (s : State) (id : Nat) (f : HTxn → HTxn) : (s.updTxn id f).wakes = s.wakes := rfl
@[simp] theorem State.updTxn_taken (s : State) (id : Nat) (f : HTxn → HTxn) : (s.updTxn id f).taken = s.taken := rfl
@[simp] theorem State.updTxn_rcache (s : State) (id : Nat) (f : HTxn → HTxn) : (s.updTxn id f).rcache = s.rcache := rfl
@[simp] theorem State.updTxn_ctxs (s : State) (id : Nat) (f : HTxn → HTxn) : (s.updTxn id f).ctxs = s.ctxs := rfl
@[simp] theorem State.updTxn_flt (s : State) (id : Nat) (f : HTxn → HTxn) : (s.updTxn id f).flt = s.flt := rfl
@[simp] theorem State.updTxn_qps (s : State) (id : Nat) (f : HTxn → HTxn) : (s.updTxn id f).qps = s.qps := rfl
@[simp] theorem State.updTxn_keys (s : State) (id : Nat) (f : HTxn → HTxn) : (s.updTxn id f).keys = s.keys := rfl
@[simp] theorem State.updTxn_keyGen (s : State) (id : Nat) (f : HTxn → HTxn) : (s.updTxn id f).keyGen = s.keyGen := rfl
@[simp] theorem State.updTxn_cel (s : State) (id : Nat) (f : HTxn → HTxn) : (s.updTxn id f).cel = s.cel := rfl
@[simp] theorem State.updTxn_gly (s : State) (id : Nat) (f : HTxn → HTxn) : (s.updTxn id f).gly = s.gly := rfl
@[simp] theorem State.updTxn_repro (s : State) (id : Nat) (f : HTxn → HTxn) : (s.updTxn id f).repro = s.repro := rfl
@[simp] theorem State.updTxn_ckpt (s : State) (id : Nat) (f : HTxn → HTxn) : (s.updTxn id f).ckpt = s.ckpt := rfl
@[simp] theorem State.updTxn_map (s : State) (id : Nat) (f : HTxn → HTxn) : (s.updTxn id f).map = s.map := rfl
@[simp] theorem State.updTxn_srch (s : State) (id : Nat) (f : HTxn → HTxn) : (s.updTxn id f).srch = s.srch := rfl
@[simp] theorem State.updTxn_emb (s : State) (id : Nat) (f : HTxn → HTxn) : (s.updTxn id f).emb = s.emb := rfl
@[simp] theorem State.updTxn_evr (s : State) (id : Nat) (f : HTxn → HTxn) : (s.updTxn id f).evr = s.evr := rfl
@[simp] theorem State.updTxn_start (s : State) (id : Nat) (f : HTxn → HTxn) : (s.updTxn id f).start = s.start := rfl
@[simp] theorem State.updTxn_sec (s : State) (id : Nat) (f : HTxn → HTxn) : (s.updTxn id f).sec = s.sec := rfl
@[simp] theorem State.updTxn_swc (s : State) (id : Nat) (f : HTxn → HTxn) : (s.updTxn id f).swc = s.swc := rfl
@[simp] theorem State.updTxn_eth (s : State) (id : Nat) (f : HTxn → HTxn) : (s.updTxn id f).eth = s.eth := rfl
@[simp] theorem State.updTxn_hlt (s : State) (id : Nat) (f : HTxn → HTxn) : (s.updTxn id f).hlt = s.hlt := rfl
@[simp] theorem State.updTxn_pwr (s : State) (id : Nat) (f : HTxn → HTxn) : (s.updTxn id f).pwr = s.pwr := rfl
@[simp] theorem State.updTxn_pins (s : State) (id : Nat) (f : HTxn → HTxn) : (s.updTxn id f).pins = s.pins := rfl
@[simp] theorem State.updTxn_tx (s : State) (id : Nat) (f : HTxn → HTxn) : (s.updTxn id f).tx = s.tx := rfl

/-! #### `updRound` -/

@[simp] theorem State.updRound_pending (s : State) (c : Nat) (f : Round → Round) : (s.updRound c f).pending = s.pending := rfl
@[simp] theorem State.updRound_count (s : State) (c : Nat) (f : Round → Round) : (s.updRound c f).count = s.count := rfl
@[simp] theorem State.updRound_nonce (s : State) (c : Nat) (f : Round → Round) : (s.updRound c f).nonce = s.nonce := rfl
@[simp] theorem State.updRound_part (s : State) (c : Nat) (f : Round → Round) : (s.updRound c f).part = s.part := rfl
@[simp] theorem State.updRound_ctl (s : State) (c : Nat) (f : Round → Round) : (s.updRound c f).ctl = s.ctl := rfl
@[simp] theorem State.updRound_larder (s : State) (c : Nat) (f : Round → Round) : (s.updRound c f).larder = s.larder := rfl
@[simp] theorem State.updRound_shelf (s : State) (c : Nat) (f : Round → Round) : (s.updRound c f).shelf = s.shelf := rfl
@[simp] theorem State.updRound_lpois (s : State) (c : Nat) (f : Round → Round) : (s.updRound c f).lpois = s.lpois := rfl
@[simp] theorem State.updRound_spois (s : State) (c : Nat) (f : Round → Round) : (s.updRound c f).spois = s.spois := rfl
@[simp] theorem State.updRound_flaws (s : State) (c : Nat) (f : Round → Round) : (s.updRound c f).flaws = s.flaws := rfl
@[simp] theorem State.updRound_lcount (s : State) (c : Nat) (f : Round → Round) : (s.updRound c f).lcount = s.lcount := rfl
@[simp] theorem State.updRound_pageOwner (s : State) (c : Nat) (f : Round → Round) : (s.updRound c f).pageOwner = s.pageOwner := rfl
@[simp] theorem State.updRound_units (s : State) (c : Nat) (f : Round → Round) : (s.updRound c f).units = s.units := rfl
@[simp] theorem State.updRound_groups (s : State) (c : Nat) (f : Round → Round) : (s.updRound c f).groups = s.groups := rfl
@[simp] theorem State.updRound_rgns (s : State) (c : Nat) (f : Round → Round) : (s.updRound c f).rgns = s.rgns := rfl
@[simp] theorem State.updRound_wakes (s : State) (c : Nat) (f : Round → Round) : (s.updRound c f).wakes = s.wakes := rfl
@[simp] theorem State.updRound_taken (s : State) (c : Nat) (f : Round → Round) : (s.updRound c f).taken = s.taken := rfl
@[simp] theorem State.updRound_rcache (s : State) (c : Nat) (f : Round → Round) : (s.updRound c f).rcache = s.rcache := rfl
@[simp] theorem State.updRound_ctxs (s : State) (c : Nat) (f : Round → Round) : (s.updRound c f).ctxs = s.ctxs := rfl
@[simp] theorem State.updRound_flt (s : State) (c : Nat) (f : Round → Round) : (s.updRound c f).flt = s.flt := rfl
@[simp] theorem State.updRound_qps (s : State) (c : Nat) (f : Round → Round) : (s.updRound c f).qps = s.qps := rfl
@[simp] theorem State.updRound_keys (s : State) (c : Nat) (f : Round → Round) : (s.updRound c f).keys = s.keys := rfl
@[simp] theorem State.updRound_keyGen (s : State) (c : Nat) (f : Round → Round) : (s.updRound c f).keyGen = s.keyGen := rfl
@[simp] theorem State.updRound_cel (s : State) (c : Nat) (f : Round → Round) : (s.updRound c f).cel = s.cel := rfl
@[simp] theorem State.updRound_gly (s : State) (c : Nat) (f : Round → Round) : (s.updRound c f).gly = s.gly := rfl
@[simp] theorem State.updRound_home (s : State) (c : Nat) (f : Round → Round) : (s.updRound c f).home = s.home := rfl
@[simp] theorem State.updRound_ckpt (s : State) (c : Nat) (f : Round → Round) : (s.updRound c f).ckpt = s.ckpt := rfl
@[simp] theorem State.updRound_map (s : State) (c : Nat) (f : Round → Round) : (s.updRound c f).map = s.map := rfl
@[simp] theorem State.updRound_srch (s : State) (c : Nat) (f : Round → Round) : (s.updRound c f).srch = s.srch := rfl
@[simp] theorem State.updRound_emb (s : State) (c : Nat) (f : Round → Round) : (s.updRound c f).emb = s.emb := rfl
@[simp] theorem State.updRound_evr (s : State) (c : Nat) (f : Round → Round) : (s.updRound c f).evr = s.evr := rfl
@[simp] theorem State.updRound_start (s : State) (c : Nat) (f : Round → Round) : (s.updRound c f).start = s.start := rfl
@[simp] theorem State.updRound_sec (s : State) (c : Nat) (f : Round → Round) : (s.updRound c f).sec = s.sec := rfl
@[simp] theorem State.updRound_swc (s : State) (c : Nat) (f : Round → Round) : (s.updRound c f).swc = s.swc := rfl
@[simp] theorem State.updRound_eth (s : State) (c : Nat) (f : Round → Round) : (s.updRound c f).eth = s.eth := rfl
@[simp] theorem State.updRound_hlt (s : State) (c : Nat) (f : Round → Round) : (s.updRound c f).hlt = s.hlt := rfl
@[simp] theorem State.updRound_pwr (s : State) (c : Nat) (f : Round → Round) : (s.updRound c f).pwr = s.pwr := rfl
@[simp] theorem State.updRound_pins (s : State) (c : Nat) (f : Round → Round) : (s.updRound c f).pins = s.pins := rfl
@[simp] theorem State.updRound_tx (s : State) (c : Nat) (f : Round → Round) : (s.updRound c f).tx = s.tx := rfl

/-! #### `updSrch` -/

@[simp] theorem State.updSrch_pending (s : State) (c : Nat) (f : Srch → Srch) : (s.updSrch c f).pending = s.pending := rfl
@[simp] theorem State.updSrch_count (s : State) (c : Nat) (f : Srch → Srch) : (s.updSrch c f).count = s.count := rfl
@[simp] theorem State.updSrch_nonce (s : State) (c : Nat) (f : Srch → Srch) : (s.updSrch c f).nonce = s.nonce := rfl
@[simp] theorem State.updSrch_part (s : State) (c : Nat) (f : Srch → Srch) : (s.updSrch c f).part = s.part := rfl
@[simp] theorem State.updSrch_ctl (s : State) (c : Nat) (f : Srch → Srch) : (s.updSrch c f).ctl = s.ctl := rfl
@[simp] theorem State.updSrch_larder (s : State) (c : Nat) (f : Srch → Srch) : (s.updSrch c f).larder = s.larder := rfl
@[simp] theorem State.updSrch_shelf (s : State) (c : Nat) (f : Srch → Srch) : (s.updSrch c f).shelf = s.shelf := rfl
@[simp] theorem State.updSrch_lpois (s : State) (c : Nat) (f : Srch → Srch) : (s.updSrch c f).lpois = s.lpois := rfl
@[simp] theorem State.updSrch_spois (s : State) (c : Nat) (f : Srch → Srch) : (s.updSrch c f).spois = s.spois := rfl
@[simp] theorem State.updSrch_flaws (s : State) (c : Nat) (f : Srch → Srch) : (s.updSrch c f).flaws = s.flaws := rfl
@[simp] theorem State.updSrch_lcount (s : State) (c : Nat) (f : Srch → Srch) : (s.updSrch c f).lcount = s.lcount := rfl
@[simp] theorem State.updSrch_pageOwner (s : State) (c : Nat) (f : Srch → Srch) : (s.updSrch c f).pageOwner = s.pageOwner := rfl
@[simp] theorem State.updSrch_units (s : State) (c : Nat) (f : Srch → Srch) : (s.updSrch c f).units = s.units := rfl
@[simp] theorem State.updSrch_groups (s : State) (c : Nat) (f : Srch → Srch) : (s.updSrch c f).groups = s.groups := rfl
@[simp] theorem State.updSrch_rgns (s : State) (c : Nat) (f : Srch → Srch) : (s.updSrch c f).rgns = s.rgns := rfl
@[simp] theorem State.updSrch_wakes (s : State) (c : Nat) (f : Srch → Srch) : (s.updSrch c f).wakes = s.wakes := rfl
@[simp] theorem State.updSrch_taken (s : State) (c : Nat) (f : Srch → Srch) : (s.updSrch c f).taken = s.taken := rfl
@[simp] theorem State.updSrch_rcache (s : State) (c : Nat) (f : Srch → Srch) : (s.updSrch c f).rcache = s.rcache := rfl
@[simp] theorem State.updSrch_ctxs (s : State) (c : Nat) (f : Srch → Srch) : (s.updSrch c f).ctxs = s.ctxs := rfl
@[simp] theorem State.updSrch_flt (s : State) (c : Nat) (f : Srch → Srch) : (s.updSrch c f).flt = s.flt := rfl
@[simp] theorem State.updSrch_qps (s : State) (c : Nat) (f : Srch → Srch) : (s.updSrch c f).qps = s.qps := rfl
@[simp] theorem State.updSrch_keys (s : State) (c : Nat) (f : Srch → Srch) : (s.updSrch c f).keys = s.keys := rfl
@[simp] theorem State.updSrch_keyGen (s : State) (c : Nat) (f : Srch → Srch) : (s.updSrch c f).keyGen = s.keyGen := rfl
@[simp] theorem State.updSrch_cel (s : State) (c : Nat) (f : Srch → Srch) : (s.updSrch c f).cel = s.cel := rfl
@[simp] theorem State.updSrch_gly (s : State) (c : Nat) (f : Srch → Srch) : (s.updSrch c f).gly = s.gly := rfl
@[simp] theorem State.updSrch_home (s : State) (c : Nat) (f : Srch → Srch) : (s.updSrch c f).home = s.home := rfl
@[simp] theorem State.updSrch_repro (s : State) (c : Nat) (f : Srch → Srch) : (s.updSrch c f).repro = s.repro := rfl
@[simp] theorem State.updSrch_ckpt (s : State) (c : Nat) (f : Srch → Srch) : (s.updSrch c f).ckpt = s.ckpt := rfl
@[simp] theorem State.updSrch_map (s : State) (c : Nat) (f : Srch → Srch) : (s.updSrch c f).map = s.map := rfl
@[simp] theorem State.updSrch_emb (s : State) (c : Nat) (f : Srch → Srch) : (s.updSrch c f).emb = s.emb := rfl
@[simp] theorem State.updSrch_evr (s : State) (c : Nat) (f : Srch → Srch) : (s.updSrch c f).evr = s.evr := rfl
@[simp] theorem State.updSrch_start (s : State) (c : Nat) (f : Srch → Srch) : (s.updSrch c f).start = s.start := rfl
@[simp] theorem State.updSrch_sec (s : State) (c : Nat) (f : Srch → Srch) : (s.updSrch c f).sec = s.sec := rfl
@[simp] theorem State.updSrch_swc (s : State) (c : Nat) (f : Srch → Srch) : (s.updSrch c f).swc = s.swc := rfl
@[simp] theorem State.updSrch_eth (s : State) (c : Nat) (f : Srch → Srch) : (s.updSrch c f).eth = s.eth := rfl
@[simp] theorem State.updSrch_hlt (s : State) (c : Nat) (f : Srch → Srch) : (s.updSrch c f).hlt = s.hlt := rfl
@[simp] theorem State.updSrch_pwr (s : State) (c : Nat) (f : Srch → Srch) : (s.updSrch c f).pwr = s.pwr := rfl
@[simp] theorem State.updSrch_pins (s : State) (c : Nat) (f : Srch → Srch) : (s.updSrch c f).pins = s.pins := rfl
@[simp] theorem State.updSrch_tx (s : State) (c : Nat) (f : Srch → Srch) : (s.updSrch c f).tx = s.tx := rfl

/-! #### `updEport` -/

@[simp] theorem State.updEport_pending (s : State) (e : Nat) (f : EPort → EPort) : (s.updEport e f).pending = s.pending := rfl
@[simp] theorem State.updEport_count (s : State) (e : Nat) (f : EPort → EPort) : (s.updEport e f).count = s.count := rfl
@[simp] theorem State.updEport_nonce (s : State) (e : Nat) (f : EPort → EPort) : (s.updEport e f).nonce = s.nonce := rfl
@[simp] theorem State.updEport_part (s : State) (e : Nat) (f : EPort → EPort) : (s.updEport e f).part = s.part := rfl
@[simp] theorem State.updEport_ctl (s : State) (e : Nat) (f : EPort → EPort) : (s.updEport e f).ctl = s.ctl := rfl
@[simp] theorem State.updEport_larder (s : State) (e : Nat) (f : EPort → EPort) : (s.updEport e f).larder = s.larder := rfl
@[simp] theorem State.updEport_shelf (s : State) (e : Nat) (f : EPort → EPort) : (s.updEport e f).shelf = s.shelf := rfl
@[simp] theorem State.updEport_lpois (s : State) (e : Nat) (f : EPort → EPort) : (s.updEport e f).lpois = s.lpois := rfl
@[simp] theorem State.updEport_spois (s : State) (e : Nat) (f : EPort → EPort) : (s.updEport e f).spois = s.spois := rfl
@[simp] theorem State.updEport_flaws (s : State) (e : Nat) (f : EPort → EPort) : (s.updEport e f).flaws = s.flaws := rfl
@[simp] theorem State.updEport_lcount (s : State) (e : Nat) (f : EPort → EPort) : (s.updEport e f).lcount = s.lcount := rfl
@[simp] theorem State.updEport_pageOwner (s : State) (e : Nat) (f : EPort → EPort) : (s.updEport e f).pageOwner = s.pageOwner := rfl
@[simp] theorem State.updEport_units (s : State) (e : Nat) (f : EPort → EPort) : (s.updEport e f).units = s.units := rfl
@[simp] theorem State.updEport_groups (s : State) (e : Nat) (f : EPort → EPort) : (s.updEport e f).groups = s.groups := rfl
@[simp] theorem State.updEport_rgns (s : State) (e : Nat) (f : EPort → EPort) : (s.updEport e f).rgns = s.rgns := rfl
@[simp] theorem State.updEport_wakes (s : State) (e : Nat) (f : EPort → EPort) : (s.updEport e f).wakes = s.wakes := rfl
@[simp] theorem State.updEport_taken (s : State) (e : Nat) (f : EPort → EPort) : (s.updEport e f).taken = s.taken := rfl
@[simp] theorem State.updEport_rcache (s : State) (e : Nat) (f : EPort → EPort) : (s.updEport e f).rcache = s.rcache := rfl
@[simp] theorem State.updEport_ctxs (s : State) (e : Nat) (f : EPort → EPort) : (s.updEport e f).ctxs = s.ctxs := rfl
@[simp] theorem State.updEport_flt (s : State) (e : Nat) (f : EPort → EPort) : (s.updEport e f).flt = s.flt := rfl
@[simp] theorem State.updEport_qps (s : State) (e : Nat) (f : EPort → EPort) : (s.updEport e f).qps = s.qps := rfl
@[simp] theorem State.updEport_keys (s : State) (e : Nat) (f : EPort → EPort) : (s.updEport e f).keys = s.keys := rfl
@[simp] theorem State.updEport_keyGen (s : State) (e : Nat) (f : EPort → EPort) : (s.updEport e f).keyGen = s.keyGen := rfl
@[simp] theorem State.updEport_cel (s : State) (e : Nat) (f : EPort → EPort) : (s.updEport e f).cel = s.cel := rfl
@[simp] theorem State.updEport_gly (s : State) (e : Nat) (f : EPort → EPort) : (s.updEport e f).gly = s.gly := rfl
@[simp] theorem State.updEport_home (s : State) (e : Nat) (f : EPort → EPort) : (s.updEport e f).home = s.home := rfl
@[simp] theorem State.updEport_repro (s : State) (e : Nat) (f : EPort → EPort) : (s.updEport e f).repro = s.repro := rfl
@[simp] theorem State.updEport_ckpt (s : State) (e : Nat) (f : EPort → EPort) : (s.updEport e f).ckpt = s.ckpt := rfl
@[simp] theorem State.updEport_map (s : State) (e : Nat) (f : EPort → EPort) : (s.updEport e f).map = s.map := rfl
@[simp] theorem State.updEport_srch (s : State) (e : Nat) (f : EPort → EPort) : (s.updEport e f).srch = s.srch := rfl
@[simp] theorem State.updEport_emb (s : State) (e : Nat) (f : EPort → EPort) : (s.updEport e f).emb = s.emb := rfl
@[simp] theorem State.updEport_evr (s : State) (e : Nat) (f : EPort → EPort) : (s.updEport e f).evr = s.evr := rfl
@[simp] theorem State.updEport_start (s : State) (e : Nat) (f : EPort → EPort) : (s.updEport e f).start = s.start := rfl
@[simp] theorem State.updEport_sec (s : State) (e : Nat) (f : EPort → EPort) : (s.updEport e f).sec = s.sec := rfl
@[simp] theorem State.updEport_swc (s : State) (e : Nat) (f : EPort → EPort) : (s.updEport e f).swc = s.swc := rfl
@[simp] theorem State.updEport_hlt (s : State) (e : Nat) (f : EPort → EPort) : (s.updEport e f).hlt = s.hlt := rfl
@[simp] theorem State.updEport_pwr (s : State) (e : Nat) (f : EPort → EPort) : (s.updEport e f).pwr = s.pwr := rfl
@[simp] theorem State.updEport_pins (s : State) (e : Nat) (f : EPort → EPort) : (s.updEport e f).pins = s.pins := rfl
@[simp] theorem State.updEport_tx (s : State) (e : Nat) (f : EPort → EPort) : (s.updEport e f).tx = s.tx := rfl

/-! #### `updQp` -/

@[simp] theorem State.updQp_pending (s : State) (q : Nat) (f : Qp → Qp) : (s.updQp q f).pending = s.pending := rfl
@[simp] theorem State.updQp_count (s : State) (q : Nat) (f : Qp → Qp) : (s.updQp q f).count = s.count := rfl
@[simp] theorem State.updQp_nonce (s : State) (q : Nat) (f : Qp → Qp) : (s.updQp q f).nonce = s.nonce := rfl
@[simp] theorem State.updQp_part (s : State) (q : Nat) (f : Qp → Qp) : (s.updQp q f).part = s.part := rfl
@[simp] theorem State.updQp_ctl (s : State) (q : Nat) (f : Qp → Qp) : (s.updQp q f).ctl = s.ctl := rfl
@[simp] theorem State.updQp_larder (s : State) (q : Nat) (f : Qp → Qp) : (s.updQp q f).larder = s.larder := rfl
@[simp] theorem State.updQp_shelf (s : State) (q : Nat) (f : Qp → Qp) : (s.updQp q f).shelf = s.shelf := rfl
@[simp] theorem State.updQp_lpois (s : State) (q : Nat) (f : Qp → Qp) : (s.updQp q f).lpois = s.lpois := rfl
@[simp] theorem State.updQp_spois (s : State) (q : Nat) (f : Qp → Qp) : (s.updQp q f).spois = s.spois := rfl
@[simp] theorem State.updQp_flaws (s : State) (q : Nat) (f : Qp → Qp) : (s.updQp q f).flaws = s.flaws := rfl
@[simp] theorem State.updQp_lcount (s : State) (q : Nat) (f : Qp → Qp) : (s.updQp q f).lcount = s.lcount := rfl
@[simp] theorem State.updQp_pageOwner (s : State) (q : Nat) (f : Qp → Qp) : (s.updQp q f).pageOwner = s.pageOwner := rfl
@[simp] theorem State.updQp_units (s : State) (q : Nat) (f : Qp → Qp) : (s.updQp q f).units = s.units := rfl
@[simp] theorem State.updQp_groups (s : State) (q : Nat) (f : Qp → Qp) : (s.updQp q f).groups = s.groups := rfl
@[simp] theorem State.updQp_rgns (s : State) (q : Nat) (f : Qp → Qp) : (s.updQp q f).rgns = s.rgns := rfl
@[simp] theorem State.updQp_wakes (s : State) (q : Nat) (f : Qp → Qp) : (s.updQp q f).wakes = s.wakes := rfl
@[simp] theorem State.updQp_taken (s : State) (q : Nat) (f : Qp → Qp) : (s.updQp q f).taken = s.taken := rfl
@[simp] theorem State.updQp_rcache (s : State) (q : Nat) (f : Qp → Qp) : (s.updQp q f).rcache = s.rcache := rfl
@[simp] theorem State.updQp_ctxs (s : State) (q : Nat) (f : Qp → Qp) : (s.updQp q f).ctxs = s.ctxs := rfl
@[simp] theorem State.updQp_flt (s : State) (q : Nat) (f : Qp → Qp) : (s.updQp q f).flt = s.flt := rfl
@[simp] theorem State.updQp_keys (s : State) (q : Nat) (f : Qp → Qp) : (s.updQp q f).keys = s.keys := rfl
@[simp] theorem State.updQp_keyGen (s : State) (q : Nat) (f : Qp → Qp) : (s.updQp q f).keyGen = s.keyGen := rfl
@[simp] theorem State.updQp_cel (s : State) (q : Nat) (f : Qp → Qp) : (s.updQp q f).cel = s.cel := rfl
@[simp] theorem State.updQp_gly (s : State) (q : Nat) (f : Qp → Qp) : (s.updQp q f).gly = s.gly := rfl
@[simp] theorem State.updQp_home (s : State) (q : Nat) (f : Qp → Qp) : (s.updQp q f).home = s.home := rfl
@[simp] theorem State.updQp_repro (s : State) (q : Nat) (f : Qp → Qp) : (s.updQp q f).repro = s.repro := rfl
@[simp] theorem State.updQp_ckpt (s : State) (q : Nat) (f : Qp → Qp) : (s.updQp q f).ckpt = s.ckpt := rfl
@[simp] theorem State.updQp_map (s : State) (q : Nat) (f : Qp → Qp) : (s.updQp q f).map = s.map := rfl
@[simp] theorem State.updQp_srch (s : State) (q : Nat) (f : Qp → Qp) : (s.updQp q f).srch = s.srch := rfl
@[simp] theorem State.updQp_emb (s : State) (q : Nat) (f : Qp → Qp) : (s.updQp q f).emb = s.emb := rfl
@[simp] theorem State.updQp_evr (s : State) (q : Nat) (f : Qp → Qp) : (s.updQp q f).evr = s.evr := rfl
@[simp] theorem State.updQp_start (s : State) (q : Nat) (f : Qp → Qp) : (s.updQp q f).start = s.start := rfl
@[simp] theorem State.updQp_sec (s : State) (q : Nat) (f : Qp → Qp) : (s.updQp q f).sec = s.sec := rfl
@[simp] theorem State.updQp_swc (s : State) (q : Nat) (f : Qp → Qp) : (s.updQp q f).swc = s.swc := rfl
@[simp] theorem State.updQp_eth (s : State) (q : Nat) (f : Qp → Qp) : (s.updQp q f).eth = s.eth := rfl
@[simp] theorem State.updQp_hlt (s : State) (q : Nat) (f : Qp → Qp) : (s.updQp q f).hlt = s.hlt := rfl
@[simp] theorem State.updQp_pwr (s : State) (q : Nat) (f : Qp → Qp) : (s.updQp q f).pwr = s.pwr := rfl
@[simp] theorem State.updQp_pins (s : State) (q : Nat) (f : Qp → Qp) : (s.updQp q f).pins = s.pins := rfl
@[simp] theorem State.updQp_tx (s : State) (q : Nat) (f : Qp → Qp) : (s.updQp q f).tx = s.tx := rfl

/-! #### `updSwc` -/

@[simp] theorem State.updSwc_pending (s : State) (f : Swc → Swc) : (s.updSwc f).pending = s.pending := rfl
@[simp] theorem State.updSwc_count (s : State) (f : Swc → Swc) : (s.updSwc f).count = s.count := rfl
@[simp] theorem State.updSwc_nonce (s : State) (f : Swc → Swc) : (s.updSwc f).nonce = s.nonce := rfl
@[simp] theorem State.updSwc_part (s : State) (f : Swc → Swc) : (s.updSwc f).part = s.part := rfl
@[simp] theorem State.updSwc_ctl (s : State) (f : Swc → Swc) : (s.updSwc f).ctl = s.ctl := rfl
@[simp] theorem State.updSwc_larder (s : State) (f : Swc → Swc) : (s.updSwc f).larder = s.larder := rfl
@[simp] theorem State.updSwc_shelf (s : State) (f : Swc → Swc) : (s.updSwc f).shelf = s.shelf := rfl
@[simp] theorem State.updSwc_lpois (s : State) (f : Swc → Swc) : (s.updSwc f).lpois = s.lpois := rfl
@[simp] theorem State.updSwc_spois (s : State) (f : Swc → Swc) : (s.updSwc f).spois = s.spois := rfl
@[simp] theorem State.updSwc_flaws (s : State) (f : Swc → Swc) : (s.updSwc f).flaws = s.flaws := rfl
@[simp] theorem State.updSwc_lcount (s : State) (f : Swc → Swc) : (s.updSwc f).lcount = s.lcount := rfl
@[simp] theorem State.updSwc_pageOwner (s : State) (f : Swc → Swc) : (s.updSwc f).pageOwner = s.pageOwner := rfl
@[simp] theorem State.updSwc_units (s : State) (f : Swc → Swc) : (s.updSwc f).units = s.units := rfl
@[simp] theorem State.updSwc_groups (s : State) (f : Swc → Swc) : (s.updSwc f).groups = s.groups := rfl
@[simp] theorem State.updSwc_rgns (s : State) (f : Swc → Swc) : (s.updSwc f).rgns = s.rgns := rfl
@[simp] theorem State.updSwc_wakes (s : State) (f : Swc → Swc) : (s.updSwc f).wakes = s.wakes := rfl
@[simp] theorem State.updSwc_taken (s : State) (f : Swc → Swc) : (s.updSwc f).taken = s.taken := rfl
@[simp] theorem State.updSwc_rcache (s : State) (f : Swc → Swc) : (s.updSwc f).rcache = s.rcache := rfl
@[simp] theorem State.updSwc_ctxs (s : State) (f : Swc → Swc) : (s.updSwc f).ctxs = s.ctxs := rfl
@[simp] theorem State.updSwc_flt (s : State) (f : Swc → Swc) : (s.updSwc f).flt = s.flt := rfl
@[simp] theorem State.updSwc_qps (s : State) (f : Swc → Swc) : (s.updSwc f).qps = s.qps := rfl
@[simp] theorem State.updSwc_keys (s : State) (f : Swc → Swc) : (s.updSwc f).keys = s.keys := rfl
@[simp] theorem State.updSwc_keyGen (s : State) (f : Swc → Swc) : (s.updSwc f).keyGen = s.keyGen := rfl
@[simp] theorem State.updSwc_cel (s : State) (f : Swc → Swc) : (s.updSwc f).cel = s.cel := rfl
@[simp] theorem State.updSwc_gly (s : State) (f : Swc → Swc) : (s.updSwc f).gly = s.gly := rfl
@[simp] theorem State.updSwc_home (s : State) (f : Swc → Swc) : (s.updSwc f).home = s.home := rfl
@[simp] theorem State.updSwc_repro (s : State) (f : Swc → Swc) : (s.updSwc f).repro = s.repro := rfl
@[simp] theorem State.updSwc_ckpt (s : State) (f : Swc → Swc) : (s.updSwc f).ckpt = s.ckpt := rfl
@[simp] theorem State.updSwc_map (s : State) (f : Swc → Swc) : (s.updSwc f).map = s.map := rfl
@[simp] theorem State.updSwc_srch (s : State) (f : Swc → Swc) : (s.updSwc f).srch = s.srch := rfl
@[simp] theorem State.updSwc_emb (s : State) (f : Swc → Swc) : (s.updSwc f).emb = s.emb := rfl
@[simp] theorem State.updSwc_evr (s : State) (f : Swc → Swc) : (s.updSwc f).evr = s.evr := rfl
@[simp] theorem State.updSwc_start (s : State) (f : Swc → Swc) : (s.updSwc f).start = s.start := rfl
@[simp] theorem State.updSwc_sec (s : State) (f : Swc → Swc) : (s.updSwc f).sec = s.sec := rfl
@[simp] theorem State.updSwc_eth (s : State) (f : Swc → Swc) : (s.updSwc f).eth = s.eth := rfl
@[simp] theorem State.updSwc_hlt (s : State) (f : Swc → Swc) : (s.updSwc f).hlt = s.hlt := rfl
@[simp] theorem State.updSwc_pwr (s : State) (f : Swc → Swc) : (s.updSwc f).pwr = s.pwr := rfl
@[simp] theorem State.updSwc_pins (s : State) (f : Swc → Swc) : (s.updSwc f).pins = s.pins := rfl
@[simp] theorem State.updSwc_tx (s : State) (f : Swc → Swc) : (s.updSwc f).tx = s.tx := rfl

/-! #### `updHlt` -/

@[simp] theorem State.updHlt_pending (s : State) (f : Health → Health) : (s.updHlt f).pending = s.pending := rfl
@[simp] theorem State.updHlt_count (s : State) (f : Health → Health) : (s.updHlt f).count = s.count := rfl
@[simp] theorem State.updHlt_nonce (s : State) (f : Health → Health) : (s.updHlt f).nonce = s.nonce := rfl
@[simp] theorem State.updHlt_part (s : State) (f : Health → Health) : (s.updHlt f).part = s.part := rfl
@[simp] theorem State.updHlt_ctl (s : State) (f : Health → Health) : (s.updHlt f).ctl = s.ctl := rfl
@[simp] theorem State.updHlt_larder (s : State) (f : Health → Health) : (s.updHlt f).larder = s.larder := rfl
@[simp] theorem State.updHlt_shelf (s : State) (f : Health → Health) : (s.updHlt f).shelf = s.shelf := rfl
@[simp] theorem State.updHlt_lpois (s : State) (f : Health → Health) : (s.updHlt f).lpois = s.lpois := rfl
@[simp] theorem State.updHlt_spois (s : State) (f : Health → Health) : (s.updHlt f).spois = s.spois := rfl
@[simp] theorem State.updHlt_flaws (s : State) (f : Health → Health) : (s.updHlt f).flaws = s.flaws := rfl
@[simp] theorem State.updHlt_lcount (s : State) (f : Health → Health) : (s.updHlt f).lcount = s.lcount := rfl
@[simp] theorem State.updHlt_pageOwner (s : State) (f : Health → Health) : (s.updHlt f).pageOwner = s.pageOwner := rfl
@[simp] theorem State.updHlt_units (s : State) (f : Health → Health) : (s.updHlt f).units = s.units := rfl
@[simp] theorem State.updHlt_groups (s : State) (f : Health → Health) : (s.updHlt f).groups = s.groups := rfl
@[simp] theorem State.updHlt_rgns (s : State) (f : Health → Health) : (s.updHlt f).rgns = s.rgns := rfl
@[simp] theorem State.updHlt_wakes (s : State) (f : Health → Health) : (s.updHlt f).wakes = s.wakes := rfl
@[simp] theorem State.updHlt_taken (s : State) (f : Health → Health) : (s.updHlt f).taken = s.taken := rfl
@[simp] theorem State.updHlt_rcache (s : State) (f : Health → Health) : (s.updHlt f).rcache = s.rcache := rfl
@[simp] theorem State.updHlt_ctxs (s : State) (f : Health → Health) : (s.updHlt f).ctxs = s.ctxs := rfl
@[simp] theorem State.updHlt_flt (s : State) (f : Health → Health) : (s.updHlt f).flt = s.flt := rfl
@[simp] theorem State.updHlt_qps (s : State) (f : Health → Health) : (s.updHlt f).qps = s.qps := rfl
@[simp] theorem State.updHlt_keys (s : State) (f : Health → Health) : (s.updHlt f).keys = s.keys := rfl
@[simp] theorem State.updHlt_keyGen (s : State) (f : Health → Health) : (s.updHlt f).keyGen = s.keyGen := rfl
@[simp] theorem State.updHlt_cel (s : State) (f : Health → Health) : (s.updHlt f).cel = s.cel := rfl
@[simp] theorem State.updHlt_gly (s : State) (f : Health → Health) : (s.updHlt f).gly = s.gly := rfl
@[simp] theorem State.updHlt_home (s : State) (f : Health → Health) : (s.updHlt f).home = s.home := rfl
@[simp] theorem State.updHlt_repro (s : State) (f : Health → Health) : (s.updHlt f).repro = s.repro := rfl
@[simp] theorem State.updHlt_ckpt (s : State) (f : Health → Health) : (s.updHlt f).ckpt = s.ckpt := rfl
@[simp] theorem State.updHlt_map (s : State) (f : Health → Health) : (s.updHlt f).map = s.map := rfl
@[simp] theorem State.updHlt_srch (s : State) (f : Health → Health) : (s.updHlt f).srch = s.srch := rfl
@[simp] theorem State.updHlt_emb (s : State) (f : Health → Health) : (s.updHlt f).emb = s.emb := rfl
@[simp] theorem State.updHlt_evr (s : State) (f : Health → Health) : (s.updHlt f).evr = s.evr := rfl
@[simp] theorem State.updHlt_start (s : State) (f : Health → Health) : (s.updHlt f).start = s.start := rfl
@[simp] theorem State.updHlt_sec (s : State) (f : Health → Health) : (s.updHlt f).sec = s.sec := rfl
@[simp] theorem State.updHlt_swc (s : State) (f : Health → Health) : (s.updHlt f).swc = s.swc := rfl
@[simp] theorem State.updHlt_eth (s : State) (f : Health → Health) : (s.updHlt f).eth = s.eth := rfl
@[simp] theorem State.updHlt_pwr (s : State) (f : Health → Health) : (s.updHlt f).pwr = s.pwr := rfl
@[simp] theorem State.updHlt_pins (s : State) (f : Health → Health) : (s.updHlt f).pins = s.pins := rfl
@[simp] theorem State.updHlt_tx (s : State) (f : Health → Health) : (s.updHlt f).tx = s.tx := rfl

/-! #### `updHunit` -/

@[simp] theorem State.updHunit_pending (s : State) (u : Nat) (f : HUnit → HUnit) : (s.updHunit u f).pending = s.pending := rfl
@[simp] theorem State.updHunit_count (s : State) (u : Nat) (f : HUnit → HUnit) : (s.updHunit u f).count = s.count := rfl
@[simp] theorem State.updHunit_nonce (s : State) (u : Nat) (f : HUnit → HUnit) : (s.updHunit u f).nonce = s.nonce := rfl
@[simp] theorem State.updHunit_part (s : State) (u : Nat) (f : HUnit → HUnit) : (s.updHunit u f).part = s.part := rfl
@[simp] theorem State.updHunit_ctl (s : State) (u : Nat) (f : HUnit → HUnit) : (s.updHunit u f).ctl = s.ctl := rfl
@[simp] theorem State.updHunit_larder (s : State) (u : Nat) (f : HUnit → HUnit) : (s.updHunit u f).larder = s.larder := rfl
@[simp] theorem State.updHunit_shelf (s : State) (u : Nat) (f : HUnit → HUnit) : (s.updHunit u f).shelf = s.shelf := rfl
@[simp] theorem State.updHunit_lpois (s : State) (u : Nat) (f : HUnit → HUnit) : (s.updHunit u f).lpois = s.lpois := rfl
@[simp] theorem State.updHunit_spois (s : State) (u : Nat) (f : HUnit → HUnit) : (s.updHunit u f).spois = s.spois := rfl
@[simp] theorem State.updHunit_flaws (s : State) (u : Nat) (f : HUnit → HUnit) : (s.updHunit u f).flaws = s.flaws := rfl
@[simp] theorem State.updHunit_lcount (s : State) (u : Nat) (f : HUnit → HUnit) : (s.updHunit u f).lcount = s.lcount := rfl
@[simp] theorem State.updHunit_pageOwner (s : State) (u : Nat) (f : HUnit → HUnit) : (s.updHunit u f).pageOwner = s.pageOwner := rfl
@[simp] theorem State.updHunit_units (s : State) (u : Nat) (f : HUnit → HUnit) : (s.updHunit u f).units = s.units := rfl
@[simp] theorem State.updHunit_groups (s : State) (u : Nat) (f : HUnit → HUnit) : (s.updHunit u f).groups = s.groups := rfl
@[simp] theorem State.updHunit_rgns (s : State) (u : Nat) (f : HUnit → HUnit) : (s.updHunit u f).rgns = s.rgns := rfl
@[simp] theorem State.updHunit_wakes (s : State) (u : Nat) (f : HUnit → HUnit) : (s.updHunit u f).wakes = s.wakes := rfl
@[simp] theorem State.updHunit_taken (s : State) (u : Nat) (f : HUnit → HUnit) : (s.updHunit u f).taken = s.taken := rfl
@[simp] theorem State.updHunit_rcache (s : State) (u : Nat) (f : HUnit → HUnit) : (s.updHunit u f).rcache = s.rcache := rfl
@[simp] theorem State.updHunit_ctxs (s : State) (u : Nat) (f : HUnit → HUnit) : (s.updHunit u f).ctxs = s.ctxs := rfl
@[simp] theorem State.updHunit_flt (s : State) (u : Nat) (f : HUnit → HUnit) : (s.updHunit u f).flt = s.flt := rfl
@[simp] theorem State.updHunit_qps (s : State) (u : Nat) (f : HUnit → HUnit) : (s.updHunit u f).qps = s.qps := rfl
@[simp] theorem State.updHunit_keys (s : State) (u : Nat) (f : HUnit → HUnit) : (s.updHunit u f).keys = s.keys := rfl
@[simp] theorem State.updHunit_keyGen (s : State) (u : Nat) (f : HUnit → HUnit) : (s.updHunit u f).keyGen = s.keyGen := rfl
@[simp] theorem State.updHunit_cel (s : State) (u : Nat) (f : HUnit → HUnit) : (s.updHunit u f).cel = s.cel := rfl
@[simp] theorem State.updHunit_gly (s : State) (u : Nat) (f : HUnit → HUnit) : (s.updHunit u f).gly = s.gly := rfl
@[simp] theorem State.updHunit_home (s : State) (u : Nat) (f : HUnit → HUnit) : (s.updHunit u f).home = s.home := rfl
@[simp] theorem State.updHunit_repro (s : State) (u : Nat) (f : HUnit → HUnit) : (s.updHunit u f).repro = s.repro := rfl
@[simp] theorem State.updHunit_ckpt (s : State) (u : Nat) (f : HUnit → HUnit) : (s.updHunit u f).ckpt = s.ckpt := rfl
@[simp] theorem State.updHunit_map (s : State) (u : Nat) (f : HUnit → HUnit) : (s.updHunit u f).map = s.map := rfl
@[simp] theorem State.updHunit_srch (s : State) (u : Nat) (f : HUnit → HUnit) : (s.updHunit u f).srch = s.srch := rfl
@[simp] theorem State.updHunit_emb (s : State) (u : Nat) (f : HUnit → HUnit) : (s.updHunit u f).emb = s.emb := rfl
@[simp] theorem State.updHunit_evr (s : State) (u : Nat) (f : HUnit → HUnit) : (s.updHunit u f).evr = s.evr := rfl
@[simp] theorem State.updHunit_start (s : State) (u : Nat) (f : HUnit → HUnit) : (s.updHunit u f).start = s.start := rfl
@[simp] theorem State.updHunit_sec (s : State) (u : Nat) (f : HUnit → HUnit) : (s.updHunit u f).sec = s.sec := rfl
@[simp] theorem State.updHunit_swc (s : State) (u : Nat) (f : HUnit → HUnit) : (s.updHunit u f).swc = s.swc := rfl
@[simp] theorem State.updHunit_eth (s : State) (u : Nat) (f : HUnit → HUnit) : (s.updHunit u f).eth = s.eth := rfl
@[simp] theorem State.updHunit_pwr (s : State) (u : Nat) (f : HUnit → HUnit) : (s.updHunit u f).pwr = s.pwr := rfl
@[simp] theorem State.updHunit_pins (s : State) (u : Nat) (f : HUnit → HUnit) : (s.updHunit u f).pins = s.pins := rfl
@[simp] theorem State.updHunit_tx (s : State) (u : Nat) (f : HUnit → HUnit) : (s.updHunit u f).tx = s.tx := rfl

/-! #### `updEvr` -/

@[simp] theorem State.updEvr_pending (s : State) (f : Evr → Evr) : (s.updEvr f).pending = s.pending := rfl
@[simp] theorem State.updEvr_count (s : State) (f : Evr → Evr) : (s.updEvr f).count = s.count := rfl
@[simp] theorem State.updEvr_nonce (s : State) (f : Evr → Evr) : (s.updEvr f).nonce = s.nonce := rfl
@[simp] theorem State.updEvr_part (s : State) (f : Evr → Evr) : (s.updEvr f).part = s.part := rfl
@[simp] theorem State.updEvr_ctl (s : State) (f : Evr → Evr) : (s.updEvr f).ctl = s.ctl := rfl
@[simp] theorem State.updEvr_larder (s : State) (f : Evr → Evr) : (s.updEvr f).larder = s.larder := rfl
@[simp] theorem State.updEvr_shelf (s : State) (f : Evr → Evr) : (s.updEvr f).shelf = s.shelf := rfl
@[simp] theorem State.updEvr_lpois (s : State) (f : Evr → Evr) : (s.updEvr f).lpois = s.lpois := rfl
@[simp] theorem State.updEvr_spois (s : State) (f : Evr → Evr) : (s.updEvr f).spois = s.spois := rfl
@[simp] theorem State.updEvr_flaws (s : State) (f : Evr → Evr) : (s.updEvr f).flaws = s.flaws := rfl
@[simp] theorem State.updEvr_lcount (s : State) (f : Evr → Evr) : (s.updEvr f).lcount = s.lcount := rfl
@[simp] theorem State.updEvr_pageOwner (s : State) (f : Evr → Evr) : (s.updEvr f).pageOwner = s.pageOwner := rfl
@[simp] theorem State.updEvr_units (s : State) (f : Evr → Evr) : (s.updEvr f).units = s.units := rfl
@[simp] theorem State.updEvr_groups (s : State) (f : Evr → Evr) : (s.updEvr f).groups = s.groups := rfl
@[simp] theorem State.updEvr_rgns (s : State) (f : Evr → Evr) : (s.updEvr f).rgns = s.rgns := rfl
@[simp] theorem State.updEvr_wakes (s : State) (f : Evr → Evr) : (s.updEvr f).wakes = s.wakes := rfl
@[simp] theorem State.updEvr_taken (s : State) (f : Evr → Evr) : (s.updEvr f).taken = s.taken := rfl
@[simp] theorem State.updEvr_rcache (s : State) (f : Evr → Evr) : (s.updEvr f).rcache = s.rcache := rfl
@[simp] theorem State.updEvr_ctxs (s : State) (f : Evr → Evr) : (s.updEvr f).ctxs = s.ctxs := rfl
@[simp] theorem State.updEvr_flt (s : State) (f : Evr → Evr) : (s.updEvr f).flt = s.flt := rfl
@[simp] theorem State.updEvr_qps (s : State) (f : Evr → Evr) : (s.updEvr f).qps = s.qps := rfl
@[simp] theorem State.updEvr_keys (s : State) (f : Evr → Evr) : (s.updEvr f).keys = s.keys := rfl
@[simp] theorem State.updEvr_keyGen (s : State) (f : Evr → Evr) : (s.updEvr f).keyGen = s.keyGen := rfl
@[simp] theorem State.updEvr_cel (s : State) (f : Evr → Evr) : (s.updEvr f).cel = s.cel := rfl
@[simp] theorem State.updEvr_gly (s : State) (f : Evr → Evr) : (s.updEvr f).gly = s.gly := rfl
@[simp] theorem State.updEvr_home (s : State) (f : Evr → Evr) : (s.updEvr f).home = s.home := rfl
@[simp] theorem State.updEvr_repro (s : State) (f : Evr → Evr) : (s.updEvr f).repro = s.repro := rfl
@[simp] theorem State.updEvr_ckpt (s : State) (f : Evr → Evr) : (s.updEvr f).ckpt = s.ckpt := rfl
@[simp] theorem State.updEvr_map (s : State) (f : Evr → Evr) : (s.updEvr f).map = s.map := rfl
@[simp] theorem State.updEvr_srch (s : State) (f : Evr → Evr) : (s.updEvr f).srch = s.srch := rfl
@[simp] theorem State.updEvr_emb (s : State) (f : Evr → Evr) : (s.updEvr f).emb = s.emb := rfl
@[simp] theorem State.updEvr_start (s : State) (f : Evr → Evr) : (s.updEvr f).start = s.start := rfl
@[simp] theorem State.updEvr_sec (s : State) (f : Evr → Evr) : (s.updEvr f).sec = s.sec := rfl
@[simp] theorem State.updEvr_swc (s : State) (f : Evr → Evr) : (s.updEvr f).swc = s.swc := rfl
@[simp] theorem State.updEvr_eth (s : State) (f : Evr → Evr) : (s.updEvr f).eth = s.eth := rfl
@[simp] theorem State.updEvr_hlt (s : State) (f : Evr → Evr) : (s.updEvr f).hlt = s.hlt := rfl
@[simp] theorem State.updEvr_pwr (s : State) (f : Evr → Evr) : (s.updEvr f).pwr = s.pwr := rfl
@[simp] theorem State.updEvr_pins (s : State) (f : Evr → Evr) : (s.updEvr f).pins = s.pins := rfl
@[simp] theorem State.updEvr_tx (s : State) (f : Evr → Evr) : (s.updEvr f).tx = s.tx := rfl

/-! #### `updSec` -/

@[simp] theorem State.updSec_pending (s : State) (f : Sec → Sec) : (s.updSec f).pending = s.pending := rfl
@[simp] theorem State.updSec_count (s : State) (f : Sec → Sec) : (s.updSec f).count = s.count := rfl
@[simp] theorem State.updSec_nonce (s : State) (f : Sec → Sec) : (s.updSec f).nonce = s.nonce := rfl
@[simp] theorem State.updSec_part (s : State) (f : Sec → Sec) : (s.updSec f).part = s.part := rfl
@[simp] theorem State.updSec_ctl (s : State) (f : Sec → Sec) : (s.updSec f).ctl = s.ctl := rfl
@[simp] theorem State.updSec_larder (s : State) (f : Sec → Sec) : (s.updSec f).larder = s.larder := rfl
@[simp] theorem State.updSec_shelf (s : State) (f : Sec → Sec) : (s.updSec f).shelf = s.shelf := rfl
@[simp] theorem State.updSec_lpois (s : State) (f : Sec → Sec) : (s.updSec f).lpois = s.lpois := rfl
@[simp] theorem State.updSec_spois (s : State) (f : Sec → Sec) : (s.updSec f).spois = s.spois := rfl
@[simp] theorem State.updSec_flaws (s : State) (f : Sec → Sec) : (s.updSec f).flaws = s.flaws := rfl
@[simp] theorem State.updSec_lcount (s : State) (f : Sec → Sec) : (s.updSec f).lcount = s.lcount := rfl
@[simp] theorem State.updSec_pageOwner (s : State) (f : Sec → Sec) : (s.updSec f).pageOwner = s.pageOwner := rfl
@[simp] theorem State.updSec_units (s : State) (f : Sec → Sec) : (s.updSec f).units = s.units := rfl
@[simp] theorem State.updSec_groups (s : State) (f : Sec → Sec) : (s.updSec f).groups = s.groups := rfl
@[simp] theorem State.updSec_rgns (s : State) (f : Sec → Sec) : (s.updSec f).rgns = s.rgns := rfl
@[simp] theorem State.updSec_wakes (s : State) (f : Sec → Sec) : (s.updSec f).wakes = s.wakes := rfl
@[simp] theorem State.updSec_taken (s : State) (f : Sec → Sec) : (s.updSec f).taken = s.taken := rfl
@[simp] theorem State.updSec_rcache (s : State) (f : Sec → Sec) : (s.updSec f).rcache = s.rcache := rfl
@[simp] theorem State.updSec_ctxs (s : State) (f : Sec → Sec) : (s.updSec f).ctxs = s.ctxs := rfl
@[simp] theorem State.updSec_flt (s : State) (f : Sec → Sec) : (s.updSec f).flt = s.flt := rfl
@[simp] theorem State.updSec_qps (s : State) (f : Sec → Sec) : (s.updSec f).qps = s.qps := rfl
@[simp] theorem State.updSec_keys (s : State) (f : Sec → Sec) : (s.updSec f).keys = s.keys := rfl
@[simp] theorem State.updSec_keyGen (s : State) (f : Sec → Sec) : (s.updSec f).keyGen = s.keyGen := rfl
@[simp] theorem State.updSec_cel (s : State) (f : Sec → Sec) : (s.updSec f).cel = s.cel := rfl
@[simp] theorem State.updSec_gly (s : State) (f : Sec → Sec) : (s.updSec f).gly = s.gly := rfl
@[simp] theorem State.updSec_home (s : State) (f : Sec → Sec) : (s.updSec f).home = s.home := rfl
@[simp] theorem State.updSec_repro (s : State) (f : Sec → Sec) : (s.updSec f).repro = s.repro := rfl
@[simp] theorem State.updSec_ckpt (s : State) (f : Sec → Sec) : (s.updSec f).ckpt = s.ckpt := rfl
@[simp] theorem State.updSec_map (s : State) (f : Sec → Sec) : (s.updSec f).map = s.map := rfl
@[simp] theorem State.updSec_srch (s : State) (f : Sec → Sec) : (s.updSec f).srch = s.srch := rfl
@[simp] theorem State.updSec_emb (s : State) (f : Sec → Sec) : (s.updSec f).emb = s.emb := rfl
@[simp] theorem State.updSec_evr (s : State) (f : Sec → Sec) : (s.updSec f).evr = s.evr := rfl
@[simp] theorem State.updSec_start (s : State) (f : Sec → Sec) : (s.updSec f).start = s.start := rfl
@[simp] theorem State.updSec_swc (s : State) (f : Sec → Sec) : (s.updSec f).swc = s.swc := rfl
@[simp] theorem State.updSec_eth (s : State) (f : Sec → Sec) : (s.updSec f).eth = s.eth := rfl
@[simp] theorem State.updSec_hlt (s : State) (f : Sec → Sec) : (s.updSec f).hlt = s.hlt := rfl
@[simp] theorem State.updSec_pwr (s : State) (f : Sec → Sec) : (s.updSec f).pwr = s.pwr := rfl
@[simp] theorem State.updSec_pins (s : State) (f : Sec → Sec) : (s.updSec f).pins = s.pins := rfl
@[simp] theorem State.updSec_tx (s : State) (f : Sec → Sec) : (s.updSec f).tx = s.tx := rfl

/-! #### `updStart` -/

@[simp] theorem State.updStart_pending (s : State) (f : StartSt → StartSt) : (s.updStart f).pending = s.pending := rfl
@[simp] theorem State.updStart_count (s : State) (f : StartSt → StartSt) : (s.updStart f).count = s.count := rfl
@[simp] theorem State.updStart_nonce (s : State) (f : StartSt → StartSt) : (s.updStart f).nonce = s.nonce := rfl
@[simp] theorem State.updStart_part (s : State) (f : StartSt → StartSt) : (s.updStart f).part = s.part := rfl
@[simp] theorem State.updStart_ctl (s : State) (f : StartSt → StartSt) : (s.updStart f).ctl = s.ctl := rfl
@[simp] theorem State.updStart_larder (s : State) (f : StartSt → StartSt) : (s.updStart f).larder = s.larder := rfl
@[simp] theorem State.updStart_shelf (s : State) (f : StartSt → StartSt) : (s.updStart f).shelf = s.shelf := rfl
@[simp] theorem State.updStart_lpois (s : State) (f : StartSt → StartSt) : (s.updStart f).lpois = s.lpois := rfl
@[simp] theorem State.updStart_spois (s : State) (f : StartSt → StartSt) : (s.updStart f).spois = s.spois := rfl
@[simp] theorem State.updStart_flaws (s : State) (f : StartSt → StartSt) : (s.updStart f).flaws = s.flaws := rfl
@[simp] theorem State.updStart_lcount (s : State) (f : StartSt → StartSt) : (s.updStart f).lcount = s.lcount := rfl
@[simp] theorem State.updStart_pageOwner (s : State) (f : StartSt → StartSt) : (s.updStart f).pageOwner = s.pageOwner := rfl
@[simp] theorem State.updStart_units (s : State) (f : StartSt → StartSt) : (s.updStart f).units = s.units := rfl
@[simp] theorem State.updStart_groups (s : State) (f : StartSt → StartSt) : (s.updStart f).groups = s.groups := rfl
@[simp] theorem State.updStart_rgns (s : State) (f : StartSt → StartSt) : (s.updStart f).rgns = s.rgns := rfl
@[simp] theorem State.updStart_wakes (s : State) (f : StartSt → StartSt) : (s.updStart f).wakes = s.wakes := rfl
@[simp] theorem State.updStart_taken (s : State) (f : StartSt → StartSt) : (s.updStart f).taken = s.taken := rfl
@[simp] theorem State.updStart_rcache (s : State) (f : StartSt → StartSt) : (s.updStart f).rcache = s.rcache := rfl
@[simp] theorem State.updStart_ctxs (s : State) (f : StartSt → StartSt) : (s.updStart f).ctxs = s.ctxs := rfl
@[simp] theorem State.updStart_flt (s : State) (f : StartSt → StartSt) : (s.updStart f).flt = s.flt := rfl
@[simp] theorem State.updStart_qps (s : State) (f : StartSt → StartSt) : (s.updStart f).qps = s.qps := rfl
@[simp] theorem State.updStart_keys (s : State) (f : StartSt → StartSt) : (s.updStart f).keys = s.keys := rfl
@[simp] theorem State.updStart_keyGen (s : State) (f : StartSt → StartSt) : (s.updStart f).keyGen = s.keyGen := rfl
@[simp] theorem State.updStart_cel (s : State) (f : StartSt → StartSt) : (s.updStart f).cel = s.cel := rfl
@[simp] theorem State.updStart_gly (s : State) (f : StartSt → StartSt) : (s.updStart f).gly = s.gly := rfl
@[simp] theorem State.updStart_home (s : State) (f : StartSt → StartSt) : (s.updStart f).home = s.home := rfl
@[simp] theorem State.updStart_repro (s : State) (f : StartSt → StartSt) : (s.updStart f).repro = s.repro := rfl
@[simp] theorem State.updStart_ckpt (s : State) (f : StartSt → StartSt) : (s.updStart f).ckpt = s.ckpt := rfl
@[simp] theorem State.updStart_map (s : State) (f : StartSt → StartSt) : (s.updStart f).map = s.map := rfl
@[simp] theorem State.updStart_srch (s : State) (f : StartSt → StartSt) : (s.updStart f).srch = s.srch := rfl
@[simp] theorem State.updStart_emb (s : State) (f : StartSt → StartSt) : (s.updStart f).emb = s.emb := rfl
@[simp] theorem State.updStart_evr (s : State) (f : StartSt → StartSt) : (s.updStart f).evr = s.evr := rfl
@[simp] theorem State.updStart_sec (s : State) (f : StartSt → StartSt) : (s.updStart f).sec = s.sec := rfl
@[simp] theorem State.updStart_swc (s : State) (f : StartSt → StartSt) : (s.updStart f).swc = s.swc := rfl
@[simp] theorem State.updStart_eth (s : State) (f : StartSt → StartSt) : (s.updStart f).eth = s.eth := rfl
@[simp] theorem State.updStart_hlt (s : State) (f : StartSt → StartSt) : (s.updStart f).hlt = s.hlt := rfl
@[simp] theorem State.updStart_pwr (s : State) (f : StartSt → StartSt) : (s.updStart f).pwr = s.pwr := rfl
@[simp] theorem State.updStart_pins (s : State) (f : StartSt → StartSt) : (s.updStart f).pins = s.pins := rfl
@[simp] theorem State.updStart_tx (s : State) (f : StartSt → StartSt) : (s.updStart f).tx = s.tx := rfl

end Sys2Proof.Machine
end

