-- ==== Sys2Proof/Laws/Flaws.lean ====
section
/-! SUPPORT. Reading a place where no error lies, and what an error that is found changes of its own place. -/

namespace Sys2Proof.Machine

/-- No error lies anywhere in a state whose list is empty. -/
theorem State.flawed_nil {s : State} (h : s.flaws = []) (p : Spot) : s.flawed p = false := by
  simp [State.flawed, State.flaw?, h]
theorem State.flaw?_of_clean {s : State} {p : Spot} (h : s.flawed p = false) : s.flaw? p = none := by
  simpa [State.flawed] using h
/-- A place without an error reads as it is. -/
theorem State.hardAt_clean {s : State} {p : Spot} (h : s.flawed p = false) : s.hardAt p = false := by
  simp [State.hardAt, State.flaw?_of_clean h]
/-- Reading it changes nothing. -/
theorem State.meet_clean {s : State} {p : Spot} (h : s.flawed p = false) (oper cause : Nat) : s.meet p oper cause = s := by
  simp [State.meet, State.flaw?_of_clean h]
theorem State.meetAll_clean {s : State} {ps : List Spot} (h : ∀ p ∈ ps, s.flawed p = false) (oper : Nat) :
    s.meetAll ps oper = s := by
  unfold State.meetAll
  induction ps with
  | nil => rfl
  | cons p ps ih =>
    rw [List.foldl_cons, State.meet_clean (h p List.mem_cons_self)]
    exact ih (fun q hq => h q (List.mem_cons_of_mem _ hq))
@[simp] theorem State.shelfMeet_none (s : State) (u off oper : Nat) : s.shelfMeet u off 0 oper = s := rfl
theorem State.shelfMeet_clean {s : State} {u off n : Nat} (h : ∀ p ∈ shelfSpots u off n, s.flawed p = false) (oper : Nat) :
    s.shelfMeet u off n oper = s := State.meetAll_clean h oper
theorem State.lineMeet_clean {s : State} {l : Nat} (h : s.flawed (.line l) = false) (oper : Nat) : s.lineMeet l oper = s :=
  State.meet_clean h oper 0
/-- Without errors the poison of a line and of an extent is what is marked. -/
theorem State.linePoison_clean {s : State} {key : Nat} (h : s.flawed (.line (key / 64)) = false) :
    s.linePoison key = s.lpois.contains (key / 64) := by
  simp [State.linePoison, State.hardAt_clean h]

/-! ### The fetch of an instruction (R76, R107, R136) -/

/-- What reading lines can change: the copies in region caches, access counts, a counter, and the number of free choices. -/
def State.LinesRead (s q : State) : Prop :=
  { q with rcache := s.rcache, lcount := s.lcount, ctl := s.ctl, nonce := s.nonce } = s

theorem State.LinesRead.refl (s : State) : s.LinesRead s := rfl
theorem State.LinesRead.trans {s q r : State} (h : s.LinesRead q) (k : q.LinesRead r) : s.LinesRead r := by
  unfold State.LinesRead at *; rw [← h, ← k]
theorem State.LinesRead.flaws {s q : State} (h : s.LinesRead q) : q.flaws = s.flaws := by
  have := congrArg State.flaws h; exact this
theorem State.LinesRead.flawed {s q : State} (h : s.LinesRead q) (p : Spot) : q.flawed p = s.flawed p := by
  have := congrArg (fun x : State => x.flawed p) h; exact this
theorem State.LinesRead.units {s q : State} (h : s.LinesRead q) : q.units = s.units := by
  have := congrArg State.units h; exact this
/-- Aliases are followed alike where the entries of contexts are alike. -/
theorem State.rootFrom_congr {s q : State} (h : ∀ c g, q.seg? c g = s.seg? c g) (f c g o : Nat) :
    q.rootFrom f c g o = s.rootFrom f c g o := by
  induction f generalizing c g o with
  | zero => rfl
  | succ f ih =>
    unfold State.rootFrom
    rw [h]
    split
    · rfl
    · split
      · rfl
      · exact ih _ _ _
theorem State.LinesRead.translate {s q : State} (h : s.LinesRead q) (c a : Nat) : q.translate c a = s.translate c a := by
  have hs : ∀ c g, q.seg? c g = s.seg? c g := fun c g => by
    have := congrArg (fun x : State => x.seg? c g) h; exact this
  have hp : ∀ k g v o, q.place k g v o = s.place k g v o := fun k g v o => by
    have := congrArg (fun x : State => x.place k g v o) h; exact this
  have hk : ∀ c, q.compOf c = s.compOf c := fun c => by
    have := congrArg (fun x : State => x.compOf c) h; exact this
  have hv : ∀ c g x, q.vintOf c g x = s.vintOf c g x := fun c g x => by
    have := congrArg (fun y : State => y.vintOf c g x) h; exact this
  unfold State.translate State.rootOf
  rw [State.rootFrom_congr hs]
  split
  · rfl
  · rw [hs]; split
    · rw [hp, hk, hv]
    · rfl
/-- A line of the home without an error. -/
theorem State.homeRead_clean {s : State} {key : Nat} (h : s.flawed (.line (key / 64)) = false) (oper : Nat) :
    s.LinesRead (s.homeRead key oper).2.2 := by
  show s.LinesRead ((s.countLine key).lineMeet (key / 64) oper)
  rw [State.lineMeet_clean (s := s.countLine key) h]; rfl
theorem State.cacheFill_clean {s : State} {key : Nat} (h : s.flawed (.line (key / 64)) = false) (rgn oper : Nat) :
    s.LinesRead (s.cacheFill rgn key oper).2.2 := by
  have hr := State.homeRead_clean h oper
  unfold State.cacheFill
  dsimp only
  split
  · split
    · exact hr.trans rfl
    · exact hr
  · exact hr.trans rfl
/-- A read through a region cache where no error lies. -/
theorem State.cacheRead_clean {s : State} {rgn key : Nat} (hl : s.flawed (.line (key / 64)) = false)
    (ht : s.flawed (.cacheTag rgn) = false) (hd : s.flawed (.cacheData rgn) = false) (coherent : Bool) (oper : Nat) :
    s.LinesRead (s.cacheRead rgn key coherent oper).2.2 := by
  unfold State.cacheRead
  dsimp only
  rw [State.hardAt_clean ht, State.meet_clean ht, State.hardAt_clean hd, State.meet_clean hd]
  split
  · exact State.homeRead_clean hl oper
  · simp only [Bool.false_eq_true, if_false]
    split
    · split
      · rfl
      · exact State.LinesRead.trans (q := s.tick) rfl (State.cacheFill_clean (s := s.tick) hl rgn oper)
    · exact State.cacheFill_clean hl rgn oper
/-- One line of a fetch. -/
theorem State.fetchLine_clean {x : Bool × State} {u c l : Nat}
    (hl : ∀ k, x.2.translate c (64 * l) = .larder k → x.2.flawed (.line (k / 64)) = false)
    (ht : x.2.flawed (.cacheTag (rgnOf u)) = false) (hd : x.2.flawed (.cacheData (rgnOf u)) = false) :
    x.2.LinesRead (State.fetchLine x u c (64 * l)).2 := by
  unfold State.fetchLine
  split
  · next k hk =>
    have h := State.cacheRead_clean (hl k hk) ht hd (x.2.inCoherent c (64 * l)) 1
    dsimp only
    split
    · exact h.trans rfl
    · exact h
  · exact State.LinesRead.refl _
  · exact State.LinesRead.refl _
theorem State.fetchLines_clean {u c : Nat} (ls : List Nat) (x : Bool × State)
    (hl : ∀ l ∈ ls, ∀ k, x.2.translate c (64 * l) = .larder k → x.2.flawed (.line (k / 64)) = false)
    (ht : x.2.flawed (.cacheTag (rgnOf u)) = false) (hd : x.2.flawed (.cacheData (rgnOf u)) = false) :
    x.2.LinesRead (ls.foldl (fun x l => State.fetchLine x u c (64 * l)) x).2 := by
  induction ls generalizing x with
  | nil => exact State.LinesRead.refl _
  | cons l ls ih =>
    have h1 := State.fetchLine_clean (hl l List.mem_cons_self) ht hd
    rw [List.foldl_cons]
    exact h1.trans (ih _ (fun m hm k hk => by
      rw [h1.flawed]; exact hl m (List.mem_cons_of_mem _ hm) k (by rw [← h1.translate]; exact hk))
      (by rw [h1.flawed]; exact ht) (by rw [h1.flawed]; exact hd))
theorem State.issueFlaw_false {s : State} {u c pc len : Nat} (h : s.issueFlaw u c pc len = false) :
    s.flawed (.unitCtrl u) = false ∧ s.flawed (.cacheTag (rgnOf u)) = false ∧ s.flawed (.cacheData (rgnOf u)) = false ∧
    ∀ l ∈ linesOf pc len, ∀ k, s.translate c (64 * l) = .larder k → s.flawed (.line (k / 64)) = false := by
  unfold State.issueFlaw at h
  simp only [Bool.or_eq_false_iff, List.any_eq_false, Bool.not_eq_true] at h
  refine ⟨h.1.1.1, h.1.1.2, h.1.2, fun l hl k hk => ?_⟩
  have := h.2 l hl
  rw [hk] at this
  exact this
theorem State.celDrop_cel (s : State) (e q : Nat) : { s.celDrop e q with cel := s.cel } = s := by
  unfold State.celDrop; dsimp only; split
  · split <;> rfl
  · rfl
/-- Sectors that are let go change the Cellar alone. -/
theorem State.sectorsDrop_cel (s : State) (c a n : Nat) : { s.sectorsDrop c a n with cel := s.cel } = s := by
  unfold State.sectorsDrop
  generalize s.extentSectors c a n = l
  induction l generalizing s with
  | nil => rfl
  | cons p l ih =>
    have h1 := State.celDrop_cel s p.1 p.2
    have h2 := ih (s.celDrop p.1 p.2)
    have : { (List.foldl (fun s q => s.celDrop q.1 q.2) (s.celDrop p.1 p.2) l) with cel := s.cel } =
        { { (List.foldl (fun s q => s.celDrop q.1 q.2) (s.celDrop p.1 p.2) l) with cel := (s.celDrop p.1 p.2).cel } with cel := s.cel } := rfl
    rw [List.foldl_cons, this, h2, h1]
/-- A thread once its fetch is over: what it fetched from afar is forgotten. -/
def Thread.afterFetch (th : Thread) (far : Bool) : Thread := if far then { th with fetch := none } else th
/-- What the fetch of an instruction leaves of the units: the thread's own record of it alone. -/
theorem State.atIssue_units {s : State} {u t len : Nat}
    (h : s.issueFlaw u (s.thr u t).ctx (s.thr u t).pc.toNat len = false) :
    (s.atIssue u t len).flaws = s.flaws ∧
    (s.atIssue u t len).units = if s.fetchFar (s.thr u t).ctx (s.thr u t).pc.toNat len then
      (s.updThr u t (fun th => { th with fetch := none })).units else s.units := by
  have hf := State.issueFlaw_false h
  have hr := State.fetchLines_clean (u := u) (c := (s.thr u t).ctx) (linesOf (s.thr u t).pc.toNat len)
    (((s.thr u t).fetch.map (·.bad)).getD false, s) hf.2.2.2 hf.2.1 hf.2.2.1
  unfold State.atIssue State.fetched
  dsimp only
  split
  · generalize (List.foldl (fun x l => State.fetchLine x u (s.thr u t).ctx (64 * l))
      (((s.thr u t).fetch.map (·.bad)).getD false, s) (linesOf (s.thr u t).pc.toNat len)).2 = q at hr
    have hd := q.sectorsDrop_cel (s.thr u t).ctx (s.thr u t).pc.toNat len
    have hu : (q.sectorsDrop (s.thr u t).ctx (s.thr u t).pc.toNat len).units = s.units := by
      have := congrArg State.units hd; exact this.trans hr.units
    have hw : (q.sectorsDrop (s.thr u t).ctx (s.thr u t).pc.toNat len).flaws = s.flaws := by
      have := congrArg State.flaws hd; exact this.trans hr.flaws
    generalize q.sectorsDrop (s.thr u t).ctx (s.thr u t).pc.toNat len = r at hu hw
    refine ⟨hw, ?_⟩
    simp only [State.updThr, State.setThr, State.updUnt, State.setUnt, State.thr, State.unt, hu]
  · exact ⟨hr.flaws, hr.units⟩
/-- An empty list of errors makes an issue clean. -/
theorem State.issueFlaw_nil {s : State} (h : s.flaws = []) (u c pc len : Nat) : s.issueFlaw u c pc len = false := by
  unfold State.issueFlaw
  simp only [State.flawed_nil h, Bool.false_or, List.any_eq_false]
  intro l _
  split <;> simp
/-- Mending changes the errors alone. -/
theorem State.mend_eq (s : State) (p : Spot → Bool) : { s.mend p with flaws := s.flaws } = s := rfl
/-- Nothing is mended where nothing is wrong. -/
theorem State.mend_nil {s : State} (h : s.flaws = []) (p : Spot → Bool) : s.mend p = s := by
  unfold State.mend; rw [h]; show ({ s with flaws := [] } : State) = s; rw [← h]

end Sys2Proof.Machine
end

