-- ==== Sys2Proof/Laws/Links.lean ====
section
/-! SUPPORT. What the operations on links leave alone, and what a link reads as after a change. -/

namespace Sys2Proof.Machine

/-- Changing a link changes the links alone. -/
theorem State.updLink_frame (s : State) (l : Nat) (f : Link → Link) :
    { s.updLink l f with gly := { (s.updLink l f).gly with links := s.gly.links } } = s := rfl
@[simp] theorem State.link_updLink (s : State) (l : Nat) (f : Link → Link) : (s.updLink l f).link l = f (s.link l) := by
  simp [State.link, State.updLink]
theorem State.link_updLink_ne (s : State) {l m : Nat} (h : m ≠ l) (f : Link → Link) : (s.updLink l f).link m = s.link m := by
  simp [State.link, State.updLink, Assoc.getD_put, h]
@[simp] theorem State.link_send (s : State) (x : Tx) (l : Nat) : (s.send x).link l = s.link l := rfl
@[simp] theorem State.link_flitOut (s : State) (n l : Nat) (f : Nat × Nat) : (s.flitOut n f).link l = s.link l := rfl
@[simp] theorem State.tx_flitOut (s : State) (n : Nat) (f : Nat × Nat) :
    (s.flitOut n f).tx = s.tx ++ [.flit n f.1 f.2 (flitCrc f.1 f.2)] := rfl
/-- Flits that go out in a row are on the wire in that order, and nothing else changes. -/
theorem State.flitsOut (n : Nat) (fs : List (Nat × Nat)) (s : State) :
    fs.foldl (fun s f => s.flitOut n f) s =
      { s with tx := s.tx ++ fs.map (fun f => .flit n f.1 f.2 (flitCrc f.1 f.2)) } := by
  induction fs generalizing s with
  | nil => simp
  | cons f fs ih =>
    simp only [List.foldl_cons, ih, List.map_cons, State.tx_flitOut, List.append_assoc, List.singleton_append]
    rfl
/-- A link's keys after a change of them. -/
@[simp] theorem State.linkKey_updKeys (s : State) (l : Nat) (f : LinkKey → LinkKey) :
    (s.updKeys l f).linkKey l = f (s.linkKey l) := by
  simp [State.linkKey, State.updKeys]
theorem State.linkKey_updKeys_ne (s : State) {l m : Nat} (h : m ≠ l) (f : LinkKey → LinkKey) :
    (s.updKeys l f).linkKey m = s.linkKey m := by
  simp [State.linkKey, State.updKeys, Assoc.getD_put, h]
@[simp] theorem State.link_updKeys (s : State) (l m : Nat) (f : LinkKey → LinkKey) : (s.updKeys l f).link m = s.link m := rfl

end Sys2Proof.Machine
end

