-- ==== Sys2Proof/Laws/Ops.lean ====
section
/-! SUPPORT. What each shared operation can do, said once: an event, a command on a unit, the issue of an instruction. -/

namespace Sys2Proof.Machine

/-! ### Events (R442 to R456) -/

/-- Two states that differ at most in the control registers, the recorder, the queue pairs and what the block has sent. -/
def State.SameBut (s r : State) : Prop := { r with ctl := s.ctl, evr := s.evr, qps := s.qps, tx := s.tx } = s

theorem State.SameBut.eq {s r : State} (h : s.SameBut r) :
    { r with ctl := s.ctl, evr := s.evr, qps := s.qps, tx := s.tx } = s := h
theorem State.SameBut.refl (s : State) : s.SameBut s := rfl
theorem State.SameBut.trans {s r q : State} (h : s.SameBut r) (k : r.SameBut q) : s.SameBut q := by
  unfold State.SameBut at *; rw [← h, ← k]
theorem State.sameBut_wr (s : State) (d : RegDef) (i j v : Nat) : s.SameBut (s.wr d i j v) := rfl
theorem State.sameBut_inc (s : State) (d : RegDef) (hi lo i j n : Nat) : s.SameBut (s.inc d hi lo i j n) := rfl
theorem State.sameBut_evr (s : State) (e : Evr) : s.SameBut { s with evr := e } := rfl
theorem State.sameBut_setLeaf (s : State) (code sev : Nat) : s.SameBut (s.setLeaf code sev) := by
  unfold State.setLeaf; split <;> rfl
theorem State.sameBut_qpSend {s r : State} {qp comp : Nat} {kind : QpKind} {use : QpUse} {data : List Byte}
    (h : s.qpSend qp comp kind use data = some r) : s.SameBut r := by
  unfold State.qpSend at h
  split at h
  · cases h
  · split at h
    · cases h
    · cases h; rfl
theorem State.sameBut_evrMessage (s : State) (code sev rec : Nat) : s.SameBut (s.evrMessage code sev rec) := by
  unfold State.evrMessage
  dsimp only
  split
  · rfl
  · split
    · next s' h =>
      split at h
      · exact State.SameBut.trans (State.sameBut_qpSend h) rfl
      · cases h
    · exact s.sameBut_inc _ _ _ _ _ _
theorem State.sameBut_store (s : State) (rec code sev : Nat) (b : Bool) :
    s.SameBut (((s.evrStore rec b).setLeaf code sev).evrMessage code sev rec) :=
  (State.SameBut.trans (s := s) (r := s.evrStore rec b) rfl (State.sameBut_setLeaf _ _ _)).trans
    (State.sameBut_evrMessage _ _ _ _)
theorem State.sameBut_record (s : State) (e : Ev) : s.SameBut (s.record e) := by
  unfold State.record
  dsimp only
  have h := State.sameBut_store { s with evr := { s.evr with supp := s.evr.supp.del e.code } }
    (s.evRecord e (min (s.evr.supp.getD e.code (0, 0)).1 0xFFFFFFFF)) e.code e.sev true
  have h' := State.SameBut.trans (State.sameBut_evr s _) h
  split
  · exact h'.trans (State.sameBut_store _ _ _ _ _)
  · exact h'
theorem State.sameBut_takeToken {s r : State} {e : Ev} (h : s.takeToken e = some r) : s.SameBut r := by
  unfold State.takeToken at h
  dsimp only at h
  split at h
  · cases h; rfl
  · split at h
    · cases h; rfl
    · split at h
      · cases h; rfl
      · cases h
/-- An event changes the recorder, the interrupt tree and its own message, and nothing else. -/
theorem State.sameBut_raise (s : State) (e : Ev) : s.SameBut (s.raise e) := by
  unfold State.raise
  split
  · next s' h => exact (State.sameBut_takeToken h).trans (State.sameBut_record _ _)
  · exact ((s.sameBut_evr _).trans (State.sameBut_inc _ _ _ _ _ _ _)).trans (State.sameBut_setLeaf _ _ _)

@[simp] theorem State.raise_pending (s : State) (e : Ev) : (s.raise e).pending = s.pending := by
  have h := congrArg State.pending (s.sameBut_raise e).eq; exact h
@[simp] theorem State.raise_count (s : State) (e : Ev) : (s.raise e).count = s.count := by
  have h := congrArg State.count (s.sameBut_raise e).eq; exact h
@[simp] theorem State.raise_nonce (s : State) (e : Ev) : (s.raise e).nonce = s.nonce := by
  have h := congrArg State.nonce (s.sameBut_raise e).eq; exact h
@[simp] theorem State.raise_part (s : State) (e : Ev) : (s.raise e).part = s.part := by
  have h := congrArg State.part (s.sameBut_raise e).eq; exact h
@[simp] theorem State.raise_larder (s : State) (e : Ev) : (s.raise e).larder = s.larder := by
  have h := congrArg State.larder (s.sameBut_raise e).eq; exact h
@[simp] theorem State.raise_shelf (s : State) (e : Ev) : (s.raise e).shelf = s.shelf := by
  have h := congrArg State.shelf (s.sameBut_raise e).eq; exact h
@[simp] theorem State.raise_lpois (s : State) (e : Ev) : (s.raise e).lpois = s.lpois := by
  have h := congrArg State.lpois (s.sameBut_raise e).eq; exact h
@[simp] theorem State.raise_spois (s : State) (e : Ev) : (s.raise e).spois = s.spois := by
  have h := congrArg State.spois (s.sameBut_raise e).eq; exact h
@[simp] theorem State.raise_flaws (s : State) (e : Ev) : (s.raise e).flaws = s.flaws := by
  have h := congrArg State.flaws (s.sameBut_raise e).eq; exact h
@[simp] theorem State.raise_lcount (s : State) (e : Ev) : (s.raise e).lcount = s.lcount := by
  have h := congrArg State.lcount (s.sameBut_raise e).eq; exact h
@[simp] theorem State.raise_pageOwner (s : State) (e : Ev) : (s.raise e).pageOwner = s.pageOwner := by
  have h := congrArg State.pageOwner (s.sameBut_raise e).eq; exact h
@[simp] theorem State.raise_units (s : State) (e : Ev) : (s.raise e).units = s.units := by
  have h := congrArg State.units (s.sameBut_raise e).eq; exact h
@[simp] theorem State.raise_groups (s : State) (e : Ev) : (s.raise e).groups = s.groups := by
  have h := congrArg State.groups (s.sameBut_raise e).eq; exact h
@[simp] theorem State.raise_rgns (s : State) (e : Ev) : (s.raise e).rgns = s.rgns := by
  have h := congrArg State.rgns (s.sameBut_raise e).eq; exact h
@[simp] theorem State.raise_wakes (s : State) (e : Ev) : (s.raise e).wakes = s.wakes := by
  have h := congrArg State.wakes (s.sameBut_raise e).eq; exact h
@[simp] theorem State.raise_taken (s : State) (e : Ev) : (s.raise e).taken = s.taken := by
  have h := congrArg State.taken (s.sameBut_raise e).eq; exact h
@[simp] theorem State.raise_rcache (s : State) (e : Ev) : (s.raise e).rcache = s.rcache := by
  have h := congrArg State.rcache (s.sameBut_raise e).eq; exact h
@[simp] theorem State.raise_ctxs (s : State) (e : Ev) : (s.raise e).ctxs = s.ctxs := by
  have h := congrArg State.ctxs (s.sameBut_raise e).eq; exact h
@[simp] theorem State.raise_flt (s : State) (e : Ev) : (s.raise e).flt = s.flt := by
  have h := congrArg State.flt (s.sameBut_raise e).eq; exact h
@[simp] theorem State.raise_keys (s : State) (e : Ev) : (s.raise e).keys = s.keys := by
  have h := congrArg State.keys (s.sameBut_raise e).eq; exact h
@[simp] theorem State.raise_keyGen (s : State) (e : Ev) : (s.raise e).keyGen = s.keyGen := by
  have h := congrArg State.keyGen (s.sameBut_raise e).eq; exact h
@[simp] theorem State.raise_cel (s : State) (e : Ev) : (s.raise e).cel = s.cel := by
  have h := congrArg State.cel (s.sameBut_raise e).eq; exact h
@[simp] theorem State.raise_gly (s : State) (e : Ev) : (s.raise e).gly = s.gly := by
  have h := congrArg State.gly (s.sameBut_raise e).eq; exact h
@[simp] theorem State.raise_home (s : State) (e : Ev) : (s.raise e).home = s.home := by
  have h := congrArg State.home (s.sameBut_raise e).eq; exact h
@[simp] theorem State.raise_repro (s : State) (e : Ev) : (s.raise e).repro = s.repro := by
  have h := congrArg State.repro (s.sameBut_raise e).eq; exact h
@[simp] theorem State.raise_ckpt (s : State) (e : Ev) : (s.raise e).ckpt = s.ckpt := by
  have h := congrArg State.ckpt (s.sameBut_raise e).eq; exact h
@[simp] theorem State.raise_map (s : State) (e : Ev) : (s.raise e).map = s.map := by
  have h := congrArg State.map (s.sameBut_raise e).eq; exact h
@[simp] theorem State.raise_srch (s : State) (e : Ev) : (s.raise e).srch = s.srch := by
  have h := congrArg State.srch (s.sameBut_raise e).eq; exact h
@[simp] theorem State.raise_emb (s : State) (e : Ev) : (s.raise e).emb = s.emb := by
  have h := congrArg State.emb (s.sameBut_raise e).eq; exact h
@[simp] theorem State.raise_start (s : State) (e : Ev) : (s.raise e).start = s.start := by
  have h := congrArg State.start (s.sameBut_raise e).eq; exact h
@[simp] theorem State.raise_sec (s : State) (e : Ev) : (s.raise e).sec = s.sec := by
  have h := congrArg State.sec (s.sameBut_raise e).eq; exact h
@[simp] theorem State.raise_swc (s : State) (e : Ev) : (s.raise e).swc = s.swc := by
  have h := congrArg State.swc (s.sameBut_raise e).eq; exact h
@[simp] theorem State.raise_eth (s : State) (e : Ev) : (s.raise e).eth = s.eth := by
  have h := congrArg State.eth (s.sameBut_raise e).eq; exact h
@[simp] theorem State.raise_hlt (s : State) (e : Ev) : (s.raise e).hlt = s.hlt := by
  have h := congrArg State.hlt (s.sameBut_raise e).eq; exact h
@[simp] theorem State.raise_pwr (s : State) (e : Ev) : (s.raise e).pwr = s.pwr := by
  have h := congrArg State.pwr (s.sameBut_raise e).eq; exact h
@[simp] theorem State.raise_pins (s : State) (e : Ev) : (s.raise e).pins = s.pins := by
  have h := congrArg State.pins (s.sameBut_raise e).eq; exact h

/-! ### Commands -/

/-- A package that is down ignores a command; one that runs takes the state it leads to. -/
theorem State.live_up {s s' : State} (h : s.dead = false) : s.live s' = .next s' := by simp [State.live, h]
theorem State.live_down {s s' : State} (h : s.dead = true) : s.live s' = .next s := by simp [State.live, h]
theorem State.onUnit_up {s s' : State} {u : Nat} (h : s.dead = false) (hu : s.unitOk u = true) : s.onUnit u s' = .next s' := by
  simp [State.onUnit, hu, State.live_up h]
theorem State.onUnit_absent {s s' : State} {u : Nat} (hu : s.unitOk u = false) : s.onUnit u s' = .fault .noSuchUnit := by
  simp [State.onUnit, hu]

/-! ### Issue (R38 to R42, R106, R107) -/

/-- The failing checks of an instruction whose sources hold no mark. -/
theorem Issue.failing_sound {i : Issue} {th : Thread} (h : ∀ r ∈ i.srcs, th.mark? r = none) :
    i.failing th = (if i.bad then [(0x01, w64 i.w0)] else []) ++ i.checks := by
  have : i.srcs.filterMap (fun r => (th.mark? r).map (fun m => (m.code, m.detail))) = [] := by
    rw [List.filterMap_eq_nil_iff]; intro r hr; simp [h r hr]
  simp [Issue.failing, this]

/-- A thread whose record of a fetch is cleared, read back. -/
theorem Unt.thr_fetched (x : Unt) (t : Nat) :
    (x.setThr t { x.thr t with fetch := none }).thr t = { x.thr t with fetch := none } := by
  rw [Unt.thr_setThr]
  split
  · rfl
  · next h =>
    have : x.thr t = Thread.reset := by
      unfold Unt.thr
      rw [List.getD_eq_getElem?_getD, List.getElem?_eq_none (by simp; omega)]; rfl
    rw [this]; rfl
/-- The unit from which an instruction issues, once its fetch is over. -/
theorem State.atIssue_unt {s : State} {u t len : Nat}
    (h : s.issueFlaw u (s.thr u t).ctx (s.thr u t).pc.toNat len = false) :
    (s.atIssue u t len).unt u = s.unt u ∨
    (s.atIssue u t len).unt u = (s.unt u).setThr t { (s.unt u).thr t with fetch := none } := by
  have hu := (State.atIssue_units h).2
  split at hu
  · right
    have : (s.atIssue u t len).unt u = (s.updThr u t (fun th => { th with fetch := none })).unt u := by
      unfold State.unt; rw [hu]
    rw [this]
    exact State.unt_updUnt_same _ _ _
  · left; unfold State.unt; rw [hu]
/-- A thread that issues is Ready, its needs are there and its sources sound, once its fetch is over. -/
theorem State.atIssue_ready {s : State} {u t len : Nat} {w : Want} {srcs : List Reg} (h : s.Issues u t len w srcs) :
    ((s.atIssue u t len).unt u).wantOk t w = true ∧ (((s.atIssue u t len).unt u).thr t).st = .ready ∧
    (∀ r ∈ srcs, (((s.atIssue u t len).unt u).thr t).mark? r = none) ∧
    (s.atIssue u t len).flawed (.unitCtrl u) = false := by
  have hr : ((s.unt u).thr t).st = .ready := by
    have := h.chosen
    unfold State.selected at this
    simp only [Bool.and_eq_true] at this
    have h1 := this.1
    split at h1
    · exact eq_of_beq h1
    · have h2 := List.find?_some (eq_of_beq h1)
      exact eq_of_beq h2
  have hc : (s.atIssue u t len).flawed (.unitCtrl u) = false := by
    have := (State.issueFlaw_false h.whole).1
    unfold State.flawed State.flaw? at this ⊢
    rw [(State.atIssue_units h.whole).1]; exact this
  rcases State.atIssue_unt h.whole with e | e
  · rw [e]; exact ⟨h.free, hr, h.sound, hc⟩
  · rw [e, Unt.thr_fetched]
    refine ⟨?_, hr, h.sound, hc⟩
    have := h.free
    unfold Unt.wantOk at this ⊢
    unfold Unt.busyReg at this ⊢
    simp only [Unt.thr_fetched]
    exact this
/-- An instruction that issues, meets its field rules and checks and stalls on nothing has its effect; the Shelf extent that
it reads at issue is read. -/
theorem State.issue_reads {s : State} {u t : Nat} {i : Issue} {eff : State → State} (h : s.Issues u t i.len i.want i.srcs)
    (hb : i.bad = false) (hc : i.checks = []) (hs : i.stall = []) :
    s.issue u t i eff = (eff ((s.atIssue u t i.len).advance u t i)).shelfMeet u i.rd.1 i.rd.2 2 := by
  have r := State.atIssue_ready h
  have hf : i.failing (((s.atIssue u t i.len).unt u).thr t) = [] := by rw [Issue.failing_sound r.2.2.1, hb, hc]; rfl
  have far : (s.fetchFar (s.thr u t).ctx (s.thr u t).pc.toNat i.len && !s.fetchCame u t (s.thr u t).ctx (s.thr u t).pc.toNat i.len) = false := by
    cases hh : s.fetchFar (s.thr u t).ctx (s.thr u t).pc.toNat i.len
    · rfl
    · rw [h.came hh]; rfl
  unfold State.issue
  simp only [h.chosen, h.fetch, h.here, far, h.clean, Bool.not_true, Bool.false_eq_true, if_false]
  unfold State.issueNow
  simp only [r.2.1, r.1, hf, hs, r.2.2.2, lowestCheck, sortBy, List.head?_nil, ne_eq, not_true_eq_false, Bool.not_true,
    Bool.false_eq_true, if_false]
/-- One that reads no Shelf at issue has its effect and no other. -/
theorem State.issue_runs {s : State} {u t : Nat} {i : Issue} {eff : State → State} (h : s.Issues u t i.len i.want i.srcs)
    (hb : i.bad = false) (hc : i.checks = []) (hs : i.stall = []) (hr : i.rd.2 = 0) :
    s.issue u t i eff = eff ((s.atIssue u t i.len).advance u t i) := by
  rw [State.issue_reads h hb hc hs, hr]; rfl

/-- One that breaks a field rule raises ILLEGAL with its first word, when no other check has a lower code. -/
theorem State.issue_illegal {s : State} {u t : Nat} {i : Issue} {eff : State → State} (h : s.Issues u t i.len i.want i.srcs)
    (hb : i.bad = true) (hc : i.checks = []) : s.issue u t i eff = (s.atIssue u t i.len).takeExc u t 0x01 (w64 i.w0) := by
  have r := State.atIssue_ready h
  have hf : i.failing (((s.atIssue u t i.len).unt u).thr t) = [(0x01, w64 i.w0)] := by
    rw [Issue.failing_sound r.2.2.1, hb, hc]; rfl
  have far : (s.fetchFar (s.thr u t).ctx (s.thr u t).pc.toNat i.len && !s.fetchCame u t (s.thr u t).ctx (s.thr u t).pc.toNat i.len) = false := by
    cases hh : s.fetchFar (s.thr u t).ctx (s.thr u t).pc.toNat i.len
    · rfl
    · rw [h.came hh]; rfl
  unfold State.issue
  simp only [h.chosen, h.fetch, h.here, far, h.clean, Bool.not_true, Bool.false_eq_true, if_false]
  unfold State.issueNow
  simp only [r.2.1, r.1, hf, lowestCheck, sortBy, insertBy, List.head?_cons, hc, List.any_nil, false_and, ne_eq,
    not_true_eq_false, Bool.not_true, Bool.false_eq_true, if_false]

/-- A thread that is not selected does not issue. -/
theorem State.issue_waits {s : State} {u t : Nat} {i : Issue} {eff : State → State} (h : s.selected u t = false) :
    s.issue u t i eff = s := by
  simp [State.issue, h]

/-! ### The step -/

/-- A command at the front of the queue is what the step runs. -/
theorem step_front (c : Instr) (l : List Instr) (s : State) (h : s.pending = c :: l) : step s = exec c { s with pending := l } := by
  simp [step, h]

end Sys2Proof.Machine
end

