-- ==== Sys2Proof/WellFormed.lean ====
section
/-! DEFINITION. What a sender can send: the bounds that the manual gives the operands of variable size (bodies, lists and
lengths).  An operand of fixed width is always within its bounds. -/

namespace Sys2Proof

/-- Whether a command's operands have the sizes that the manual gives them. -/
def Instr.wellFormed : Instr → Bool
  | .commandWindowWrite _ _ _ descs => decide (descs.length ≤ 2 ^ 25)  -- R358
  | .readData _ _ _ _ body => decide (body.length % 4096 = 0 ∧ body.length ≤ 256 * 4096)  -- R168
  | .searchForward _ _ _ nLists queries => decide (nLists ≤ 1048576 ∧ queries.length ≤ 65536)  -- R217, R226
  | .embUpdate x => decide (x.data.length ≤ 65536)  -- R252
  | .shardCountReport _ _ _ _ rows => decide (rows.length ≤ 1024)  -- R264
  | .migrationOffer _ _ _ _ rows => decide (rows.length ≤ 16384)  -- R264
  | .migrationReady _ _ _ _ slots => decide (slots.length ≤ 16384)  -- R264
  | .transfer _ _ _ _ rows => decide (rows.length ≤ 16384)  -- R264
  | .forwardedRequest x _ => decide (x.data.length ≤ 65536)  -- R252
  | .intakeFrame _ _ body => decide (body.length ≤ 2 ^ 31)  -- R358
  | .wr _ _ body => decide (body.length ≤ 4096)  -- Table 11-6
  | .pwr _ _ body => decide (body.length = 72)  -- Table 11-6
  | .wrShelf _ _ body => decide (body.length ≤ 4096)  -- Table 11-6
  | .atomic _ _ aop body => decide (aop.toNat < 16 ∧ body.length ≤ 16)  -- Table 11-6
  | .giveDirty _ _ body => decide (body.length = 64)  -- Table 11-6
  | .data _ _ body => decide (body.length ≤ 4096)  -- Table 11-6
  | .cellAdmit _ _ _ _ first _ => decide (first.getD 0 ≤ 9216)  -- R352
  | .frameAdmit _ _ _ _ bytes _ _ => decide (64 ≤ bytes ∧ bytes ≤ 9216)  -- R352
  | .send _ _ _ _ body => decide (body.length ≤ 2 ^ 31)  -- R358
  | .rdmaWrite _ _ _ _ _ body => decide (body.length ≤ 2 ^ 31)  -- R358
  | .rdmaRead _ _ _ _ _ len => decide (len ≤ 2 ^ 31)  -- R358
  | .mapHeartbeat _ _ _ table => decide (table.length ≤ 1024)  -- R387
  | .add .. | .sub .. | .and_ .. | .or_ .. | .xor_ .. | .sll .. | .srl .. | .sra .. | .slt .. | .sltu ..
  | .mul .. | .mulhu .. | .mulh .. | .div .. | .divu .. | .rem .. | .remu .. | .min .. | .max .. | .minu ..
  | .maxu .. | .popc .. | .clz .. | .ctz .. | .addi .. | .andi .. | .ori .. | .xori .. | .slti .. | .slli ..
  | .srli .. | .srai .. | .lui .. | .li .. | .lih .. | .br .. | .jal .. | .jalr .. | .srd .. | .swr ..
  | .ld .. | .st .. | .lds .. | .sts .. | .vadd .. | .vsub .. | .vmul .. | .vmin .. | .vmax .. | .vminu ..
  | .vmaxu .. | .vand .. | .vor .. | .vxor .. | .vshl .. | .vshr .. | .vsra .. | .vceq .. | .vclt ..
  | .vcltu .. | .vfceq .. | .vfclt .. | .vfcle .. | .vfadd .. | .vfsub .. | .vfmul .. | .vfma .. | .vfmin ..
  | .vfmax .. | .vexp .. | .vlog .. | .vrcp .. | .vrsq .. | .vtanh .. | .vxpc .. | .vredadd .. | .vfredadd ..
  | .vsel .. | .vperm .. | .vcvt .. | .vld .. | .vst .. | .vlds .. | .vsts .. | .pand .. | .por .. | .pxor ..
  | .pandn .. | .pnot .. | .pall .. | .pnone .. | .vbcast .. | .vext .. | .vins .. | .ptos .. | .stop ..
  | .pcnt .. | .pfirst .. | .aclaim .. | .arel .. | .azero .. | .mwait .. | .mma .. | .mst .. | .dma ..
  | .rld .. | .rst .. | .aadd .. | .afadd .. | .aand .. | .aor .. | .axor .. | .amin .. | .amax ..
  | .aminu .. | .amaxu .. | .axchg .. | .acas .. | .vaflt .. | .tki .. | .nop .. | .endThread .. | .brk ..
  | .bar .. | .fence .. | .dwait .. | .vwait .. | .waite .. | .vectorEngineExecute ..
  | .matrixEngineExecute .. | .matrixOpComplete .. | .loadReturn .. | .writeBufferComplete ..
  | .dmaTagComplete .. | .remoteTimeout .. | .waiteTimeout .. | .barrierRelease .. | .threadDrained ..
  | .groupEnd .. | .takeGroupNumber .. | .placeGroup .. | .deferredWake .. | .regionActive ..
  | .idleDelayExpiry .. | .offDelayExpiry .. | .regionEntryComplete .. | .kernelStart ..
  | .persistentRelease .. | .kernelEnd .. | .katSlice .. | .katSliceEnd .. | .katInterval .. | .launch ..
  | .search .. | .gather .. | .gatherPool .. | .scatterSet .. | .scatterAdd .. | .publishOpen ..
  | .publishExtent .. | .publishShare .. | .publishSeal .. | .publishAbort .. | .vintageRetire ..
  | .counterRead .. | .hubOrderRun .. | .svcSend .. | .svcSendAck .. | .contextSet .. | .contextReset ..
  | .contextAbort .. | .contextFree .. | .segSet .. | .segRebind .. | .segDelete .. | .resume ..
  | .faultRecordDelayedPost | .serviceTimeout .. | .pageRelease .. | .tableSet .. | .svcIntake ..
  | .svcPost .. | .cohAttach .. | .qpSet .. | .keySet .. | .cringSet .. | .mapPropose .. | .keyRevoke ..
  | .ledgerSet .. | .ckptSet .. | .ckptTake .. | .ckptRestore .. | .sysDesc .. | .postAreaConsume ..
  | .completionWrite .. | .freedUpdate .. | .ident .. | .writeAck .. | .trimAck .. | .status .. | .error ..
  | .cellarReadTimeout .. | .cellarStatusTimeout .. | .cellarLinkDownTimeout .. | .rebuildPeriod | .cellarScrubPeriod ..
  | .larderScrub .. | .listBatchIssue .. | .listBatchEnd .. | .searchRoundEnd .. | .searchPeerReply ..
  | .searchPeerTimeout .. | .searchAbort .. | .prefetch .. | .endMarker .. | .collectiveTimeout ..
  | .embWindowEnd | .transferAccepted .. | .linkTrainingComplete .. | .linkTrainingTimeout .. | .hello ..
  | .helloTimer .. | .helloTimeout .. | .dataFlit .. | .idleFlit .. | .replayRequest ..
  | .linkRetryTimeout .. | .glyEnable .. | .glyRetrain .. | .portState .. | .rd .. | .rdShelf ..
  | .takeShared .. | .takeOwned .. | .promote .. | .giveClean .. | .callShare .. | .callDrop .. | .comp ..
  | .nack .. | .retry .. | .epochHoldTimeout .. | .requestReissue .. | .planeSwitch .. | .attached ..
  | .detached .. | .lease .. | .leaseAck .. | .lost .. | .homeTransactionBegin .. | .resnoopTimer ..
  | .snoopTimeout .. | .leaseExpiry .. | .cellDepart .. | .partitionSlotEnd | .meterWrite .. | .ethLinkUp ..
  | .ethLinkDown .. | .ethRetrain .. | .ethSplit .. | .frameReceive .. | .pfcFrame .. | .pauseFrame ..
  | .pfcQuantaExpiry .. | .lldpdu .. | .lldpTxTimer .. | .lldpTtlExpiry .. | .partnerReport ..
  | .arpRequest .. | .neighbourSolicitation .. | .acknowledge .. | .nak .. | .cnp .. | .ackTimeout ..
  | .ccStep | .mapAppend .. | .mapAck .. | .mapNack .. | .mapCommit .. | .mapAbandon .. | .mapCommitTimeout
  | .epochApply | .epochDrain | .heartbeatTimer | .heartbeatLoss .. | .logCatchUp .. | .ownershipDispute ..
  | .ownerSet .. | .chargeRecordTimer | .revocationComplete .. | .packageQuiescent .. | .quiescent ..
  | .roundClose .. | .exactSumResume .. | .ckptInterval .. | .freeze .. | .drainComplete .. | .drained ..
  | .copy .. | .staged .. | .ckptCommit .. | .ckptAbort .. | .ckptTimeout .. | .restore ..
  | .spareSwitchIn .. | .healthSaveTimer | .rattleUnlock | .rattleLock | .rattleInject | .pwrfailNFall
  | .powerFailFlushDone | .pwrfailNRise | .tokenRefill | .suppressNote .. | .irqLeafWrite ..
  | .pwrTripWrite .. | .standbySupplyApplied | .porstNFall | .porstNRelease | .warmN .. | .startCtrlCold
  | .startCtrlWarm | .startCtrlLoader | .fwCommit | .startStepComplete .. | .startStepTimeout
  | .startRejoinTimeout | .refclkLoss | .refclkReturn | .throttle .. | .thermTrip .. | .avsFault ..
  | .voltageStep .. | .railFault .. | .enroll | .svnCommit | .debugUnlock | .spiUnlock | .spiLock | .attestGo
  | .attestDone | .linkKeyWrite .. | .spiRead .. | .spiWrite .. | .i3cPrivateWrite .. | .i3cPrivateRead ..
  | .entdaa .. | .sensorRefresh | .extest | .samplePreload .. | .idcode | .bypass | .registerWrite ..
  | .regionFault .. | .temperatureBandChange .. | .ethEnable .. | .reproDefaultsWrite .. | .standbySupplyLoss
  | .proposalForward .. | .replacementComplete .. => true

/-- Bytes of the body or data that a command carries. -/
def Instr.bodyBytes : Instr → Nat
  | .commandWindowWrite _ _ _ descs => 64 * descs.length
  | .readData _ _ _ _ body => body.length
  | .embUpdate x => x.data.length
  | .forwardedRequest x _ => x.data.length
  | .intakeFrame _ _ body => body.length
  | .wr _ _ body => body.length
  | .pwr _ _ body => body.length
  | .wrShelf _ _ body => body.length
  | .atomic _ _ _ body => body.length
  | .giveDirty _ _ body => body.length
  | .data _ _ body => body.length
  | .send _ _ _ _ body => body.length
  | .rdmaWrite _ _ _ _ _ body => body.length
  | .add .. | .sub .. | .and_ .. | .or_ .. | .xor_ .. | .sll .. | .srl .. | .sra .. | .slt .. | .sltu ..
  | .mul .. | .mulhu .. | .mulh .. | .div .. | .divu .. | .rem .. | .remu .. | .min .. | .max .. | .minu ..
  | .maxu .. | .popc .. | .clz .. | .ctz .. | .addi .. | .andi .. | .ori .. | .xori .. | .slti .. | .slli ..
  | .srli .. | .srai .. | .lui .. | .li .. | .lih .. | .br .. | .jal .. | .jalr .. | .srd .. | .swr ..
  | .ld .. | .st .. | .lds .. | .sts .. | .vadd .. | .vsub .. | .vmul .. | .vmin .. | .vmax .. | .vminu ..
  | .vmaxu .. | .vand .. | .vor .. | .vxor .. | .vshl .. | .vshr .. | .vsra .. | .vceq .. | .vclt ..
  | .vcltu .. | .vfceq .. | .vfclt .. | .vfcle .. | .vfadd .. | .vfsub .. | .vfmul .. | .vfma .. | .vfmin ..
  | .vfmax .. | .vexp .. | .vlog .. | .vrcp .. | .vrsq .. | .vtanh .. | .vxpc .. | .vredadd .. | .vfredadd ..
  | .vsel .. | .vperm .. | .vcvt .. | .vld .. | .vst .. | .vlds .. | .vsts .. | .pand .. | .por .. | .pxor ..
  | .pandn .. | .pnot .. | .pall .. | .pnone .. | .vbcast .. | .vext .. | .vins .. | .ptos .. | .stop ..
  | .pcnt .. | .pfirst .. | .aclaim .. | .arel .. | .azero .. | .mwait .. | .mma .. | .mst .. | .dma ..
  | .rld .. | .rst .. | .aadd .. | .afadd .. | .aand .. | .aor .. | .axor .. | .amin .. | .amax ..
  | .aminu .. | .amaxu .. | .axchg .. | .acas .. | .vaflt .. | .tki .. | .nop .. | .endThread .. | .brk ..
  | .bar .. | .fence .. | .dwait .. | .vwait .. | .waite .. | .vectorEngineExecute ..
  | .matrixEngineExecute .. | .matrixOpComplete .. | .loadReturn .. | .writeBufferComplete ..
  | .dmaTagComplete .. | .remoteTimeout .. | .waiteTimeout .. | .barrierRelease .. | .threadDrained ..
  | .groupEnd .. | .takeGroupNumber .. | .placeGroup .. | .deferredWake .. | .regionActive ..
  | .idleDelayExpiry .. | .offDelayExpiry .. | .regionEntryComplete .. | .kernelStart ..
  | .persistentRelease .. | .kernelEnd .. | .katSlice .. | .katSliceEnd .. | .katInterval .. | .launch ..
  | .search .. | .gather .. | .gatherPool .. | .scatterSet .. | .scatterAdd .. | .publishOpen ..
  | .publishExtent .. | .publishShare .. | .publishSeal .. | .publishAbort .. | .vintageRetire ..
  | .counterRead .. | .hubOrderRun .. | .svcSend .. | .svcSendAck .. | .contextSet .. | .contextReset ..
  | .contextAbort .. | .contextFree .. | .segSet .. | .segRebind .. | .segDelete .. | .resume ..
  | .faultRecordDelayedPost | .serviceTimeout .. | .pageRelease .. | .tableSet .. | .svcIntake ..
  | .svcPost .. | .cohAttach .. | .qpSet .. | .keySet .. | .cringSet .. | .mapPropose .. | .keyRevoke ..
  | .ledgerSet .. | .ckptSet .. | .ckptTake .. | .ckptRestore .. | .sysDesc .. | .postAreaConsume ..
  | .completionWrite .. | .freedUpdate .. | .ident .. | .writeAck .. | .trimAck .. | .status .. | .error ..
  | .cellarReadTimeout .. | .cellarStatusTimeout .. | .cellarLinkDownTimeout .. | .rebuildPeriod
  | .cellarScrubPeriod .. | .larderScrub .. | .searchForward .. | .listBatchIssue .. | .listBatchEnd ..
  | .searchRoundEnd .. | .searchPeerReply .. | .searchPeerTimeout .. | .searchAbort .. | .prefetch ..
  | .endMarker .. | .collectiveTimeout .. | .embWindowEnd | .shardCountReport .. | .migrationOffer ..
  | .migrationReady .. | .transfer .. | .transferAccepted .. | .linkTrainingComplete ..
  | .linkTrainingTimeout .. | .hello .. | .helloTimer .. | .helloTimeout .. | .dataFlit .. | .idleFlit ..
  | .replayRequest .. | .linkRetryTimeout .. | .glyEnable .. | .glyRetrain .. | .portState .. | .rd ..
  | .rdShelf .. | .takeShared .. | .takeOwned .. | .promote .. | .giveClean .. | .callShare .. | .callDrop ..
  | .comp .. | .nack .. | .retry .. | .epochHoldTimeout .. | .requestReissue .. | .planeSwitch ..
  | .attached .. | .detached .. | .lease .. | .leaseAck .. | .lost .. | .homeTransactionBegin ..
  | .resnoopTimer .. | .snoopTimeout .. | .leaseExpiry .. | .cellAdmit .. | .frameAdmit .. | .cellDepart ..
  | .partitionSlotEnd | .meterWrite .. | .ethLinkUp .. | .ethLinkDown .. | .ethRetrain .. | .ethSplit ..
  | .frameReceive .. | .pfcFrame .. | .pauseFrame .. | .pfcQuantaExpiry .. | .lldpdu .. | .lldpTxTimer ..
  | .lldpTtlExpiry .. | .partnerReport .. | .arpRequest .. | .neighbourSolicitation .. | .rdmaRead ..
  | .acknowledge .. | .nak .. | .cnp .. | .ackTimeout .. | .ccStep | .mapAppend .. | .mapAck .. | .mapNack ..
  | .mapCommit .. | .mapAbandon .. | .mapCommitTimeout | .epochApply | .epochDrain | .mapHeartbeat ..
  | .heartbeatTimer | .heartbeatLoss .. | .logCatchUp .. | .ownershipDispute .. | .ownerSet ..
  | .chargeRecordTimer | .revocationComplete .. | .packageQuiescent .. | .quiescent .. | .roundClose ..
  | .exactSumResume .. | .ckptInterval .. | .freeze .. | .drainComplete .. | .drained .. | .copy ..
  | .staged .. | .ckptCommit .. | .ckptAbort .. | .ckptTimeout .. | .restore .. | .spareSwitchIn ..
  | .healthSaveTimer | .rattleUnlock | .rattleLock | .rattleInject | .pwrfailNFall | .powerFailFlushDone
  | .pwrfailNRise | .tokenRefill | .suppressNote .. | .irqLeafWrite .. | .pwrTripWrite ..
  | .standbySupplyApplied | .porstNFall | .porstNRelease | .warmN .. | .startCtrlCold | .startCtrlWarm
  | .startCtrlLoader | .fwCommit | .startStepComplete .. | .startStepTimeout | .startRejoinTimeout
  | .refclkLoss | .refclkReturn | .throttle .. | .thermTrip .. | .avsFault .. | .voltageStep ..
  | .railFault .. | .enroll | .svnCommit | .debugUnlock | .spiUnlock | .spiLock | .attestGo | .attestDone
  | .linkKeyWrite .. | .spiRead .. | .spiWrite .. | .i3cPrivateWrite .. | .i3cPrivateRead .. | .entdaa ..
  | .sensorRefresh | .extest | .samplePreload .. | .idcode | .bypass | .registerWrite .. | .regionFault ..
  | .temperatureBandChange .. | .ethEnable .. | .reproDefaultsWrite .. | .standbySupplyLoss
  | .proposalForward .. | .replacementComplete .. => 0

end Sys2Proof
end

