-- ==== Sys2Proof/Laws/PerInstr.lean ====
section
/-! SUPPORT. Per-command lemmas on operand sizes. -/

namespace Sys2Proof.Laws.BodyBound

/-- A well-formed command carries at most one message's worth of bytes (R358: 2^31). -/
def Statement (i : Instr) : Prop := i.wellFormed = true → i.bodyBytes ≤ 2 ^ 31

theorem add (x0 : BitVec 20) (x1 : BitVec 3) (x2 : BitVec 5) (x3 : BitVec 5) (x4 : BitVec 5) : Statement (.add x0 x1 x2 x3 x4) := fun _ => Nat.zero_le _
theorem sub (x0 : BitVec 20) (x1 : BitVec 3) (x2 : BitVec 5) (x3 : BitVec 5) (x4 : BitVec 5) : Statement (.sub x0 x1 x2 x3 x4) := fun _ => Nat.zero_le _
theorem and_ (x0 : BitVec 20) (x1 : BitVec 3) (x2 : BitVec 5) (x3 : BitVec 5) (x4 : BitVec 5) : Statement (.and_ x0 x1 x2 x3 x4) := fun _ => Nat.zero_le _
theorem or_ (x0 : BitVec 20) (x1 : BitVec 3) (x2 : BitVec 5) (x3 : BitVec 5) (x4 : BitVec 5) : Statement (.or_ x0 x1 x2 x3 x4) := fun _ => Nat.zero_le _
theorem xor_ (x0 : BitVec 20) (x1 : BitVec 3) (x2 : BitVec 5) (x3 : BitVec 5) (x4 : BitVec 5) : Statement (.xor_ x0 x1 x2 x3 x4) := fun _ => Nat.zero_le _
theorem sll (x0 : BitVec 20) (x1 : BitVec 3) (x2 : BitVec 5) (x3 : BitVec 5) (x4 : BitVec 5) : Statement (.sll x0 x1 x2 x3 x4) := fun _ => Nat.zero_le _
theorem srl (x0 : BitVec 20) (x1 : BitVec 3) (x2 : BitVec 5) (x3 : BitVec 5) (x4 : BitVec 5) : Statement (.srl x0 x1 x2 x3 x4) := fun _ => Nat.zero_le _
theorem sra (x0 : BitVec 20) (x1 : BitVec 3) (x2 : BitVec 5) (x3 : BitVec 5) (x4 : BitVec 5) : Statement (.sra x0 x1 x2 x3 x4) := fun _ => Nat.zero_le _
theorem slt (x0 : BitVec 20) (x1 : BitVec 3) (x2 : BitVec 5) (x3 : BitVec 5) (x4 : BitVec 5) : Statement (.slt x0 x1 x2 x3 x4) := fun _ => Nat.zero_le _
theorem sltu (x0 : BitVec 20) (x1 : BitVec 3) (x2 : BitVec 5) (x3 : BitVec 5) (x4 : BitVec 5) : Statement (.sltu x0 x1 x2 x3 x4) := fun _ => Nat.zero_le _
theorem mul (x0 : BitVec 20) (x1 : BitVec 3) (x2 : BitVec 5) (x3 : BitVec 5) (x4 : BitVec 5) : Statement (.mul x0 x1 x2 x3 x4) := fun _ => Nat.zero_le _
theorem mulhu (x0 : BitVec 20) (x1 : BitVec 3) (x2 : BitVec 5) (x3 : BitVec 5) (x4 : BitVec 5) : Statement (.mulhu x0 x1 x2 x3 x4) := fun _ => Nat.zero_le _
theorem mulh (x0 : BitVec 20) (x1 : BitVec 3) (x2 : BitVec 5) (x3 : BitVec 5) (x4 : BitVec 5) : Statement (.mulh x0 x1 x2 x3 x4) := fun _ => Nat.zero_le _
theorem div (x0 : BitVec 20) (x1 : BitVec 3) (x2 : BitVec 5) (x3 : BitVec 5) (x4 : BitVec 5) : Statement (.div x0 x1 x2 x3 x4) := fun _ => Nat.zero_le _
theorem divu (x0 : BitVec 20) (x1 : BitVec 3) (x2 : BitVec 5) (x3 : BitVec 5) (x4 : BitVec 5) : Statement (.divu x0 x1 x2 x3 x4) := fun _ => Nat.zero_le _
theorem rem (x0 : BitVec 20) (x1 : BitVec 3) (x2 : BitVec 5) (x3 : BitVec 5) (x4 : BitVec 5) : Statement (.rem x0 x1 x2 x3 x4) := fun _ => Nat.zero_le _
theorem remu (x0 : BitVec 20) (x1 : BitVec 3) (x2 : BitVec 5) (x3 : BitVec 5) (x4 : BitVec 5) : Statement (.remu x0 x1 x2 x3 x4) := fun _ => Nat.zero_le _
theorem min (x0 : BitVec 20) (x1 : BitVec 3) (x2 : BitVec 5) (x3 : BitVec 5) (x4 : BitVec 5) : Statement (.min x0 x1 x2 x3 x4) := fun _ => Nat.zero_le _
theorem max (x0 : BitVec 20) (x1 : BitVec 3) (x2 : BitVec 5) (x3 : BitVec 5) (x4 : BitVec 5) : Statement (.max x0 x1 x2 x3 x4) := fun _ => Nat.zero_le _
theorem minu (x0 : BitVec 20) (x1 : BitVec 3) (x2 : BitVec 5) (x3 : BitVec 5) (x4 : BitVec 5) : Statement (.minu x0 x1 x2 x3 x4) := fun _ => Nat.zero_le _
theorem maxu (x0 : BitVec 20) (x1 : BitVec 3) (x2 : BitVec 5) (x3 : BitVec 5) (x4 : BitVec 5) : Statement (.maxu x0 x1 x2 x3 x4) := fun _ => Nat.zero_le _
theorem popc (x0 : BitVec 20) (x1 : BitVec 3) (x2 : BitVec 5) (x3 : BitVec 5) (x4 : BitVec 5) : Statement (.popc x0 x1 x2 x3 x4) := fun _ => Nat.zero_le _
theorem clz (x0 : BitVec 20) (x1 : BitVec 3) (x2 : BitVec 5) (x3 : BitVec 5) (x4 : BitVec 5) : Statement (.clz x0 x1 x2 x3 x4) := fun _ => Nat.zero_le _
theorem ctz (x0 : BitVec 20) (x1 : BitVec 3) (x2 : BitVec 5) (x3 : BitVec 5) (x4 : BitVec 5) : Statement (.ctz x0 x1 x2 x3 x4) := fun _ => Nat.zero_le _
theorem addi (x0 : BitVec 20) (x1 : BitVec 3) (x2 : BitVec 5) (x3 : BitVec 5) (x4 : BitVec 12) : Statement (.addi x0 x1 x2 x3 x4) := fun _ => Nat.zero_le _
theorem andi (x0 : BitVec 20) (x1 : BitVec 3) (x2 : BitVec 5) (x3 : BitVec 5) (x4 : BitVec 12) : Statement (.andi x0 x1 x2 x3 x4) := fun _ => Nat.zero_le _
theorem ori (x0 : BitVec 20) (x1 : BitVec 3) (x2 : BitVec 5) (x3 : BitVec 5) (x4 : BitVec 12) : Statement (.ori x0 x1 x2 x3 x4) := fun _ => Nat.zero_le _
theorem xori (x0 : BitVec 20) (x1 : BitVec 3) (x2 : BitVec 5) (x3 : BitVec 5) (x4 : BitVec 12) : Statement (.xori x0 x1 x2 x3 x4) := fun _ => Nat.zero_le _
theorem slti (x0 : BitVec 20) (x1 : BitVec 3) (x2 : BitVec 5) (x3 : BitVec 5) (x4 : BitVec 12) : Statement (.slti x0 x1 x2 x3 x4) := fun _ => Nat.zero_le _
theorem slli (x0 : BitVec 20) (x1 : BitVec 3) (x2 : BitVec 5) (x3 : BitVec 5) (x4 : BitVec 12) : Statement (.slli x0 x1 x2 x3 x4) := fun _ => Nat.zero_le _
theorem srli (x0 : BitVec 20) (x1 : BitVec 3) (x2 : BitVec 5) (x3 : BitVec 5) (x4 : BitVec 12) : Statement (.srli x0 x1 x2 x3 x4) := fun _ => Nat.zero_le _
theorem srai (x0 : BitVec 20) (x1 : BitVec 3) (x2 : BitVec 5) (x3 : BitVec 5) (x4 : BitVec 12) : Statement (.srai x0 x1 x2 x3 x4) := fun _ => Nat.zero_le _
theorem lui (x0 : BitVec 20) (x1 : BitVec 3) (x2 : BitVec 5) (x3 : BitVec 20) : Statement (.lui x0 x1 x2 x3) := fun _ => Nat.zero_le _
theorem li (x0 : BitVec 20) (x1 : BitVec 3) (x2 : BitVec 5) (x3 : BitVec 32) (x4 : BitVec 20) : Statement (.li x0 x1 x2 x3 x4) := fun _ => Nat.zero_le _
theorem lih (x0 : BitVec 20) (x1 : BitVec 3) (x2 : BitVec 5) (x3 : BitVec 32) (x4 : BitVec 20) : Statement (.lih x0 x1 x2 x3 x4) := fun _ => Nat.zero_le _
theorem br (x0 : BitVec 20) (x1 : BitVec 3) (x2 : BitVec 5) (x3 : BitVec 5) (x4 : BitVec 5) (x5 : BitVec 10) : Statement (.br x0 x1 x2 x3 x4 x5) := fun _ => Nat.zero_le _
theorem jal (x0 : BitVec 20) (x1 : BitVec 3) (x2 : BitVec 5) (x3 : BitVec 20) : Statement (.jal x0 x1 x2 x3) := fun _ => Nat.zero_le _
theorem jalr (x0 : BitVec 20) (x1 : BitVec 3) (x2 : BitVec 5) (x3 : BitVec 5) (x4 : BitVec 12) (x5 : BitVec 3) : Statement (.jalr x0 x1 x2 x3 x4 x5) := fun _ => Nat.zero_le _
theorem srd (x0 : BitVec 20) (x1 : BitVec 3) (x2 : BitVec 5) (x3 : BitVec 5) (x4 : BitVec 12) : Statement (.srd x0 x1 x2 x3 x4) := fun _ => Nat.zero_le _
theorem swr (x0 : BitVec 20) (x1 : BitVec 3) (x2 : BitVec 5) (x3 : BitVec 5) (x4 : BitVec 12) : Statement (.swr x0 x1 x2 x3 x4) := fun _ => Nat.zero_le _
theorem ld (x0 : BitVec 20) (x1 : BitVec 3) (x2 : BitVec 3) (x3 : BitVec 5) (x4 : BitVec 5) (x5 : BitVec 12) : Statement (.ld x0 x1 x2 x3 x4 x5) := fun _ => Nat.zero_le _
theorem st (x0 : BitVec 20) (x1 : BitVec 3) (x2 : BitVec 3) (x3 : BitVec 5) (x4 : BitVec 5) (x5 : BitVec 12) : Statement (.st x0 x1 x2 x3 x4 x5) := fun _ => Nat.zero_le _
theorem lds (x0 : BitVec 20) (x1 : BitVec 3) (x2 : BitVec 3) (x3 : BitVec 5) (x4 : BitVec 5) (x5 : BitVec 12) : Statement (.lds x0 x1 x2 x3 x4 x5) := fun _ => Nat.zero_le _
theorem sts (x0 : BitVec 20) (x1 : BitVec 3) (x2 : BitVec 3) (x3 : BitVec 5) (x4 : BitVec 5) (x5 : BitVec 12) : Statement (.sts x0 x1 x2 x3 x4 x5) := fun _ => Nat.zero_le _
theorem vadd (x0 : BitVec 20) (x1 : BitVec 3) (x2 : BitVec 2) (x3 : Bool) (x4 : BitVec 3) (x5 : BitVec 3) (x6 : BitVec 3) (x7 : BitVec 3) : Statement (.vadd x0 x1 x2 x3 x4 x5 x6 x7) := fun _ => Nat.zero_le _
theorem vsub (x0 : BitVec 20) (x1 : BitVec 3) (x2 : BitVec 2) (x3 : Bool) (x4 : BitVec 3) (x5 : BitVec 3) (x6 : BitVec 3) (x7 : BitVec 3) : Statement (.vsub x0 x1 x2 x3 x4 x5 x6 x7) := fun _ => Nat.zero_le _
theorem vmul (x0 : BitVec 20) (x1 : BitVec 3) (x2 : BitVec 2) (x3 : Bool) (x4 : BitVec 3) (x5 : BitVec 3) (x6 : BitVec 3) (x7 : BitVec 3) : Statement (.vmul x0 x1 x2 x3 x4 x5 x6 x7) := fun _ => Nat.zero_le _
theorem vmin (x0 : BitVec 20) (x1 : BitVec 3) (x2 : BitVec 2) (x3 : Bool) (x4 : BitVec 3) (x5 : BitVec 3) (x6 : BitVec 3) (x7 : BitVec 3) : Statement (.vmin x0 x1 x2 x3 x4 x5 x6 x7) := fun _ => Nat.zero_le _
theorem vmax (x0 : BitVec 20) (x1 : BitVec 3) (x2 : BitVec 2) (x3 : Bool) (x4 : BitVec 3) (x5 : BitVec 3) (x6 : BitVec 3) (x7 : BitVec 3) : Statement (.vmax x0 x1 x2 x3 x4 x5 x6 x7) := fun _ => Nat.zero_le _
theorem vminu (x0 : BitVec 20) (x1 : BitVec 3) (x2 : BitVec 2) (x3 : Bool) (x4 : BitVec 3) (x5 : BitVec 3) (x6 : BitVec 3) (x7 : BitVec 3) : Statement (.vminu x0 x1 x2 x3 x4 x5 x6 x7) := fun _ => Nat.zero_le _
theorem vmaxu (x0 : BitVec 20) (x1 : BitVec 3) (x2 : BitVec 2) (x3 : Bool) (x4 : BitVec 3) (x5 : BitVec 3) (x6 : BitVec 3) (x7 : BitVec 3) : Statement (.vmaxu x0 x1 x2 x3 x4 x5 x6 x7) := fun _ => Nat.zero_le _
theorem vand (x0 : BitVec 20) (x1 : BitVec 3) (x2 : BitVec 2) (x3 : Bool) (x4 : BitVec 3) (x5 : BitVec 3) (x6 : BitVec 3) (x7 : BitVec 3) : Statement (.vand x0 x1 x2 x3 x4 x5 x6 x7) := fun _ => Nat.zero_le _
theorem vor (x0 : BitVec 20) (x1 : BitVec 3) (x2 : BitVec 2) (x3 : Bool) (x4 : BitVec 3) (x5 : BitVec 3) (x6 : BitVec 3) (x7 : BitVec 3) : Statement (.vor x0 x1 x2 x3 x4 x5 x6 x7) := fun _ => Nat.zero_le _
theorem vxor (x0 : BitVec 20) (x1 : BitVec 3) (x2 : BitVec 2) (x3 : Bool) (x4 : BitVec 3) (x5 : BitVec 3) (x6 : BitVec 3) (x7 : BitVec 3) : Statement (.vxor x0 x1 x2 x3 x4 x5 x6 x7) := fun _ => Nat.zero_le _
theorem vshl (x0 : BitVec 20) (x1 : BitVec 3) (x2 : BitVec 2) (x3 : Bool) (x4 : BitVec 3) (x5 : BitVec 3) (x6 : BitVec 3) (x7 : BitVec 3) : Statement (.vshl x0 x1 x2 x3 x4 x5 x6 x7) := fun _ => Nat.zero_le _
theorem vshr (x0 : BitVec 20) (x1 : BitVec 3) (x2 : BitVec 2) (x3 : Bool) (x4 : BitVec 3) (x5 : BitVec 3) (x6 : BitVec 3) (x7 : BitVec 3) : Statement (.vshr x0 x1 x2 x3 x4 x5 x6 x7) := fun _ => Nat.zero_le _
theorem vsra (x0 : BitVec 20) (x1 : BitVec 3) (x2 : BitVec 2) (x3 : Bool) (x4 : BitVec 3) (x5 : BitVec 3) (x6 : BitVec 3) (x7 : BitVec 3) : Statement (.vsra x0 x1 x2 x3 x4 x5 x6 x7) := fun _ => Nat.zero_le _
theorem vceq (x0 : BitVec 20) (x1 : BitVec 3) (x2 : BitVec 2) (x3 : Bool) (x4 : BitVec 3) (x5 : BitVec 3) (x6 : BitVec 3) (x7 : BitVec 3) : Statement (.vceq x0 x1 x2 x3 x4 x5 x6 x7) := fun _ => Nat.zero_le _
theorem vclt (x0 : BitVec 20) (x1 : BitVec 3) (x2 : BitVec 2) (x3 : Bool) (x4 : BitVec 3) (x5 : BitVec 3) (x6 : BitVec 3) (x7 : BitVec 3) : Statement (.vclt x0 x1 x2 x3 x4 x5 x6 x7) := fun _ => Nat.zero_le _
theorem vcltu (x0 : BitVec 20) (x1 : BitVec 3) (x2 : BitVec 2) (x3 : Bool) (x4 : BitVec 3) (x5 : BitVec 3) (x6 : BitVec 3) (x7 : BitVec 3) : Statement (.vcltu x0 x1 x2 x3 x4 x5 x6 x7) := fun _ => Nat.zero_le _
theorem vfceq (x0 : BitVec 20) (x1 : BitVec 3) (x2 : BitVec 2) (x3 : Bool) (x4 : BitVec 3) (x5 : BitVec 3) (x6 : BitVec 3) (x7 : BitVec 3) : Statement (.vfceq x0 x1 x2 x3 x4 x5 x6 x7) := fun _ => Nat.zero_le _
theorem vfclt (x0 : BitVec 20) (x1 : BitVec 3) (x2 : BitVec 2) (x3 : Bool) (x4 : BitVec 3) (x5 : BitVec 3) (x6 : BitVec 3) (x7 : BitVec 3) : Statement (.vfclt x0 x1 x2 x3 x4 x5 x6 x7) := fun _ => Nat.zero_le _
theorem vfcle (x0 : BitVec 20) (x1 : BitVec 3) (x2 : BitVec 2) (x3 : Bool) (x4 : BitVec 3) (x5 : BitVec 3) (x6 : BitVec 3) (x7 : BitVec 3) : Statement (.vfcle x0 x1 x2 x3 x4 x5 x6 x7) := fun _ => Nat.zero_le _
theorem vfadd (x0 : BitVec 20) (x1 : BitVec 3) (x2 : BitVec 2) (x3 : Bool) (x4 : BitVec 3) (x5 : BitVec 3) (x6 : BitVec 3) (x7 : BitVec 3) : Statement (.vfadd x0 x1 x2 x3 x4 x5 x6 x7) := fun _ => Nat.zero_le _
theorem vfsub (x0 : BitVec 20) (x1 : BitVec 3) (x2 : BitVec 2) (x3 : Bool) (x4 : BitVec 3) (x5 : BitVec 3) (x6 : BitVec 3) (x7 : BitVec 3) : Statement (.vfsub x0 x1 x2 x3 x4 x5 x6 x7) := fun _ => Nat.zero_le _
theorem vfmul (x0 : BitVec 20) (x1 : BitVec 3) (x2 : BitVec 2) (x3 : Bool) (x4 : BitVec 3) (x5 : BitVec 3) (x6 : BitVec 3) (x7 : BitVec 3) : Statement (.vfmul x0 x1 x2 x3 x4 x5 x6 x7) := fun _ => Nat.zero_le _
theorem vfma (x0 : BitVec 20) (x1 : BitVec 3) (x2 : BitVec 2) (x3 : Bool) (x4 : BitVec 3) (x5 : BitVec 3) (x6 : BitVec 3) (x7 : BitVec 3) : Statement (.vfma x0 x1 x2 x3 x4 x5 x6 x7) := fun _ => Nat.zero_le _
theorem vfmin (x0 : BitVec 20) (x1 : BitVec 3) (x2 : BitVec 2) (x3 : Bool) (x4 : BitVec 3) (x5 : BitVec 3) (x6 : BitVec 3) (x7 : BitVec 3) : Statement (.vfmin x0 x1 x2 x3 x4 x5 x6 x7) := fun _ => Nat.zero_le _
theorem vfmax (x0 : BitVec 20) (x1 : BitVec 3) (x2 : BitVec 2) (x3 : Bool) (x4 : BitVec 3) (x5 : BitVec 3) (x6 : BitVec 3) (x7 : BitVec 3) : Statement (.vfmax x0 x1 x2 x3 x4 x5 x6 x7) := fun _ => Nat.zero_le _
theorem vexp (x0 : BitVec 20) (x1 : BitVec 3) (x2 : BitVec 2) (x3 : Bool) (x4 : BitVec 3) (x5 : BitVec 3) (x6 : BitVec 3) (x7 : BitVec 3) : Statement (.vexp x0 x1 x2 x3 x4 x5 x6 x7) := fun _ => Nat.zero_le _
theorem vlog (x0 : BitVec 20) (x1 : BitVec 3) (x2 : BitVec 2) (x3 : Bool) (x4 : BitVec 3) (x5 : BitVec 3) (x6 : BitVec 3) (x7 : BitVec 3) : Statement (.vlog x0 x1 x2 x3 x4 x5 x6 x7) := fun _ => Nat.zero_le _
theorem vrcp (x0 : BitVec 20) (x1 : BitVec 3) (x2 : BitVec 2) (x3 : Bool) (x4 : BitVec 3) (x5 : BitVec 3) (x6 : BitVec 3) (x7 : BitVec 3) : Statement (.vrcp x0 x1 x2 x3 x4 x5 x6 x7) := fun _ => Nat.zero_le _
theorem vrsq (x0 : BitVec 20) (x1 : BitVec 3) (x2 : BitVec 2) (x3 : Bool) (x4 : BitVec 3) (x5 : BitVec 3) (x6 : BitVec 3) (x7 : BitVec 3) : Statement (.vrsq x0 x1 x2 x3 x4 x5 x6 x7) := fun _ => Nat.zero_le _
theorem vtanh (x0 : BitVec 20) (x1 : BitVec 3) (x2 : BitVec 2) (x3 : Bool) (x4 : BitVec 3) (x5 : BitVec 3) (x6 : BitVec 3) (x7 : BitVec 3) : Statement (.vtanh x0 x1 x2 x3 x4 x5 x6 x7) := fun _ => Nat.zero_le _
theorem vxpc (x0 : BitVec 20) (x1 : BitVec 3) (x2 : BitVec 2) (x3 : Bool) (x4 : BitVec 3) (x5 : BitVec 3) (x6 : BitVec 3) (x7 : BitVec 3) : Statement (.vxpc x0 x1 x2 x3 x4 x5 x6 x7) := fun _ => Nat.zero_le _
theorem vredadd (x0 : BitVec 20) (x1 : BitVec 3) (x2 : BitVec 2) (x3 : Bool) (x4 : BitVec 3) (x5 : BitVec 3) (x6 : BitVec 3) (x7 : BitVec 3) : Statement (.vredadd x0 x1 x2 x3 x4 x5 x6 x7) := fun _ => Nat.zero_le _
theorem vfredadd (x0 : BitVec 20) (x1 : BitVec 3) (x2 : BitVec 2) (x3 : Bool) (x4 : BitVec 3) (x5 : BitVec 3) (x6 : BitVec 3) (x7 : BitVec 3) : Statement (.vfredadd x0 x1 x2 x3 x4 x5 x6 x7) := fun _ => Nat.zero_le _
theorem vsel (x0 : BitVec 20) (x1 : BitVec 3) (x2 : BitVec 2) (x3 : Bool) (x4 : BitVec 3) (x5 : BitVec 3) (x6 : BitVec 3) (x7 : BitVec 3) : Statement (.vsel x0 x1 x2 x3 x4 x5 x6 x7) := fun _ => Nat.zero_le _
theorem vperm (x0 : BitVec 20) (x1 : BitVec 3) (x2 : BitVec 2) (x3 : Bool) (x4 : BitVec 3) (x5 : BitVec 3) (x6 : BitVec 3) (x7 : BitVec 3) : Statement (.vperm x0 x1 x2 x3 x4 x5 x6 x7) := fun _ => Nat.zero_le _
theorem vcvt (x0 : BitVec 20) (x1 : BitVec 3) (x2 : BitVec 8) (x3 : BitVec 2) (x4 : Bool) (x5 : BitVec 3) (x6 : BitVec 3) (x7 : BitVec 3) (x8 : BitVec 3) : Statement (.vcvt x0 x1 x2 x3 x4 x5 x6 x7 x8) := fun _ => Nat.zero_le _
theorem vld (x0 : BitVec 20) (x1 : BitVec 3) (x2 : BitVec 13) (x3 : Bool) (x4 : BitVec 3) (x5 : BitVec 5) (x6 : BitVec 3) : Statement (.vld x0 x1 x2 x3 x4 x5 x6) := fun _ => Nat.zero_le _
theorem vst (x0 : BitVec 20) (x1 : BitVec 3) (x2 : BitVec 13) (x3 : Bool) (x4 : BitVec 3) (x5 : BitVec 5) (x6 : BitVec 3) : Statement (.vst x0 x1 x2 x3 x4 x5 x6) := fun _ => Nat.zero_le _
theorem vlds (x0 : BitVec 20) (x1 : BitVec 3) (x2 : BitVec 13) (x3 : Bool) (x4 : BitVec 3) (x5 : BitVec 5) (x6 : BitVec 3) : Statement (.vlds x0 x1 x2 x3 x4 x5 x6) := fun _ => Nat.zero_le _
theorem vsts (x0 : BitVec 20) (x1 : BitVec 3) (x2 : BitVec 13) (x3 : Bool) (x4 : BitVec 3) (x5 : BitVec 5) (x6 : BitVec 3) : Statement (.vsts x0 x1 x2 x3 x4 x5 x6) := fun _ => Nat.zero_le _
theorem pand (x0 : BitVec 20) (x1 : BitVec 3) (x2 : BitVec 3) (x3 : BitVec 3) (x4 : BitVec 3) : Statement (.pand x0 x1 x2 x3 x4) := fun _ => Nat.zero_le _
theorem por (x0 : BitVec 20) (x1 : BitVec 3) (x2 : BitVec 3) (x3 : BitVec 3) (x4 : BitVec 3) : Statement (.por x0 x1 x2 x3 x4) := fun _ => Nat.zero_le _
theorem pxor (x0 : BitVec 20) (x1 : BitVec 3) (x2 : BitVec 3) (x3 : BitVec 3) (x4 : BitVec 3) : Statement (.pxor x0 x1 x2 x3 x4) := fun _ => Nat.zero_le _
theorem pandn (x0 : BitVec 20) (x1 : BitVec 3) (x2 : BitVec 3) (x3 : BitVec 3) (x4 : BitVec 3) : Statement (.pandn x0 x1 x2 x3 x4) := fun _ => Nat.zero_le _
theorem pnot (x0 : BitVec 20) (x1 : BitVec 3) (x2 : BitVec 3) (x3 : BitVec 3) (x4 : BitVec 3) : Statement (.pnot x0 x1 x2 x3 x4) := fun _ => Nat.zero_le _
theorem pall (x0 : BitVec 20) (x1 : BitVec 3) (x2 : BitVec 3) (x3 : BitVec 3) (x4 : BitVec 3) : Statement (.pall x0 x1 x2 x3 x4) := fun _ => Nat.zero_le _
theorem pnone (x0 : BitVec 20) (x1 : BitVec 3) (x2 : BitVec 3) (x3 : BitVec 3) (x4 : BitVec 3) : Statement (.pnone x0 x1 x2 x3 x4) := fun _ => Nat.zero_le _
theorem vbcast (x0 : BitVec 20) (x1 : BitVec 3) (x2 : BitVec 6) (x3 : BitVec 2) (x4 : BitVec 5) (x5 : BitVec 3) : Statement (.vbcast x0 x1 x2 x3 x4 x5) := fun _ => Nat.zero_le _
theorem vext (x0 : BitVec 20) (x1 : BitVec 3) (x2 : BitVec 6) (x3 : BitVec 2) (x4 : BitVec 5) (x5 : BitVec 3) : Statement (.vext x0 x1 x2 x3 x4 x5) := fun _ => Nat.zero_le _
theorem vins (x0 : BitVec 20) (x1 : BitVec 3) (x2 : BitVec 6) (x3 : BitVec 2) (x4 : BitVec 5) (x5 : BitVec 3) : Statement (.vins x0 x1 x2 x3 x4 x5) := fun _ => Nat.zero_le _
theorem ptos (x0 : BitVec 20) (x1 : BitVec 3) (x2 : BitVec 6) (x3 : BitVec 2) (x4 : BitVec 5) (x5 : BitVec 3) : Statement (.ptos x0 x1 x2 x3 x4 x5) := fun _ => Nat.zero_le _
theorem stop (x0 : BitVec 20) (x1 : BitVec 3) (x2 : BitVec 6) (x3 : BitVec 2) (x4 : BitVec 5) (x5 : BitVec 3) : Statement (.stop x0 x1 x2 x3 x4 x5) := fun _ => Nat.zero_le _
theorem pcnt (x0 : BitVec 20) (x1 : BitVec 3) (x2 : BitVec 6) (x3 : BitVec 2) (x4 : BitVec 5) (x5 : BitVec 3) : Statement (.pcnt x0 x1 x2 x3 x4 x5) := fun _ => Nat.zero_le _
theorem pfirst (x0 : BitVec 20) (x1 : BitVec 3) (x2 : BitVec 6) (x3 : BitVec 2) (x4 : BitVec 5) (x5 : BitVec 3) : Statement (.pfirst x0 x1 x2 x3 x4 x5) := fun _ => Nat.zero_le _
theorem aclaim (x0 : BitVec 20) (x1 : BitVec 3) (x2 : BitVec 2) (x3 : BitVec 20) : Statement (.aclaim x0 x1 x2 x3) := fun _ => Nat.zero_le _
theorem arel (x0 : BitVec 20) (x1 : BitVec 3) (x2 : BitVec 2) (x3 : BitVec 20) : Statement (.arel x0 x1 x2 x3) := fun _ => Nat.zero_le _
theorem azero (x0 : BitVec 20) (x1 : BitVec 3) (x2 : BitVec 2) (x3 : BitVec 20) : Statement (.azero x0 x1 x2 x3) := fun _ => Nat.zero_le _
theorem mwait (x0 : BitVec 20) (x1 : BitVec 3) (x2 : BitVec 2) (x3 : BitVec 20) : Statement (.mwait x0 x1 x2 x3) := fun _ => Nat.zero_le _
theorem mma (x0 : BitVec 20) (x1 : BitVec 3) (x2 : Bool) (x3 : BitVec 2) (x4 : BitVec 5) (x5 : BitVec 5) (x6 : BitVec 5) (x7 : BitVec 4) (x8 : BitVec 4) (x9 : BitVec 7) (x10 : BitVec 24) : Statement (.mma x0 x1 x2 x3 x4 x5 x6 x7 x8 x9 x10) := fun _ => Nat.zero_le _
theorem mst (x0 : BitVec 20) (x1 : BitVec 3) (x2 : BitVec 2) (x3 : BitVec 5) (x4 : Bool) (x5 : BitVec 4) (x6 : BitVec 18) (x7 : BitVec 27) : Statement (.mst x0 x1 x2 x3 x4 x5 x6 x7) := fun _ => Nat.zero_le _
theorem dma (x0 : BitVec 20) (x1 : BitVec 3) (x2 : BitVec 5) (x3 : BitVec 2) (x4 : BitVec 5) (x5 : BitVec 5) (x6 : BitVec 5) (x7 : BitVec 4) (x8 : BitVec 4) (x9 : BitVec 3) (x10 : BitVec 24) : Statement (.dma x0 x1 x2 x3 x4 x5 x6 x7 x8 x9 x10) := fun _ => Nat.zero_le _
theorem rld (x0 : BitVec 20) (x1 : BitVec 3) (x2 : BitVec 5) (x3 : BitVec 5) (x4 : BitVec 5) (x5 : BitVec 5) (x6 : BitVec 5) (x7 : BitVec 3) (x8 : BitVec 5) (x9 : BitVec 18) : Statement (.rld x0 x1 x2 x3 x4 x5 x6 x7 x8 x9) := fun _ => Nat.zero_le _
theorem rst (x0 : BitVec 20) (x1 : BitVec 3) (x2 : BitVec 5) (x3 : BitVec 5) (x4 : BitVec 5) (x5 : BitVec 5) (x6 : BitVec 5) (x7 : BitVec 3) (x8 : BitVec 5) (x9 : BitVec 18) : Statement (.rst x0 x1 x2 x3 x4 x5 x6 x7 x8 x9) := fun _ => Nat.zero_le _
theorem aadd (x0 : BitVec 20) (x1 : BitVec 3) (x2 : BitVec 5) (x3 : BitVec 5) (x4 : BitVec 5) (x5 : BitVec 5) (x6 : BitVec 5) (x7 : BitVec 3) (x8 : BitVec 5) (x9 : BitVec 18) : Statement (.aadd x0 x1 x2 x3 x4 x5 x6 x7 x8 x9) := fun _ => Nat.zero_le _
theorem afadd (x0 : BitVec 20) (x1 : BitVec 3) (x2 : BitVec 5) (x3 : BitVec 5) (x4 : BitVec 5) (x5 : BitVec 5) (x6 : BitVec 5) (x7 : BitVec 3) (x8 : BitVec 5) (x9 : BitVec 18) : Statement (.afadd x0 x1 x2 x3 x4 x5 x6 x7 x8 x9) := fun _ => Nat.zero_le _
theorem aand (x0 : BitVec 20) (x1 : BitVec 3) (x2 : BitVec 5) (x3 : BitVec 5) (x4 : BitVec 5) (x5 : BitVec 5) (x6 : BitVec 5) (x7 : BitVec 3) (x8 : BitVec 5) (x9 : BitVec 18) : Statement (.aand x0 x1 x2 x3 x4 x5 x6 x7 x8 x9) := fun _ => Nat.zero_le _
theorem aor (x0 : BitVec 20) (x1 : BitVec 3) (x2 : BitVec 5) (x3 : BitVec 5) (x4 : BitVec 5) (x5 : BitVec 5) (x6 : BitVec 5) (x7 : BitVec 3) (x8 : BitVec 5) (x9 : BitVec 18) : Statement (.aor x0 x1 x2 x3 x4 x5 x6 x7 x8 x9) := fun _ => Nat.zero_le _
theorem axor (x0 : BitVec 20) (x1 : BitVec 3) (x2 : BitVec 5) (x3 : BitVec 5) (x4 : BitVec 5) (x5 : BitVec 5) (x6 : BitVec 5) (x7 : BitVec 3) (x8 : BitVec 5) (x9 : BitVec 18) : Statement (.axor x0 x1 x2 x3 x4 x5 x6 x7 x8 x9) := fun _ => Nat.zero_le _
theorem amin (x0 : BitVec 20) (x1 : BitVec 3) (x2 : BitVec 5) (x3 : BitVec 5) (x4 : BitVec 5) (x5 : BitVec 5) (x6 : BitVec 5) (x7 : BitVec 3) (x8 : BitVec 5) (x9 : BitVec 18) : Statement (.amin x0 x1 x2 x3 x4 x5 x6 x7 x8 x9) := fun _ => Nat.zero_le _
theorem amax (x0 : BitVec 20) (x1 : BitVec 3) (x2 : BitVec 5) (x3 : BitVec 5) (x4 : BitVec 5) (x5 : BitVec 5) (x6 : BitVec 5) (x7 : BitVec 3) (x8 : BitVec 5) (x9 : BitVec 18) : Statement (.amax x0 x1 x2 x3 x4 x5 x6 x7 x8 x9) := fun _ => Nat.zero_le _
theorem aminu (x0 : BitVec 20) (x1 : BitVec 3) (x2 : BitVec 5) (x3 : BitVec 5) (x4 : BitVec 5) (x5 : BitVec 5) (x6 : BitVec 5) (x7 : BitVec 3) (x8 : BitVec 5) (x9 : BitVec 18) : Statement (.aminu x0 x1 x2 x3 x4 x5 x6 x7 x8 x9) := fun _ => Nat.zero_le _
theorem amaxu (x0 : BitVec 20) (x1 : BitVec 3) (x2 : BitVec 5) (x3 : BitVec 5) (x4 : BitVec 5) (x5 : BitVec 5) (x6 : BitVec 5) (x7 : BitVec 3) (x8 : BitVec 5) (x9 : BitVec 18) : Statement (.amaxu x0 x1 x2 x3 x4 x5 x6 x7 x8 x9) := fun _ => Nat.zero_le _
theorem axchg (x0 : BitVec 20) (x1 : BitVec 3) (x2 : BitVec 5) (x3 : BitVec 5) (x4 : BitVec 5) (x5 : BitVec 5) (x6 : BitVec 5) (x7 : BitVec 3) (x8 : BitVec 5) (x9 : BitVec 18) : Statement (.axchg x0 x1 x2 x3 x4 x5 x6 x7 x8 x9) := fun _ => Nat.zero_le _
theorem acas (x0 : BitVec 20) (x1 : BitVec 3) (x2 : BitVec 5) (x3 : BitVec 5) (x4 : BitVec 5) (x5 : BitVec 5) (x6 : BitVec 5) (x7 : BitVec 3) (x8 : BitVec 5) (x9 : BitVec 18) : Statement (.acas x0 x1 x2 x3 x4 x5 x6 x7 x8 x9) := fun _ => Nat.zero_le _
theorem vaflt (x0 : BitVec 20) (x1 : BitVec 3) (x2 : BitVec 3) (x3 : BitVec 5) (x4 : BitVec 3) (x5 : BitVec 3) (x6 : BitVec 11) (x7 : BitVec 24) : Statement (.vaflt x0 x1 x2 x3 x4 x5 x6 x7) := fun _ => Nat.zero_le _
theorem tki (x0 : BitVec 20) (x1 : BitVec 3) (x2 : BitVec 5) (x3 : BitVec 3) (x4 : BitVec 5) (x5 : BitVec 3) (x6 : BitVec 3) (x7 : BitVec 6) (x8 : BitVec 24) : Statement (.tki x0 x1 x2 x3 x4 x5 x6 x7 x8) := fun _ => Nat.zero_le _
theorem nop (x0 : BitVec 20) (x1 : BitVec 3) (x2 : BitVec 5) (x3 : BitVec 5) (x4 : BitVec 5) : Statement (.nop x0 x1 x2 x3 x4) := fun _ => Nat.zero_le _
theorem endThread (x0 : BitVec 20) (x1 : BitVec 3) (x2 : BitVec 5) (x3 : BitVec 5) (x4 : BitVec 5) : Statement (.endThread x0 x1 x2 x3 x4) := fun _ => Nat.zero_le _
theorem brk (x0 : BitVec 20) (x1 : BitVec 3) (x2 : BitVec 5) (x3 : BitVec 5) (x4 : BitVec 5) : Statement (.brk x0 x1 x2 x3 x4) := fun _ => Nat.zero_le _
theorem bar (x0 : BitVec 20) (x1 : BitVec 3) (x2 : BitVec 5) (x3 : BitVec 5) (x4 : BitVec 5) : Statement (.bar x0 x1 x2 x3 x4) := fun _ => Nat.zero_le _
theorem fence (x0 : BitVec 20) (x1 : BitVec 3) (x2 : BitVec 5) (x3 : BitVec 5) (x4 : BitVec 5) : Statement (.fence x0 x1 x2 x3 x4) := fun _ => Nat.zero_le _
theorem dwait (x0 : BitVec 20) (x1 : BitVec 3) (x2 : BitVec 5) (x3 : BitVec 5) (x4 : BitVec 5) : Statement (.dwait x0 x1 x2 x3 x4) := fun _ => Nat.zero_le _
theorem vwait (x0 : BitVec 20) (x1 : BitVec 3) (x2 : BitVec 5) (x3 : BitVec 5) (x4 : BitVec 5) : Statement (.vwait x0 x1 x2 x3 x4) := fun _ => Nat.zero_le _
theorem waite (x0 : BitVec 20) (x1 : BitVec 3) (x2 : BitVec 5) (x3 : BitVec 5) (x4 : BitVec 5) : Statement (.waite x0 x1 x2 x3 x4) := fun _ => Nat.zero_le _
theorem vectorEngineExecute (x0 : BitVec 20) : Statement (.vectorEngineExecute x0) := fun _ => Nat.zero_le _
theorem matrixEngineExecute (x0 : BitVec 20) : Statement (.matrixEngineExecute x0) := fun _ => Nat.zero_le _
theorem matrixOpComplete (x0 : BitVec 20) : Statement (.matrixOpComplete x0) := fun _ => Nat.zero_le _
theorem loadReturn (x0 : BitVec 20) (x1 : BitVec 3) (x2 : Nat) : Statement (.loadReturn x0 x1 x2) := fun _ => Nat.zero_le _
theorem writeBufferComplete (x0 : BitVec 20) (x1 : Nat) : Statement (.writeBufferComplete x0 x1) := fun _ => Nat.zero_le _
theorem dmaTagComplete (x0 : BitVec 20) (x1 : BitVec 3) (x2 : BitVec 2) : Statement (.dmaTagComplete x0 x1 x2) := fun _ => Nat.zero_le _
theorem remoteTimeout (x0 : Fin 8) (x1 : BitVec 16) : Statement (.remoteTimeout x0 x1) := fun _ => Nat.zero_le _
theorem waiteTimeout (x0 : BitVec 20) (x1 : BitVec 3) : Statement (.waiteTimeout x0 x1) := fun _ => Nat.zero_le _
theorem barrierRelease (x0 : BitVec 16) : Statement (.barrierRelease x0) := fun _ => Nat.zero_le _
theorem threadDrained (x0 : BitVec 20) (x1 : BitVec 3) : Statement (.threadDrained x0 x1) := fun _ => Nat.zero_le _
theorem groupEnd (x0 : BitVec 16) : Statement (.groupEnd x0) := fun _ => Nat.zero_le _
theorem takeGroupNumber (x0 : Fin 8) (x1 : BitVec 12) : Statement (.takeGroupNumber x0 x1) := fun _ => Nat.zero_le _
theorem placeGroup (x0 : Fin 8) (x1 : BitVec 12) : Statement (.placeGroup x0 x1) := fun _ => Nat.zero_le _
theorem deferredWake (x0 : Fin 8) (x1 : Fin 128) : Statement (.deferredWake x0 x1) := fun _ => Nat.zero_le _
theorem regionActive (x0 : Fin 8) (x1 : Fin 128) : Statement (.regionActive x0 x1) := fun _ => Nat.zero_le _
theorem idleDelayExpiry (x0 : Fin 8) (x1 : Fin 128) : Statement (.idleDelayExpiry x0 x1) := fun _ => Nat.zero_le _
theorem offDelayExpiry (x0 : Fin 8) (x1 : Fin 128) : Statement (.offDelayExpiry x0 x1) := fun _ => Nat.zero_le _
theorem regionEntryComplete (x0 : Fin 8) (x1 : Fin 128) : Statement (.regionEntryComplete x0 x1) := fun _ => Nat.zero_le _
theorem kernelStart (x0 : BitVec 12) : Statement (.kernelStart x0) := fun _ => Nat.zero_le _
theorem persistentRelease (x0 : BitVec 12) : Statement (.persistentRelease x0) := fun _ => Nat.zero_le _
theorem kernelEnd (x0 : BitVec 12) : Statement (.kernelEnd x0) := fun _ => Nat.zero_le _
theorem katSlice (x0 : BitVec 20) : Statement (.katSlice x0) := fun _ => Nat.zero_le _
theorem katSliceEnd (x0 : BitVec 20) (x1 : Bool) (x2 : Nat) : Statement (.katSliceEnd x0 x1 x2) := fun _ => Nat.zero_le _
theorem katInterval (x0 : BitVec 20) : Statement (.katInterval x0) := fun _ => Nat.zero_le _
theorem launch (x0 : BitVec 12) (x1 : BitVec 512) : Statement (.launch x0 x1) := fun _ => Nat.zero_le _
theorem search (x0 : BitVec 12) (x1 : BitVec 512) : Statement (.search x0 x1) := fun _ => Nat.zero_le _
theorem gather (x0 : BitVec 12) (x1 : BitVec 512) : Statement (.gather x0 x1) := fun _ => Nat.zero_le _
theorem gatherPool (x0 : BitVec 12) (x1 : BitVec 512) : Statement (.gatherPool x0 x1) := fun _ => Nat.zero_le _
theorem scatterSet (x0 : BitVec 12) (x1 : BitVec 512) : Statement (.scatterSet x0 x1) := fun _ => Nat.zero_le _
theorem scatterAdd (x0 : BitVec 12) (x1 : BitVec 512) : Statement (.scatterAdd x0 x1) := fun _ => Nat.zero_le _
theorem publishOpen (x0 : BitVec 12) (x1 : BitVec 512) : Statement (.publishOpen x0 x1) := fun _ => Nat.zero_le _
theorem publishExtent (x0 : BitVec 12) (x1 : BitVec 512) : Statement (.publishExtent x0 x1) := fun _ => Nat.zero_le _
theorem publishShare (x0 : BitVec 12) (x1 : BitVec 512) : Statement (.publishShare x0 x1) := fun _ => Nat.zero_le _
theorem publishSeal (x0 : BitVec 12) (x1 : BitVec 512) : Statement (.publishSeal x0 x1) := fun _ => Nat.zero_le _
theorem publishAbort (x0 : BitVec 12) (x1 : BitVec 512) : Statement (.publishAbort x0 x1) := fun _ => Nat.zero_le _
theorem vintageRetire (x0 : BitVec 12) (x1 : BitVec 512) : Statement (.vintageRetire x0 x1) := fun _ => Nat.zero_le _
theorem counterRead (x0 : BitVec 12) (x1 : BitVec 512) : Statement (.counterRead x0 x1) := fun _ => Nat.zero_le _
theorem hubOrderRun (x0 : BitVec 12) : Statement (.hubOrderRun x0) := fun _ => Nat.zero_le _
theorem svcSend (x0 : BitVec 12) (x1 : BitVec 512) : Statement (.svcSend x0 x1) := fun _ => Nat.zero_le _
theorem svcSendAck (x0 : BitVec 12) (x1 : Nat) : Statement (.svcSendAck x0 x1) := fun _ => Nat.zero_le _
theorem contextSet (x0 : BitVec 12) (x1 : BitVec 512) : Statement (.contextSet x0 x1) := fun _ => Nat.zero_le _
theorem contextReset (x0 : BitVec 12) (x1 : BitVec 512) : Statement (.contextReset x0 x1) := fun _ => Nat.zero_le _
theorem contextAbort (x0 : BitVec 12) (x1 : BitVec 512) : Statement (.contextAbort x0 x1) := fun _ => Nat.zero_le _
theorem contextFree (x0 : BitVec 12) (x1 : BitVec 512) : Statement (.contextFree x0 x1) := fun _ => Nat.zero_le _
theorem segSet (x0 : BitVec 12) (x1 : BitVec 512) : Statement (.segSet x0 x1) := fun _ => Nat.zero_le _
theorem segRebind (x0 : BitVec 12) (x1 : BitVec 512) : Statement (.segRebind x0 x1) := fun _ => Nat.zero_le _
theorem segDelete (x0 : BitVec 12) (x1 : BitVec 512) : Statement (.segDelete x0 x1) := fun _ => Nat.zero_le _
theorem resume (x0 : BitVec 12) (x1 : BitVec 512) : Statement (.resume x0 x1) := fun _ => Nat.zero_le _
theorem faultRecordDelayedPost : Statement (.faultRecordDelayedPost) := fun _ => Nat.zero_le _
theorem serviceTimeout (x0 : BitVec 20) (x1 : BitVec 3) : Statement (.serviceTimeout x0 x1) := fun _ => Nat.zero_le _
theorem pageRelease (x0 : Fin 8) (x1 : BitVec 17) : Statement (.pageRelease x0 x1) := fun _ => Nat.zero_le _
theorem tableSet (x0 : BitVec 12) (x1 : BitVec 512) : Statement (.tableSet x0 x1) := fun _ => Nat.zero_le _
theorem svcIntake (x0 : BitVec 12) (x1 : BitVec 512) : Statement (.svcIntake x0 x1) := fun _ => Nat.zero_le _
theorem svcPost (x0 : BitVec 12) (x1 : BitVec 512) : Statement (.svcPost x0 x1) := fun _ => Nat.zero_le _
theorem cohAttach (x0 : BitVec 12) (x1 : BitVec 512) : Statement (.cohAttach x0 x1) := fun _ => Nat.zero_le _
theorem qpSet (x0 : BitVec 12) (x1 : BitVec 512) : Statement (.qpSet x0 x1) := fun _ => Nat.zero_le _
theorem keySet (x0 : BitVec 12) (x1 : BitVec 512) : Statement (.keySet x0 x1) := fun _ => Nat.zero_le _
theorem cringSet (x0 : BitVec 12) (x1 : BitVec 512) : Statement (.cringSet x0 x1) := fun _ => Nat.zero_le _
theorem mapPropose (x0 : BitVec 12) (x1 : BitVec 512) : Statement (.mapPropose x0 x1) := fun _ => Nat.zero_le _
theorem keyRevoke (x0 : BitVec 12) (x1 : BitVec 512) : Statement (.keyRevoke x0 x1) := fun _ => Nat.zero_le _
theorem ledgerSet (x0 : BitVec 12) (x1 : BitVec 512) : Statement (.ledgerSet x0 x1) := fun _ => Nat.zero_le _
theorem ckptSet (x0 : BitVec 12) (x1 : BitVec 512) : Statement (.ckptSet x0 x1) := fun _ => Nat.zero_le _
theorem ckptTake (x0 : BitVec 12) (x1 : BitVec 512) : Statement (.ckptTake x0 x1) := fun _ => Nat.zero_le _
theorem ckptRestore (x0 : BitVec 12) (x1 : BitVec 512) : Statement (.ckptRestore x0 x1) := fun _ => Nat.zero_le _
theorem commandWindowWrite (x0 : BitVec 14) (x1 : BitVec 32) (x2 : BitVec 64) (x3 : List (BitVec 512)) : Statement (.commandWindowWrite x0 x1 x2 x3) := by
  intro h; have h1 : x3.length ≤ 2 ^ 25 := of_decide_eq_true h; show 64 * x3.length ≤ 2 ^ 31; omega
theorem sysDesc (x0 : BitVec 512) : Statement (.sysDesc x0) := fun _ => Nat.zero_le _
theorem postAreaConsume (x0 : BitVec 20) (x1 : BitVec 3) (x2 : BitVec 2) : Statement (.postAreaConsume x0 x1 x2) := fun _ => Nat.zero_le _
theorem completionWrite (x0 : BitVec 12) (x1 : Nat) : Statement (.completionWrite x0 x1) := fun _ => Nat.zero_le _
theorem freedUpdate (x0 : BitVec 12) (x1 : Nat) : Statement (.freedUpdate x0 x1) := fun _ => Nat.zero_le _
theorem ident (x0 : Fin 17) (x1 : BitVec 256) (x2 : BitVec 64) (x3 : BitVec 16) : Statement (.ident x0 x1 x2 x3) := fun _ => Nat.zero_le _
theorem readData (x0 : Fin 17) (x1 : CelEcho) (x2 x3 : BitVec 8) (x4 : List (BitVec 8)) : Statement (.readData x0 x1 x2 x3 x4) := by
  intro h; have h1 : x4.length % 4096 = 0 ∧ x4.length ≤ 256 * 4096 := of_decide_eq_true h; show x4.length ≤ 2 ^ 31; omega
theorem writeAck (x0 : Fin 17) (x1 : CelEcho) (x2 : BitVec 8) : Statement (.writeAck x0 x1 x2) := fun _ => Nat.zero_le _
theorem trimAck (x0 : Fin 17) (x1 : CelHdr) : Statement (.trimAck x0 x1) := fun _ => Nat.zero_le _
theorem status (x0 : Fin 17) (x1 : BitVec 8) (x2 : BitVec 8) (x3 : BitVec 8) (x4 : BitVec 16) : Statement (.status x0 x1 x2 x3 x4) := fun _ => Nat.zero_le _
theorem error (x0 : Fin 17) (x1 : BitVec 40) : Statement (.error x0 x1) := fun _ => Nat.zero_le _
theorem cellarReadTimeout (x0 : Fin 17) (x1 : BitVec 16) : Statement (.cellarReadTimeout x0 x1) := fun _ => Nat.zero_le _
theorem cellarStatusTimeout (x0 : Fin 17) : Statement (.cellarStatusTimeout x0) := fun _ => Nat.zero_le _
theorem cellarLinkDownTimeout (x0 : Fin 17) : Statement (.cellarLinkDownTimeout x0) := fun _ => Nat.zero_le _
theorem rebuildPeriod : Statement (.rebuildPeriod) := fun _ => Nat.zero_le _
theorem cellarScrubPeriod (x0 : Unit) : Statement (.cellarScrubPeriod x0) := fun _ => Nat.zero_le _
theorem larderScrub (x0 : Fin 8) (x1 : Fin 2) (x2 : Bool) (x3 : Bool) : Statement (.larderScrub x0 x1 x2 x3) := fun _ => Nat.zero_le _
theorem searchForward (x0 : BitVec 16) (x1 : BitVec 12) (x2 : BitVec 512) (x3 : Nat) (x4 : List QueryFwd) : Statement (.searchForward x0 x1 x2 x3 x4) := fun _ => Nat.zero_le _
theorem listBatchIssue (x0 : Fin 8) (x1 : BitVec 12) : Statement (.listBatchIssue x0 x1) := fun _ => Nat.zero_le _
theorem listBatchEnd (x0 : Fin 8) (x1 : Fin 128) : Statement (.listBatchEnd x0 x1) := fun _ => Nat.zero_le _
theorem searchRoundEnd (x0 : BitVec 12) : Statement (.searchRoundEnd x0) := fun _ => Nat.zero_le _
theorem searchPeerReply (x0 : BitVec 12) (x1 : BitVec 16) (x2 : PeerReply) : Statement (.searchPeerReply x0 x1 x2) := fun _ => Nat.zero_le _
theorem searchPeerTimeout (x0 : BitVec 12) (x1 : BitVec 16) : Statement (.searchPeerTimeout x0 x1) := fun _ => Nat.zero_le _
theorem searchAbort (x0 : AbortMsg) : Statement (.searchAbort x0) := fun _ => Nat.zero_le _
theorem prefetch (x0 : BitVec 12) (x1 : BitVec 6) : Statement (.prefetch x0 x1) := fun _ => Nat.zero_le _
theorem embUpdate (x0 : EmbUpd) : Statement (.embUpdate x0) := by
  intro h; have h1 : x0.data.length ≤ 65536 := of_decide_eq_true h; show x0.data.length ≤ 2 ^ 31; omega
theorem endMarker (x0 : Fin 17) (x1 : ReqHdr) (x2 : BitVec 12) (x3 : BitVec 6) (x4 : Nat) (x5 : Nat) : Statement (.endMarker x0 x1 x2 x3 x4 x5) := fun _ => Nat.zero_le _
theorem collectiveTimeout (x0 : BitVec 12) (x1 : BitVec 6) : Statement (.collectiveTimeout x0 x1) := fun _ => Nat.zero_le _
theorem embWindowEnd : Statement (.embWindowEnd) := fun _ => Nat.zero_le _
theorem shardCountReport (x0 : BitVec 12) (x1 : BitVec 6) (x2 : Nat) (x3 : Nat) (x4 : List (Nat × Nat)) : Statement (.shardCountReport x0 x1 x2 x3 x4) := fun _ => Nat.zero_le _
theorem migrationOffer (x0 : BitVec 12) (x1 : BitVec 6) (x2 : Nat) (x3 : BitVec 32) (x4 : List Nat) : Statement (.migrationOffer x0 x1 x2 x3 x4) := fun _ => Nat.zero_le _
theorem migrationReady (x0 : BitVec 12) (x1 : BitVec 6) (x2 : Nat) (x3 : BitVec 32) (x4 : List Nat) : Statement (.migrationReady x0 x1 x2 x3 x4) := fun _ => Nat.zero_le _
theorem transfer (x0 : BitVec 12) (x1 : BitVec 6) (x2 : Nat) (x3 : BitVec 32) (x4 : List Nat) : Statement (.transfer x0 x1 x2 x3 x4) := fun _ => Nat.zero_le _
theorem transferAccepted (x0 : BitVec 12) (x1 : BitVec 6) (x2 : Nat) (x3 : BitVec 32) : Statement (.transferAccepted x0 x1 x2 x3) := fun _ => Nat.zero_le _
theorem forwardedRequest (x0 : EmbUpd) (x1 : Bool) : Statement (.forwardedRequest x0 x1) := by
  intro h; have h1 : x0.data.length ≤ 65536 := of_decide_eq_true h; show x0.data.length ≤ 2 ^ 31; omega
theorem intakeFrame (x0 : BitVec 14) (x1 : Option (BitVec 32)) (x2 : List (BitVec 8)) : Statement (.intakeFrame x0 x1 x2) := by
  intro h; have h1 : x2.length ≤ 2 ^ 31 := of_decide_eq_true h; show x2.length ≤ 2 ^ 31; omega
theorem linkTrainingComplete (x0 : Fin 33) : Statement (.linkTrainingComplete x0) := fun _ => Nat.zero_le _
theorem linkTrainingTimeout (x0 : Fin 33) : Statement (.linkTrainingTimeout x0) := fun _ => Nat.zero_le _
theorem hello (x0 : Fin 33) (x1 : Flit) (x2 : HelloBody) : Statement (.hello x0 x1 x2) := fun _ => Nat.zero_le _
theorem helloTimer (x0 : Fin 33) : Statement (.helloTimer x0) := fun _ => Nat.zero_le _
theorem helloTimeout (x0 : Fin 33) : Statement (.helloTimeout x0) := fun _ => Nat.zero_le _
theorem dataFlit (x0 : Fin 33) (x1 : Flit) : Statement (.dataFlit x0 x1) := fun _ => Nat.zero_le _
theorem idleFlit (x0 : Fin 33) (x1 : Flit) : Statement (.idleFlit x0 x1) := fun _ => Nat.zero_le _
theorem replayRequest (x0 : Fin 33) (x1 : Flit) : Statement (.replayRequest x0 x1) := fun _ => Nat.zero_le _
theorem linkRetryTimeout (x0 : Fin 33) : Statement (.linkRetryTimeout x0) := fun _ => Nat.zero_le _
theorem glyEnable (x0 : Fin 16) (x1 : Bool) : Statement (.glyEnable x0 x1) := fun _ => Nat.zero_le _
theorem glyRetrain (x0 : Fin 16) : Statement (.glyRetrain x0) := fun _ => Nat.zero_le _
theorem portState (x0 : Fin 16) (x1 : BitVec 8) (x2 : BitVec 8) (x3 : BitVec 8) (x4 : BitVec 8) (x5 : BitVec 16) : Statement (.portState x0 x1 x2 x3 x4 x5) := fun _ => Nat.zero_le _
theorem rd (x0 : Fin 17) (x1 : ReqHdr) : Statement (.rd x0 x1) := fun _ => Nat.zero_le _
theorem wr (x0 : Fin 17) (x1 : ReqHdr) (x2 : List (BitVec 8)) : Statement (.wr x0 x1 x2) := by
  intro h; have h1 : x2.length ≤ 4096 := of_decide_eq_true h; show x2.length ≤ 2 ^ 31; omega
theorem pwr (x0 : Fin 17) (x1 : ReqHdr) (x2 : List (BitVec 8)) : Statement (.pwr x0 x1 x2) := by
  intro h; have h1 : x2.length = 72 := of_decide_eq_true h; show x2.length ≤ 2 ^ 31; omega
theorem rdShelf (x0 : Fin 17) (x1 : ReqHdr) : Statement (.rdShelf x0 x1) := fun _ => Nat.zero_le _
theorem wrShelf (x0 : Fin 17) (x1 : ReqHdr) (x2 : List (BitVec 8)) : Statement (.wrShelf x0 x1 x2) := by
  intro h; have h1 : x2.length ≤ 4096 := of_decide_eq_true h; show x2.length ≤ 2 ^ 31; omega
theorem atomic (x0 : Fin 17) (x1 : ReqHdr) (x2 : BitVec 8) (x3 : List (BitVec 8)) : Statement (.atomic x0 x1 x2 x3) := by
  intro h; have h1 : x2.toNat < 16 ∧ x3.length ≤ 16 := of_decide_eq_true h; show x3.length ≤ 2 ^ 31; omega
theorem takeShared (x0 : Fin 17) (x1 : ReqHdr) : Statement (.takeShared x0 x1) := fun _ => Nat.zero_le _
theorem takeOwned (x0 : Fin 17) (x1 : ReqHdr) : Statement (.takeOwned x0 x1) := fun _ => Nat.zero_le _
theorem promote (x0 : Fin 17) (x1 : ReqHdr) : Statement (.promote x0 x1) := fun _ => Nat.zero_le _
theorem giveDirty (x0 : Fin 17) (x1 : ReqHdr) (x2 : List (BitVec 8)) : Statement (.giveDirty x0 x1 x2) := by
  intro h; have h1 : x2.length = 64 := of_decide_eq_true h; show x2.length ≤ 2 ^ 31; omega
theorem giveClean (x0 : Fin 17) (x1 : ReqHdr) : Statement (.giveClean x0 x1) := fun _ => Nat.zero_le _
theorem callShare (x0 : Fin 17) (x1 : ReqHdr) : Statement (.callShare x0 x1) := fun _ => Nat.zero_le _
theorem callDrop (x0 : Fin 17) (x1 : ReqHdr) : Statement (.callDrop x0 x1) := fun _ => Nat.zero_le _
theorem data (x0 : Fin 17) (x1 : RspHdr) (x2 : List (BitVec 8)) : Statement (.data x0 x1 x2) := by
  intro h; have h1 : x2.length ≤ 4096 := of_decide_eq_true h; show x2.length ≤ 2 ^ 31; omega
theorem comp (x0 : Fin 17) (x1 : RspHdr) : Statement (.comp x0 x1) := fun _ => Nat.zero_le _
theorem nack (x0 : Fin 17) (x1 : RspHdr) (x2 : BitVec 32) (x3 : BitVec 32) : Statement (.nack x0 x1 x2 x3) := fun _ => Nat.zero_le _
theorem retry (x0 : Fin 17) (x1 : RspHdr) (x2 : BitVec 32) : Statement (.retry x0 x1 x2) := fun _ => Nat.zero_le _
theorem epochHoldTimeout (x0 : Nat) : Statement (.epochHoldTimeout x0) := fun _ => Nat.zero_le _
theorem requestReissue (x0 : BitVec 16) : Statement (.requestReissue x0) := fun _ => Nat.zero_le _
theorem planeSwitch (x0 : BitVec 16) : Statement (.planeSwitch x0) := fun _ => Nat.zero_le _
theorem attached (x0 : Fin 17) (x1 : ReqHdr) (x2 : BitVec 12) (x3 : BitVec 4) (x4 : BitVec 8) (x5 : BitVec 20) (x6 : BitVec 8) (x7 : BitVec 32) : Statement (.attached x0 x1 x2 x3 x4 x5 x6 x7) := fun _ => Nat.zero_le _
theorem detached (x0 : Fin 17) (x1 : ReqHdr) (x2 : BitVec 12) (x3 : BitVec 4) (x4 : BitVec 8) (x5 : BitVec 20) : Statement (.detached x0 x1 x2 x3 x4 x5) := fun _ => Nat.zero_le _
theorem lease (x0 : Fin 17) (x1 : ReqHdr) (x2 : BitVec 16) : Statement (.lease x0 x1 x2) := fun _ => Nat.zero_le _
theorem leaseAck (x0 : Fin 17) (x1 : ReqHdr) (x2 : BitVec 16) : Statement (.leaseAck x0 x1 x2) := fun _ => Nat.zero_le _
theorem lost (x0 : Fin 17) (x1 : ReqHdr) (x2 : BitVec 16) (x3 : BitVec 8) : Statement (.lost x0 x1 x2 x3) := fun _ => Nat.zero_le _
theorem homeTransactionBegin (x0 : Fin 8) (x1 : Nat) : Statement (.homeTransactionBegin x0 x1) := fun _ => Nat.zero_le _
theorem resnoopTimer (x0 : Fin 8) (x1 : Nat) (x2 : BitVec 6) : Statement (.resnoopTimer x0 x1 x2) := fun _ => Nat.zero_le _
theorem snoopTimeout (x0 : Fin 8) (x1 : Nat) (x2 : BitVec 6) : Statement (.snoopTimeout x0 x1 x2) := fun _ => Nat.zero_le _
theorem leaseExpiry (x0 : BitVec 6) (x1 : BitVec 4) : Statement (.leaseExpiry x0 x1) := fun _ => Nat.zero_le _
theorem cellAdmit (x0 : Fin 58) (x1 : Fin 58) (x2 : Fin 8) (x3 : BitVec 20) (x4 : Option Nat) (x5 : Option IpTuple) : Statement (.cellAdmit x0 x1 x2 x3 x4 x5) := fun _ => Nat.zero_le _
theorem frameAdmit (x0 : Fin 58) (x1 : Fin 58) (x2 : Fin 8) (x3 : BitVec 20) (x4 : Nat) (x5 : Bool) (x6 : Option IpTuple) : Statement (.frameAdmit x0 x1 x2 x3 x4 x5 x6) := fun _ => Nat.zero_le _
theorem cellDepart (x0 : Fin 58) : Statement (.cellDepart x0) := fun _ => Nat.zero_le _
theorem partitionSlotEnd : Statement (.partitionSlotEnd) := fun _ => Nat.zero_le _
theorem meterWrite (x0 : Fin 256) (x1 : BitVec 128) : Statement (.meterWrite x0 x1) := fun _ => Nat.zero_le _
theorem ethLinkUp (x0 : Fin 16) : Statement (.ethLinkUp x0) := fun _ => Nat.zero_le _
theorem ethLinkDown (x0 : Fin 16) : Statement (.ethLinkDown x0) := fun _ => Nat.zero_le _
theorem ethRetrain (x0 : Fin 16) : Statement (.ethRetrain x0) := fun _ => Nat.zero_le _
theorem ethSplit (x0 : Fin 8) (x1 : Bool) : Statement (.ethSplit x0 x1) := fun _ => Nat.zero_le _
theorem frameReceive (x0 : Fin 16) (x1 : RxFrame) : Statement (.frameReceive x0 x1) := fun _ => Nat.zero_le _
theorem pfcFrame (x0 : Fin 16) (x1 : Fin 8) (x2 : BitVec 16) (x3 : Nat) : Statement (.pfcFrame x0 x1 x2 x3) := fun _ => Nat.zero_le _
theorem pauseFrame (x0 : Fin 16) : Statement (.pauseFrame x0) := fun _ => Nat.zero_le _
theorem pfcQuantaExpiry (x0 : Fin 16) (x1 : Fin 8) : Statement (.pfcQuantaExpiry x0 x1) := fun _ => Nat.zero_le _
theorem lldpdu (x0 : Fin 16) (x1 : BitVec 48) (x2 : BitVec 48) (x3 : BitVec 16) (x4 : Option LldpTlv) : Statement (.lldpdu x0 x1 x2 x3 x4) := fun _ => Nat.zero_le _
theorem lldpTxTimer (x0 : Fin 16) : Statement (.lldpTxTimer x0) := fun _ => Nat.zero_le _
theorem lldpTtlExpiry (x0 : Fin 16) : Statement (.lldpTtlExpiry x0) := fun _ => Nat.zero_le _
theorem partnerReport (x0 : BitVec 6) (x1 : BitVec 2) (x2 : BitVec 8) (x3 : Bool) (x4 : BitVec 16) : Statement (.partnerReport x0 x1 x2 x3 x4) := fun _ => Nat.zero_le _
theorem arpRequest (x0 : Fin 16) (x1 : BitVec 32) (x2 : BitVec 48) (x3 : BitVec 32) : Statement (.arpRequest x0 x1 x2 x3) := fun _ => Nat.zero_le _
theorem neighbourSolicitation (x0 : Fin 16) (x1 : BitVec 128) (x2 : BitVec 48) (x3 : BitVec 128) : Statement (.neighbourSolicitation x0 x1 x2 x3) := fun _ => Nat.zero_le _
theorem send (x0 : BitVec 14) (x1 : Bool) (x2 : BitVec 24) (x3 : Option (BitVec 32)) (x4 : List (BitVec 8)) : Statement (.send x0 x1 x2 x3 x4) := by
  intro h; have h1 : x4.length ≤ 2 ^ 31 := of_decide_eq_true h; show x4.length ≤ 2 ^ 31; omega
theorem rdmaWrite (x0 : BitVec 14) (x1 : Bool) (x2 : BitVec 24) (x3 : BitVec 32) (x4 : BitVec 64) (x5 : List (BitVec 8)) : Statement (.rdmaWrite x0 x1 x2 x3 x4 x5) := by
  intro h; have h1 : x5.length ≤ 2 ^ 31 := of_decide_eq_true h; show x5.length ≤ 2 ^ 31; omega
theorem rdmaRead (x0 : BitVec 14) (x1 : Bool) (x2 : BitVec 24) (x3 : BitVec 32) (x4 : BitVec 64) (x5 : Nat) : Statement (.rdmaRead x0 x1 x2 x3 x4 x5) := fun _ => Nat.zero_le _
theorem acknowledge (x0 : BitVec 14) (x1 : BitVec 24) : Statement (.acknowledge x0 x1) := fun _ => Nat.zero_le _
theorem nak (x0 : BitVec 14) (x1 : BitVec 24) (x2 : BitVec 8) : Statement (.nak x0 x1 x2) := fun _ => Nat.zero_le _
theorem cnp (x0 : BitVec 14) : Statement (.cnp x0) := fun _ => Nat.zero_le _
theorem ackTimeout (x0 : BitVec 14) : Statement (.ackTimeout x0) := fun _ => Nat.zero_le _
theorem ccStep : Statement (.ccStep) := fun _ => Nat.zero_le _
theorem mapAppend (x0 : BitVec 6) (x1 : BitVec 32) (x2 : BitVec 32) (x3 : Proposal) : Statement (.mapAppend x0 x1 x2 x3) := fun _ => Nat.zero_le _
theorem mapAck (x0 : BitVec 6) (x1 : BitVec 32) (x2 : BitVec 32) : Statement (.mapAck x0 x1 x2) := fun _ => Nat.zero_le _
theorem mapNack (x0 : BitVec 6) (x1 : BitVec 32) (x2 : BitVec 32) (x3 : BitVec 8) : Statement (.mapNack x0 x1 x2 x3) := fun _ => Nat.zero_le _
theorem mapCommit (x0 : BitVec 6) (x1 : BitVec 32) (x2 : BitVec 32) : Statement (.mapCommit x0 x1 x2) := fun _ => Nat.zero_le _
theorem mapAbandon (x0 : BitVec 6) (x1 : BitVec 32) (x2 : BitVec 32) (x3 : BitVec 8) : Statement (.mapAbandon x0 x1 x2 x3) := fun _ => Nat.zero_le _
theorem mapCommitTimeout : Statement (.mapCommitTimeout) := fun _ => Nat.zero_le _
theorem epochApply : Statement (.epochApply) := fun _ => Nat.zero_le _
theorem epochDrain : Statement (.epochDrain) := fun _ => Nat.zero_le _
theorem mapHeartbeat (x0 : BitVec 6) (x1 : BitVec 32) (x2 : BitVec 32) (x3 : List (BitVec 128)) : Statement (.mapHeartbeat x0 x1 x2 x3) := fun _ => Nat.zero_le _
theorem heartbeatTimer : Statement (.heartbeatTimer) := fun _ => Nat.zero_le _
theorem heartbeatLoss (x0 : BitVec 6) : Statement (.heartbeatLoss x0) := fun _ => Nat.zero_le _
theorem logCatchUp (x0 : BitVec 6) (x1 : BitVec 32) (x2 : BitVec 32) (x3 : Proposal) : Statement (.logCatchUp x0 x1 x2 x3) := fun _ => Nat.zero_le _
theorem ownershipDispute (x0 : Nat) (x1 : BitVec 6) (x2 : BitVec 6) (x3 : BitVec 32) (x4 : BitVec 32) (x5 : Bool) (x6 : Bool) (x7 : Bool) (x8 : Bool) : Statement (.ownershipDispute x0 x1 x2 x3 x4 x5 x6 x7 x8) := fun _ => Nat.zero_le _
theorem ownerSet (x0 : Nat) (x1 : BitVec 6) (x2 : BitVec 32) : Statement (.ownerSet x0 x1 x2) := fun _ => Nat.zero_le _
theorem chargeRecordTimer : Statement (.chargeRecordTimer) := fun _ => Nat.zero_le _
theorem revocationComplete (x0 : Nat) : Statement (.revocationComplete x0) := fun _ => Nat.zero_le _
theorem packageQuiescent (x0 : BitVec 20) : Statement (.packageQuiescent x0) := fun _ => Nat.zero_le _
theorem quiescent (x0 : BitVec 20) (x1 : BitVec 16) (x2 : BitVec 32) (x3 : BitVec 32) : Statement (.quiescent x0 x1 x2 x3) := fun _ => Nat.zero_le _
theorem roundClose (x0 : BitVec 20) (x1 : BitVec 32) : Statement (.roundClose x0 x1) := fun _ => Nat.zero_le _
theorem exactSumResume (x0 : Fin 8) (x1 : Nat) : Statement (.exactSumResume x0 x1) := fun _ => Nat.zero_le _
theorem ckptInterval (x0 : BitVec 20) : Statement (.ckptInterval x0) := fun _ => Nat.zero_le _
theorem freeze (x0 : BitVec 20) (x1 : BitVec 32) : Statement (.freeze x0 x1) := fun _ => Nat.zero_le _
theorem drainComplete (x0 : BitVec 20) : Statement (.drainComplete x0) := fun _ => Nat.zero_le _
theorem drained (x0 : BitVec 20) (x1 : BitVec 32) (x2 : BitVec 16) : Statement (.drained x0 x1 x2) := fun _ => Nat.zero_le _
theorem copy (x0 : BitVec 20) (x1 : BitVec 32) : Statement (.copy x0 x1) := fun _ => Nat.zero_le _
theorem staged (x0 : BitVec 20) (x1 : BitVec 32) (x2 : BitVec 16) : Statement (.staged x0 x1 x2) := fun _ => Nat.zero_le _
theorem ckptCommit (x0 : BitVec 20) (x1 : BitVec 32) : Statement (.ckptCommit x0 x1) := fun _ => Nat.zero_le _
theorem ckptAbort (x0 : BitVec 20) (x1 : BitVec 32) : Statement (.ckptAbort x0 x1) := fun _ => Nat.zero_le _
theorem ckptTimeout (x0 : BitVec 20) : Statement (.ckptTimeout x0) := fun _ => Nat.zero_le _
theorem restore (x0 : BitVec 20) (x1 : BitVec 32) : Statement (.restore x0 x1) := fun _ => Nat.zero_le _
theorem spareSwitchIn (x0 : Fin 8) (x1 : Fin 128) (x2 : Fin 64) (x3 : Fin 16) (x4 : Bool) : Statement (.spareSwitchIn x0 x1 x2 x3 x4) := fun _ => Nat.zero_le _
theorem healthSaveTimer : Statement (.healthSaveTimer) := fun _ => Nat.zero_le _
theorem rattleUnlock : Statement (.rattleUnlock) := fun _ => Nat.zero_le _
theorem rattleLock : Statement (.rattleLock) := fun _ => Nat.zero_le _
theorem rattleInject : Statement (.rattleInject) := fun _ => Nat.zero_le _
theorem pwrfailNFall : Statement (.pwrfailNFall) := fun _ => Nat.zero_le _
theorem powerFailFlushDone : Statement (.powerFailFlushDone) := fun _ => Nat.zero_le _
theorem pwrfailNRise : Statement (.pwrfailNRise) := fun _ => Nat.zero_le _
theorem tokenRefill : Statement (.tokenRefill) := fun _ => Nat.zero_le _
theorem suppressNote (x0 : BitVec 16) : Statement (.suppressNote x0) := fun _ => Nat.zero_le _
theorem irqLeafWrite (x0 : Fin 16) (x1 : Fin 8) (x2 : BitVec 32) : Statement (.irqLeafWrite x0 x1 x2) := fun _ => Nat.zero_le _
theorem pwrTripWrite (x0 : BitVec 9) : Statement (.pwrTripWrite x0) := fun _ => Nat.zero_le _
theorem standbySupplyApplied : Statement (.standbySupplyApplied) := fun _ => Nat.zero_le _
theorem porstNFall : Statement (.porstNFall) := fun _ => Nat.zero_le _
theorem porstNRelease : Statement (.porstNRelease) := fun _ => Nat.zero_le _
theorem warmN (x0 : Nat) : Statement (.warmN x0) := fun _ => Nat.zero_le _
theorem startCtrlCold : Statement (.startCtrlCold) := fun _ => Nat.zero_le _
theorem startCtrlWarm : Statement (.startCtrlWarm) := fun _ => Nat.zero_le _
theorem startCtrlLoader : Statement (.startCtrlLoader) := fun _ => Nat.zero_le _
theorem fwCommit : Statement (.fwCommit) := fun _ => Nat.zero_le _
theorem startStepComplete (x0 : Bool) (x1 : Nat) : Statement (.startStepComplete x0 x1) := fun _ => Nat.zero_le _
theorem startStepTimeout : Statement (.startStepTimeout) := fun _ => Nat.zero_le _
theorem startRejoinTimeout : Statement (.startRejoinTimeout) := fun _ => Nat.zero_le _
theorem refclkLoss : Statement (.refclkLoss) := fun _ => Nat.zero_le _
theorem refclkReturn : Statement (.refclkReturn) := fun _ => Nat.zero_le _
theorem throttle (x0 : Fin 8) (x1 : Fin 128) (x2 : BitVec 16) : Statement (.throttle x0 x1 x2) := fun _ => Nat.zero_le _
theorem thermTrip (x0 : Fin 9) (x1 : BitVec 16) : Statement (.thermTrip x0 x1) := fun _ => Nat.zero_le _
theorem avsFault (x0 : Fin 9) (x1 : BitVec 16) : Statement (.avsFault x0 x1) := fun _ => Nat.zero_le _
theorem voltageStep (x0 : Fin 9) (x1 : Bool) : Statement (.voltageStep x0 x1) := fun _ => Nat.zero_le _
theorem railFault (x0 : Fin 9) (x1 : BitVec 16) : Statement (.railFault x0 x1) := fun _ => Nat.zero_le _
theorem enroll : Statement (.enroll) := fun _ => Nat.zero_le _
theorem svnCommit : Statement (.svnCommit) := fun _ => Nat.zero_le _
theorem debugUnlock : Statement (.debugUnlock) := fun _ => Nat.zero_le _
theorem spiUnlock : Statement (.spiUnlock) := fun _ => Nat.zero_le _
theorem spiLock : Statement (.spiLock) := fun _ => Nat.zero_le _
theorem attestGo : Statement (.attestGo) := fun _ => Nat.zero_le _
theorem attestDone : Statement (.attestDone) := fun _ => Nat.zero_le _
theorem linkKeyWrite (x0 : Fin 33) (x1 : BitVec 640) : Statement (.linkKeyWrite x0 x1) := fun _ => Nat.zero_le _
theorem spiRead (x0 : BitVec 32) (x1 : Nat) : Statement (.spiRead x0 x1) := fun _ => Nat.zero_le _
theorem spiWrite (x0 : BitVec 32) (x1 : List (BitVec 8)) : Statement (.spiWrite x0 x1) := fun _ => Nat.zero_le _
theorem i3cPrivateWrite (x0 : BitVec 8) : Statement (.i3cPrivateWrite x0) := fun _ => Nat.zero_le _
theorem i3cPrivateRead (x0 : Nat) : Statement (.i3cPrivateRead x0) := fun _ => Nat.zero_le _
theorem entdaa (x0 : BitVec 7) : Statement (.entdaa x0) := fun _ => Nat.zero_le _
theorem sensorRefresh : Statement (.sensorRefresh) := fun _ => Nat.zero_le _
theorem extest : Statement (.extest) := fun _ => Nat.zero_le _
theorem samplePreload (x0 : BitVec 63) : Statement (.samplePreload x0) := fun _ => Nat.zero_le _
theorem idcode : Statement (.idcode) := fun _ => Nat.zero_le _
theorem bypass : Statement (.bypass) := fun _ => Nat.zero_le _
theorem registerWrite (x0 : BitVec 32) (x1 : BitVec 32) : Statement (.registerWrite x0 x1) := fun _ => Nat.zero_le _
theorem regionFault (x0 : Fin 8) (x1 : Fin 128) (x2 : Nat) : Statement (.regionFault x0 x1 x2) := fun _ => Nat.zero_le _
theorem temperatureBandChange (x0 : Fin 8) (x1 : Fin 128) (x2 : BitVec 16) : Statement (.temperatureBandChange x0 x1 x2) := fun _ => Nat.zero_le _
theorem ethEnable (x0 : Fin 16) (x1 : Bool) : Statement (.ethEnable x0 x1) := fun _ => Nat.zero_le _
theorem reproDefaultsWrite (x0 : BitVec 32) : Statement (.reproDefaultsWrite x0) := fun _ => Nat.zero_le _
theorem standbySupplyLoss : Statement (.standbySupplyLoss) := fun _ => Nat.zero_le _
theorem proposalForward (x0 : BitVec 6) (x1 : Proposal) : Statement (.proposalForward x0 x1) := fun _ => Nat.zero_le _
theorem replacementComplete (x0 : Fin 8) (x1 : Fin 128) : Statement (.replacementComplete x0 x1) := fun _ => Nat.zero_le _

end Sys2Proof.Laws.BodyBound
end

