-- ==== Sys2Proof/Tests/Slice0.lean ====
section
/-! SUPPORT. Tests: a term of the wrong size for each check of WellFormed, worked figures of the manual, and for every
statement states that meet its hypotheses. -/

set_option Elab.async false

namespace Sys2Proof.Tests

open Sys2Proof Sys2Proof.Machine

/-! ### States -/

/-- A package that has started. -/
def up : State := { State.reset with start := { StartSt.reset with mode := .ready, step := 9 } }
/-- A Larder segment of one die, 4 MiB long, that grants everything. -/
def seg (die : Nat) : Seg :=
  { tier := 0, placement := 0, die := die, present := true, r := true, w := true, a := true, c := false, cohMode := 0, src := none,
    base := 0, limit := 2 ^ 22, vintage := 0, pages := [(die * 2 ^ 40, 5), (die * 2 ^ 40 + 1, 6)] }
/-- A descriptor of an opcode with nothing else set. -/
def plain (op : Nat) : QDesc := { op := op, seq := 0, d := withOp op 0, sys := false, status := none, post := none, fwd := none }
/-- A kernel of that opcode. -/
def kern (op : Nat) : Kernel :=
  { q := plain op, next := 0, ended := 0, closed := false, cause := 0, exc := none, result := none, pins := [], released := false, ahead := [] }
/-- A thread of context 1 that is ready. -/
def thr1 : Thread := { Thread.reset with st := .ready, ctx := 1, s := (Vector.replicate 32 0).set 3 64 }
/-- A context with that segment and a kernel running on region 0 of die 0. -/
def ctx1 : Ctx := { Ctx.reset with st := .running, dieMask := 1, cnt := 1, segs := [(0, seg 0)], kernel := some (kern 1) }
/-- Unit 0 runs a thread of context 1. -/
def busy : State :=
  { up with
    ctxs := [(0, { Ctx.reset with st := .idle }), (1, ctx1)]
    units := [(0, Unt.reset.setThr 0 thr1)]
    groups := [(0, ⟨1, 0, 8, true, [], []⟩)]
    rgns := [(0, { Rgn.reset with pow := .active })] }

/-- An instruction of thread 0 of unit 0 issues in a state. -/
def issues (s : State) (len : Nat) (w : Want) (srcs : List Reg) : Bool :=
  !s.dead && s.unitOk 0 && s.selected 0 0 && (s.fetchCheck (s.thr 0 0).ctx (s.thr 0 0).pc.toNat len == none) &&
    !s.absent (s.thr 0 0).ctx (s.thr 0 0).pc.toNat && (!s.fetchFar (s.thr 0 0).ctx (s.thr 0 0).pc.toNat len ||
      s.fetchCame 0 0 (s.thr 0 0).ctx (s.thr 0 0).pc.toNat len) && !(s.fetched 0 0 len).1 && !s.issueFlaw 0 (s.thr 0 0).ctx (s.thr 0 0).pc.toNat len && (s.unt 0).wantOk 0 w && srcs.all (fun r => (s.thr 0 0).mark? r == none)
theorem issues_of {s : State} {len : Nat} {w : Want} {srcs : List Reg} (h : issues s len w srcs = true) :
    s.Issues 0 0 len w srcs := by
  simp only [issues, Bool.and_eq_true, Bool.or_eq_true, Bool.not_eq_true', beq_iff_eq, List.all_eq_true] at h
  obtain ⟨⟨⟨⟨⟨⟨⟨⟨⟨a, b⟩, c⟩, d⟩, e⟩, m⟩, f⟩, w⟩, g⟩, k⟩ := h
  exact ⟨a, b, c, d, e, fun far => m.elim (fun near => absurd far (by simp [near])) id, f, w, g, k⟩

/-! ### The scalar engine -/

theorem witness_scalar_issues : issues busy 4 (wantS [1, 3, 3]) [.s 3, .s 3] = true ∧ issues busy 8 (wantS [1, 1]) [.s 1] = true := by
  decide +kernel

/-- The state a command leads to; its region caches are emptied, so that no later read rests on the free choice of a copy. -/
def res (i : Instr) (s : State) : State := match exec i s with | .next r => { r with rcache := [] } | _ => State.reset
/-- A command answers a next state. -/
def goes (i : Instr) (s : State) : Bool := match exec i s with | .next _ => true | _ => false
/-- Thread 0 of unit 0 with its registers set. -/
def with0 (s : State) (f : Thread → Thread) : State := s.updThr 0 0 f
/-- Errors at places, that can be corrected or not. -/
def ill (s : State) (l : List (Spot × Bool)) : State := { s with flaws := l.map (fun e => ⟨e.1, e.2, false, 0, 0, 0⟩) }
/-- Scalar register `i` of that thread set. -/
def setS (s : State) (i : Nat) (v : Word) : State := with0 s (·.setS i v)

/-! ### The machine as a whole -/

theorem witness_canonical_step : State.reset.Wf ∧ ∃ t, step State.reset = .next t := ⟨⟨by decide, by decide⟩, _, rfl⟩
theorem witness_idle : State.reset.pending = [] := rfl
theorem witness_down : ({ up with start := { up.start with mode := .standby } } : State).dead = true ∧ up.unitOk 0 = true := by
  decide +kernel

/-! ### The scalar engine -/

theorem witness_scalar : issues busy 4 (wantS [1, 3, 3]) [.s 3, .s 3] = true ∧ issues busy 4 (wantS [1, 3]) [.s 3] = true ∧
    issues busy 4 (wantS [1]) [] = true ∧ issues busy 8 (wantS [1]) [] = true ∧ issues busy 8 (wantS [1, 1]) [.s 1] = true ∧
    (63 : BitVec 12).toNat < 64 ∧ 64 ≤ (64 : BitVec 12).toNat := by decide +kernel
theorem test_div_by_zero : ((res (.div 0 0 1 3 0) busy).thr 0 0).gs 1 = BitVec.allOnes 64 ∧
    ((res (.rem 0 0 1 3 0) busy).thr 0 0).gs 1 = 64 := by decide +kernel
theorem test_div_overflow : (let s := setS (setS busy 4 (BitVec.intMin 64)) 5 (BitVec.allOnes 64);
    ((res (.div 0 0 1 4 5) s).thr 0 0).gs 1 = BitVec.intMin 64 ∧ ((res (.rem 0 0 1 4 5) s).thr 0 0).gs 1 = 0) := by decide +kernel
theorem test_s0_discards : ((res (.add 0 0 0 3 3) busy).thr 0 0).gs 0 = 0 ∧ ((res (.add 0 0 0 3 3) busy).thr 0 0).pc = 4 := by
  decide +kernel
theorem test_popc_needs_s0 : ((res (.popc 0 0 1 3 3) busy).thr 0 0).st = .stopped ∧
    ((res (.popc 0 0 1 3 0) busy).thr 0 0).gs 1 = 1 := by decide +kernel
theorem test_sra_fills_with_sign : ((res (.srai 0 0 1 4 63) (setS busy 4 (BitVec.intMin 64))).thr 0 0).gs 1 = BitVec.allOnes 64 := by
  decide +kernel
theorem test_lih_keeps_the_low_half : ((res (.lih 0 0 3 0xDEAD 0) busy).thr 0 0).gs 3 = 0xDEAD00000040 := by decide +kernel
theorem witness_branch : issues busy 4 (wantS [3, 3]) [.s 3, .s 3] = true ∧ issues busy 4 (wantS [0, 3]) [.s 0, .s 3] = true ∧
    (busy.thr 0 0).gs 3 = 64 ∧ (5 : BitVec 5).toNat ≤ 5 ∧ 5 < (6 : BitVec 5).toNat := by decide +kernel
theorem test_branch_back : ((res (.br 0 0 1 0 3 0x3FF) busy).thr 0 0).pc = BitVec.ofInt 64 (-4) ∧
    ((res (.br 0 0 0 0 3 0x3FF) busy).thr 0 0).pc = 4 := by decide +kernel
theorem test_jalr_misaligned : ((res (.jalr 0 0 1 3 1 0) busy).ctx 1).kernel.map (·.exc) = some (some ⟨0x06, 0, 0, 0, 65⟩) ∧
    ((res (.jalr 0 0 3 3 4 0) busy).thr 0 0).pc = 68 ∧ ((res (.jalr 0 0 3 3 4 0) busy).thr 0 0).gs 3 = 4 := by decide +kernel
theorem witness_special : issues busy 4 { wantS [1] with vdone := true } [] = true ∧
    (busy.thr 0 0).gs 1 &&& ~~~(0x7 : Word) = 0 ∧ (busy.thr 0 0).gs 3 &&& ~~~(0x7 : Word) ≠ 0 ∧
    (busy.thr 0 0).gs 1 &&& ~~~(0x11F : Word) = 0 ∧ ((busy.thr 0 0).gs 1).toNat < 2 ^ 32 := by decide +kernel
theorem test_swr_srd : ((res (.swr 0 0 0 3 0x022) busy).thr 0 0).srseed = 64 ∧ ((res (.swr 0 0 0 3 0x010) busy).thr 0 0).st = .stopped := by
  decide +kernel

/-! ### Loads and stores -/

/-- A thread whose s4 is the Shelf's end. -/
def atEnd : State := setS busy 4 16384
theorem witness_shelf : issues atEnd 4 (wantS [1, 3]) [.s 3] = true ∧ issues atEnd 4 (wantS [3, 1]) [.s 3, .s 1] = true ∧
    64 % szBytes 3 = 0 ∧ atEnd.rowsPoison 0 64 8 = false ∧ 65 % szBytes 3 ≠ 0 ∧ 16384 < 16384 + szBytes 3 ∧
    issues atEnd 4 (wantS [1, 4]) [.s 4] = true ∧ Memory.wf atEnd.shelf = true ∧
    (let s := ill busy [(.shelf 8, true)]; s.rowsPoison 0 64 8 = true ∧ issues s 4 (wantS [1, 3]) [.s 3] = true) := by decide +kernel
theorem test_lds_finds_errors : (let s := res (.lds 0 0 3 1 3 0) (ill busy [(.shelf 8, true), (.shelf 9, true)]);
      (s.ctx 1).kernel.map (·.exc) = some (some ⟨0x10, 0, 0, 0, 0⟩) ∧ s.spois = [1] ∧ s.flaws.map (·.spot) = [.shelf 9] ∧
      (s.hunit 0).score = 223 ∧ (s.hunit 0).observed = true) ∧
    (let s := res (.lds 0 0 3 1 3 0) (ill busy [(.shelf 8, false)]);
      (s.thr 0 0).pc = 4 ∧ s.spois = [] ∧ s.flaws = [] ∧ (s.hunit 0).score = 254 ∧ (s.hunit 0).observed = false) := by decide +kernel
theorem test_sts_lds : (let s := res (.sts 0 0 1 3 4 0) (setS busy 4 0x8081);
    Memory.get s.shelf 64 = 0x81 ∧ Memory.get s.shelf 65 = 0x80 ∧ Memory.get s.shelf 66 = 0 ∧
    ((res (.lds 0 0 4 1 3 0) s).thr 0 0).gs 1 = BitVec.ofInt 64 (-0x7F)) := by decide +kernel
theorem test_lds_past_the_end : ((res (.lds 0 0 3 1 4 0) atEnd).ctx 1).kernel.map (·.exc) = some (some ⟨0x07, 0, 0, 0, 16384⟩) := by
  decide +kernel
theorem witness_loads : issues busy 4 { wantS [1, 3] with score := true } [.s 3] = true ∧
    issues busy 4 { wantS [3, 1] with wb := true } [.s 3, .s 1] = true ∧ busy.segCheck 1 64 8 permR = none ∧
    busy.segCheck 1 64 8 permW = none ∧ busy.absent 1 64 = false ∧ busy.extentSectors 1 64 8 = [] ∧
    busy.extentRemote 1 64 8 = [] ∧ busy.postHit 1 64 8 = false := by decide +kernel
theorem test_load_and_store_wait : ((res (.ld 0 0 3 1 3 0) busy).thr 0 0).loads.length = 1 ∧
    ((res (.ld 0 0 3 1 3 0) busy).thr 0 0).gs 1 = 0 ∧ ((res (.st 0 0 2 3 3 0) busy).unt 0).wb.length = 1 ∧
    (res (.st 0 0 2 3 3 0) busy).larder = [] := by decide +kernel
theorem witness_vector_accesses :
    issues busy 4 { regs := [.v 1, .s 3, .p 0], score := true } [.s 3, .p 0] = true ∧
    issues busy 4 { regs := [.v 1, .s 3, .p 1], score := true } [.s 3, .p 1] = true ∧
    issues busy 4 { regs := [.v 1, .s 3, .p 0], wb := true } [.v 1, .s 3, .p 0] = true ∧
    issues busy 4 { regs := [.v 1, .s 3, .p 0], vq := true } [.s 3, .p 0] = true ∧
    issues busy 4 { regs := [.v 1, .s 3, .p 0], vq := true } [.s 3, .p 0, .v 1] = true ∧
    ((busy.thr 0 0).gp 0).toNat ≠ 0 ∧ ((busy.thr 0 0).gp 1).toNat = 0 ∧ busy.segCheck 1 64 64 permR = none ∧
    busy.segCheck 1 64 64 permW = none ∧ busy.extentSectors 1 64 64 = [] ∧ busy.extentRemote 1 64 64 = [] ∧
    busy.postHit 1 64 64 = false := by decide +kernel

/-! ### The vector engine -/

theorem witness_valu :
    issues busy 4 { regs := [.v 1, .v 2, .p 0, .v 3], vq := true } [.v 2, .p 0, .v 3] = true ∧
    issues busy 4 { regs := [.v 1, .v 2, .p 0, .v 3, .v 1], vq := true } [.v 2, .p 0, .v 3, .v 1] = true ∧
    issues busy 4 { regs := [.v 1, .v 2, .p 0], vq := true } [.v 2, .p 0] = true ∧
    issues busy 4 { regs := [.p 1, .v 2, .p 0, .v 3], vq := true } [.v 2, .p 0, .v 3] = true := by decide +kernel
theorem witness_other_vector :
    cvtDefined 0x00 = true ∧ cvtReadsB 0x00 = false ∧
    issues busy 4 { regs := [.v 1, .v 2, .p 0], vq := true } [.v 2, .p 0] = true ∧
    issues busy 4 { regs := [.p 1, .p 2, .p 3], vq := true } [.p 2, .p 3] = true ∧
    issues busy 4 { regs := [.p 1, .p 2], vq := true } [.p 2] = true ∧ issues busy 4 { regs := [.p 1], vq := true } [] = true ∧
    issues busy 4 { regs := [.v 1, .s 3], vq := true } [.s 3] = true ∧ issues busy 4 { regs := [.s 3, .v 1], vq := true } [.v 1] = true ∧
    issues busy 4 { regs := [.v 1, .s 3, .v 1], vq := true } [.s 3, .v 1] = true ∧ 63 < elems 0 ∧
    issues busy 4 { regs := [.s 3, .p 1], vq := true } [.p 1] = true ∧ issues busy 4 { regs := [.p 1, .s 3], vq := true } [.s 3] = true ∧
    issues busy 8 { regs := [.p 1, .v 2, .s 3, .p 0], vq := true } [.v 2, .s 3, .p 0] = true ∧
    issues busy 8 { regs := [.v 1, .v 2, .s 3, .s 4, .p 0], vq := true } [.v 1, .v 2, .s 3, .s 4, .p 0] = true := by decide +kernel
/-- The unit's queue after one VALU instruction. -/
def queued (i : Instr) : State := res i (with0 busy (fun h => (h.setV 2 (BitVec.ofNat 512 0x7FFF0001)).setV 3 (BitVec.ofNat 512 0x00010002)))
theorem test_vadd_wraps : ((res (.vectorEngineExecute 0) (queued (.vadd 0 0 1 false 0 3 2 1))).thr 0 0).gv 1 =
    BitVec.ofNat 512 0x80000003 := by decide +kernel
theorem test_vector_signed_and_unsigned :
    lane 16 (valuVec 0x003 1 false 0xFFFF 0xFFFF 1 0 rne).1 0 = 0xFFFF ∧ lane 16 (valuVec 0x005 1 false 0xFFFF 0xFFFF 1 0 rne).1 0 = 1 := by
  decide +kernel
theorem witness_vector_engine : busy.dead = false ∧ (busy.unt 0).vq = [] ∧ ((queued (.vadd 0 0 1 false 0 3 2 1)).unt 0).vq.length = 1 ∧
    ((queued (.vadd 0 0 1 false 0 3 2 1)).unt 0).vq.map (fun o => (o.cls == .valu, o.dst == some (.v 1))) = [(true, true)] ∧
    ((queued (.vceq 0 0 1 false 0 3 2 1)).unt 0).vq.map (fun o => (o.cls == .valu, o.dst == some (.p 1))) = [(true, true)] ∧
    ((queued (.vcvt 0 0 0 0 false 0 0 2 1)).unt 0).vq.map (fun o => (o.cls == .vcvt)) = [true] ∧
    ((queued (.pand 0 0 1 2 3)).unt 0).vq.map (fun o => (o.cls == .pred)) = [true] ∧
    ((queued (.vbcast 0 0 1 0 3 1)).unt 0).vq.map (fun o => (o.cls == .vmov)) = [true] ∧
    ((queued (.vlds 0 0 0 false 0 3 1)).unt 0).vq.map (fun o => (o.cls == .vlds, o.off)) = [(true, 64)] ∧
    (queued (.vlds 0 0 0 false 0 3 1)).rowsPoison 0 64 64 = false ∧
    (queued (.vaflt 0 0 0 3 2 1 0 0)).rowsPoison 0 64 32 = false ∧
    ({ queued (.vlds 0 0 0 false 0 3 1) with spois := [1] } : State).rowsPoison 0 64 64 = true ∧
    ((queued (.vsts 0 0 0 false 0 3 2)).unt 0).vq.map (fun o => (o.cls == .vsts, o.off)) = [(true, 64)] ∧
    ((queued (.vaflt 0 0 0 3 2 1 0 0)).unt 0).vq.map (fun o => (o.cls == .vaflt)) = [true] := by decide +kernel
theorem test_vsts_writes : (let s := res (.vectorEngineExecute 0) (queued (.vsts 0 0 0 false 0 3 2));
    Memory.get s.shelf 64 = 1 ∧ Memory.get s.shelf 66 = 0xFF ∧ Memory.get s.shelf 67 = 0x7F ∧ Memory.get s.shelf 68 = 0) := by
  decide +kernel

/-! ### The matrix engine -/

/-- Accumulator 0 of unit 0 as `a`. -/
def acc0 (a : Acc) : State := busy.updUnt 0 (fun x => { x with acc := x.acc.setIfInBounds 0 a })
/-- Held by thread 0. -/
def mine : State := acc0 { Acc.reset with holder := some 0, last := 0 }
theorem witness_claims : issues busy 4 (wantS []) [] = true ∧ ((busy.unt 0).accu 0).holder = none ∧
    issues (acc0 { Acc.reset with holder := some 1 }) 4 (wantS []) [] = true ∧ (1 : Nat) ≠ 0 ∧
    (busy.unt 0).matrixOpen 0 = false ∧ (let s := res (.azero 0 0 0 0) mine;
      (s.unt 0).matrixOpen 0 = true ∧ issues s 4 (wantS []) [] = true) ∧
    issues mine 4 { regs := [], mq := true } [] = true ∧ ((mine.unt 0).accu 0).holder = some 0 ∧
    ((mine.unt 0).accu 0).releasing = false ∧ ((mine.unt 0).accu 0).blk = none := by decide +kernel
theorem test_claims : ((res (.aclaim 0 0 0 0) busy).unt 0).accu 0 = { Acc.reset with holder := some 0, last := 0 } ∧
    (let s := res (.aclaim 0 0 0 0) (acc0 { Acc.reset with holder := some 1 });
      (s.thr 0 0).st = .waiting ∧ (s.thr 0 0).pc = 0 ∧ (s.thr 0 0).wait = some (.claim 0)) := by decide +kernel
theorem test_release : (let s := res (.matrixOpComplete 0) (res (.matrixEngineExecute 0) (res (.arel 0 0 0 0) mine));
    ((s.unt 0).accu 0).holder = none ∧ ((s.unt 0).accu 0).releasing = false) := by decide +kernel
theorem witness_mma : mmaBad 1 1 0 false = false ∧ scaleBytes 1 + scaleBytes 1 = 0 ∧
    issues mine 8 { wantS [3, 3] with mq := true } [.s 3, .s 3] = true ∧ ((mine.thr 0 0).gs 3).toNat % 64 = 0 ∧
    ((mine.thr 0 0).gs 3).toNat + 1024 ≤ 16384 ∧ issues mine 8 { wantS [3] with mq := true } [.s 3] = true ∧
    fdBytes 0xC = 4 ∧ fdSuits 0xC 0 = true ∧ (let s := acc0 { Acc.reset with holder := some 0, blk := some (1, 1, 64), ifmt := 2 };
      ((s.unt 0).accu 0).blk.isSome = true ∧ fdSuits 0xC 2 = true ∧ issues s 8 { wantS [3] with mq := true } [.s 3] = true) ∧
    ((busy.unt 0).accu 0).holder ≠ some 0 ∧ issues busy 8 { wantS [3] with mq := true } [.s 3] = true := by decide +kernel
theorem witness_matrix_engine : (mine.unt 0).mrun = none ∧
    (let s := res (.azero 0 0 0 0) mine; ((s.unt 0).mq.map (·.kind)) = [2] ∧
      ((res (.matrixEngineExecute 0) s).unt 0).mrun.map (·.kind) = some 2) ∧
    (let s := res (.arel 0 0 0 0) mine; ((res (.matrixEngineExecute 0) s).unt 0).mrun.map (·.kind) = some 3) ∧
    (let s := res (.mst 0 0 0 3 false 0xC 0 0) mine; ((res (.matrixEngineExecute 0) s).unt 0).mrun.map (·.kind) = some 1) ∧
    (let s := res (.mma 0 0 false 0 0 3 3 1 1 0 0) mine; ((s.unt 0).mq.map (fun o => (o.kind, opWidth o.fa))) = [(0, 8)] ∧
      s.rowsPoison 0 64 1024 = false) := by decide +kernel
theorem test_block_rounds : Blk.zero.close 0 0 5 = 5 ∧ ({ Blk.zero with nan := true } : Blk).close 5 5 0 = fp32.qnan := by decide +kernel
theorem witness_block : (5 : Nat) < 2 ^ 32 ∧ opInt 0xB = opInt 0xB := by decide +kernel

/-! ### DMA, remote operations and synchronisation -/

theorem witness_dma : issues busy 8 { wantS [1, 3, 4] with tag := some 0 } [.s 1, .s 3, .s 4] = true ∧
    ((busy.thr 0 0).gs 4).toNat = 0 ∧ (let s := setS busy 4 0x1000001; 2 ^ 24 < ((s.thr 0 0).gs 4).toNat ∧
      issues s 8 { wantS [1, 3, 4] with tag := some 0 } [.s 1, .s 3, .s 4] = true) ∧
    (let s := setS busy 4 16320; 64 + ((s.thr 0 0).gs 4).toNat ≤ 16384 ∧
      issues s 8 { wantS [3, 3, 4] with tag := some 3 } [.s 3, .s 3, .s 4] = true) := by decide +kernel
/-- Thread 0 names package 0, unit 1, in s1; the DMA at the head of its unit's queue, and behind another. -/
def naming : State := setS busy 1 1
theorem witness_dma_spaces : issues (setS busy 4 0x1000001) 8 { wantS [1, 3, 4] with tag := some 0, dq := true } [.s 1, .s 3, .s 4] = true ∧
    issues (setS busy 4 8) 8 { wantS [3, 3, 4, 1] with tag := some 0, dq := true } [.s 3, .s 3, .s 4, .s 1] = true ∧
    naming.DmaMay 1 0 64 8 permR 1 false ∧ naming.DmaMay 1 1 64 8 permW 1 false ∧ naming.DmaMay 1 2 64 8 permW 1 false ∧
    naming.DmaMay 1 3 64 8 permR 1 false ∧ naming.DmaMay 1 2 64 8 permW (2 ^ 20) false ∧
    (let s := res (.dma 0 0 0 2 3 1 3 0 0 0 0) busy; (s.unt 0).dq = [] ∧
      (s.thr 0 0).dma.toList.map (fun d => d.map (fun d => (d.srcSp, d.dstSp, d.phase))) = [none, none, some (0, 0, 1), none]) ∧
    (let x := { (res (.dma 0 0 0 2 3 1 3 0 0 0 0) busy).unt 0 with dq := [(0, 7), (0, 0)] };
      x.dq.head? ≠ some (0, 0) ∧ (x.thr 0).dma.toList.findIdx? (fun d => d.any (fun d => d.id == 0)) = some 2) := by
  refine ⟨by decide +kernel, by decide +kernel, .inl ?_, .inr (.inl ?_), .inr (.inr (.inl ?_)), .inr (.inr (.inr ?_)),
    .inr (.inr (.inl ?_)), by decide +kernel, by decide +kernel⟩ <;> decide +kernel
theorem witness_remote_queue : issues busy 8 { regs := [.s 1, .s 3], score := true, dq := true } [.s 3] = true ∧
    issues busy 8 { regs := [.s 1, .s 3, .s 4], score := true, dq := true } [.s 3, .s 4] = true ∧
    issues busy 8 { regs := [.s 1, .s 3, .s 4, .s 5], score := true, dq := true } [.s 3, .s 4, .s 5] = true ∧
    issues busy 8 { regs := [.s 0, .s 3, .s 4], wb := true, dq := true } [.s 3, .s 4] = true ∧
    (let s := res (.rld 0 0 0 0 3 1 0 3 0 0) busy; let x := { s.unt 0 with dq := [(0, 0)] };
      (x.thr 0).loads.map (fun l => (l.id, l.dest == s.self, l.rmt.isSome, l.sent)) = [(0, true, true, true)] ∧
      (x.thr 0).dma.toList.findIdx? (fun d => d.any (fun d => d.id == 0)) = none) ∧
    (let s := res (.aadd 0 0 0 4 3 0 0 3 0 0) busy; (s.unt 0).wb.map (fun e => (e.id, e.dest == s.self, e.sent)) = [(0, true, true)] ∧
      (s.thr 0 0).loads.find? (fun l => l.id = 0) = none) := by decide +kernel
theorem test_dma_takes_its_tag : (((res (.dma 0 0 0 2 3 1 3 0 0 0 0) busy).thr 0 0).dma.toList.map (·.isSome)) = [false, false, true, false] ∧
    (((res (.dma 0 0 0 2 3 1 4 0 0 0 0) busy).thr 0 0).dma.toList.map (·.isSome)) = [false, false, false, false] := by decide +kernel
theorem witness_remote : busy.segCheck 1 64 8 permA = none ∧ busy.segCheck 1 64 8 permR = none ∧ busy.segCheck 1 64 8 permW = none ∧
    busy.absent 1 64 = false ∧ busy.postHit 1 64 8 = false ∧ busy.extentRemote 1 64 8 = [] ∧ busy.extentSectors 1 64 8 = [] ∧
    issues busy 8 { regs := [.s 1, .s 3], score := true } [.s 3] = true ∧
    issues busy 8 { regs := [.s 1, .s 3, .s 4], score := true } [.s 3, .s 4] = true ∧
    issues busy 8 { regs := [.s 1, .s 3, .s 4, .s 5], score := true } [.s 3, .s 4, .s 5] = true ∧
    issues busy 8 { regs := [.s 0, .s 3, .s 4], wb := true } [.s 3, .s 4] = true := by decide +kernel
theorem test_atomics : rmtApply 0x02 4 0xFFFFFFFF 1 0 % 2 ^ 32 = 0 ∧ rmtApply 0x07 4 1 0xFFFFFFFF 0 = 0xFFFFFFFF ∧
    rmtApply 0x09 4 1 0xFFFFFFFF 0 = 1 ∧ rmtApply 0x0C 8 7 9 7 = 9 ∧ rmtApply 0x0C 8 7 9 8 = 7 := by decide +kernel
theorem witness_sync : (busy.unt 0).waitOver 0 .fence = true ∧ (busy.thr 0 0).waitFail .fence = none ∧ (busy.thr 0 0).fails = [] ∧
    (busy.unt 0).waitOver 0 (.dwait 15) = true ∧ (busy.unt 0).waitOver 0 .vwait = true ∧ (3 : BitVec 5).toNat < 4 ∧
    (let s := res (.st 0 0 2 3 3 0) busy; (s.unt 0).waitOver 0 .fence = false ∧ issues s 4 (wantS []) [] = true) ∧
    (let s := res (.dma 0 0 0 2 3 1 3 0 0 0 0) busy; (s.unt 0).waitOver 0 (.dwait 4) = false ∧ issues s 4 (wantS []) [] = true) ∧
    (let s := res (.vadd 0 0 1 false 0 3 2 1) busy; (s.unt 0).waitOver 0 .vwait = false ∧ issues s 4 (wantS []) [] = true) ∧
    (let s := with0 busy (fun h => { h with fails := [(none, ⟨0x11, 2⟩)] }); (s.thr 0 0).waitFail .fence = some ⟨0x11, 2⟩ ∧
      issues s 4 (wantS []) [] = true) ∧
    issues busy 4 (wantS [1, 3, 4]) [.s 1, .s 3, .s 4] = true ∧ busy.rowsPoison 0 64 8 = false ∧ busy.flawed (.shelf 8) = false ∧
    w64 (busy.shelfNat 0 64 8) = (busy.thr 0 0).gs 4 ∧ w64 (busy.shelfNat 0 64 8) ≠ (busy.thr 0 0).gs 3 := by decide +kernel
theorem test_waits : ((res (.waite 0 0 1 3 4) busy).thr 0 0).st = .ready ∧ ((res (.waite 0 0 1 3 3) busy).thr 0 0).st = .waiting ∧
    ((res (.endThread 0 0 0 0 0) busy).thr 0 0).st = .draining ∧ ((res (.bar 0 0 3 0 0) busy).thr 0 0).wait = some (.bar true true) := by
  decide +kernel
theorem witness_exceptions : issues busy 4 (wantS []) [] = true ∧ (busy.ctx 1).kernel = some (kern 1) ∧ (kern 1).closed = false ∧
    lowestCheck [(7, 0), (6, 1), (6, 2)] = some (6, 1) := by decide +kernel
theorem test_break : ((res (.brk 0 0 0 0 0) busy).ctx 1).kernel.map (·.exc) = some (some ⟨0x18, 0, 0, 0, 0⟩) := by decide +kernel

/-! ### What completes, and who waits for it -/

/-- A load of 8 bytes at 64 is outstanding. -/
def loading : State := res (.ld 0 0 3 1 3 0) { busy with larder := [(5 * 2 ^ 21 + 65, 7)] }
theorem witness_load_return : (loading.thr 0 0).loads[0]?.map (fun l => (l.rmt, l.remote, l.addr)) = some (none, false, 64) ∧
    loading.translate 1 64 = .larder (5 * 2 ^ 21 + 64) ∧ loading.inCoherent 1 64 = false ∧ loading.extentSectors 1 64 8 = [] ∧
    ((loading.thr 0 0).loads.map (fun l => loading.actOpen (.rmt 0 0 l.id))) = [false] ∧
    (loading.cacheRead 0 (5 * 2 ^ 21 + 64) false 2).2.1 = false ∧
    (({ loading with lpois := [(5 * 2 ^ 21 + 64) / 64] } : State).cacheRead 0 (5 * 2 ^ 21 + 64) false 2).2.1 = true := by decide +kernel
theorem test_load_return : ((res (.loadReturn 0 0 0) loading).thr 0 0).gs 1 = 0x700 ∧ ((res (.loadReturn 0 0 0) loading).thr 0 0).loads = [] := by
  decide +kernel
theorem witness_end_load : (with0 loading (fun h => { h with st := .waiting })).thr 0 0 |>.loads.map (·.reg) |> (· = [.s 1]) := by
  decide +kernel
theorem witness_draining : ((with0 loading (fun h => { h with st := .draining })).thr 0 0).st = .draining ∧ (⟨0x11, 2⟩ : Mark).code ≠ 0x10 ∧
    (loading.unt 0).queued 0 0 = false := by decide +kernel
theorem witness_data_path : loading.flawed (.unitData 0) = false ∧ (ill loading [(.unitData 0, true)]).flawed (.unitData 0) = true ∧
    ((res (.loadReturn 0 0 0) (ill loading [(.unitData 0, true)])).thr 0 0).mark? (.s 1) = some ⟨0x10, 64⟩ := by decide +kernel
/-- A WAITE of 100 counts waits. -/
def waiting : State := res (.waite 0 0 1 3 3) (setS busy 1 100)
theorem witness_waite_timeout : (waiting.thr 0 0).st = .waiting ∧ (waiting.thr 0 0).wait = some (.waite 64 64 1 (some 100)) ∧
    (waiting.unt 0).kat = none := by decide +kernel
theorem test_waite_timeout : (let s := res (.waiteTimeout 0 0) waiting;
    s.count = 100 ∧ (s.thr 0 0).gs 1 = 1 ∧ (s.thr 0 0).pc = 4 ∧ (s.thr 0 0).st = .ready) := by decide +kernel
/-- A request to package 1 whose timeout is armed. -/
def request : OutReq :=
  { op := 0, dest := 1, unit := 0, tag := 9, comp := 0, ctx := 1, seg := 0, off := 64, len := 8, data := [], poison := false,
    strict := false, tmo := 100, expiry := some 100, plane := 0, ord := 0, use := .load 0 0 0 }
theorem witness_remote_timeout : ({ busy with gly := { busy.gly with reqs := [(9, request)] } } : State).gly.reqs.find? 9 = some request ∧
    request.expiry = some 100 := by decide +kernel
/-- A store of 4 bytes at 64 waits in the write buffer. -/
def storing : State := res (.st 0 0 2 3 4 0) (setS busy 4 0x11223344)
theorem witness_store : (storing.unt 0).wb.length = 1 ∧ (storing.unt 0).wb.all (fun e => !e.remote && e.rmt.isNone && e.slot == 0 &&
      !(storing.unt 0).earlierWrite e.slot e.id [e.dest] && !storing.actOpen (.wb 0 e.id) &&
      (storing.snoopLines 1 e.addr e.len true).isEmpty && decide (e.addr = 64)) = true ∧
    storing.translate 1 64 = .larder (5 * 2 ^ 21 + 64) ∧ storing.linePoison (5 * 2 ^ 21 + 64) = false := by decide +kernel
theorem test_store_meets_an_error : (let s := res (.writeBufferComplete 0 0) (ill storing [(.line (5 * 2 ^ 15 + 1), true)]);
    s.lpois = [5 * 2 ^ 15 + 1] ∧ s.larder = [] ∧ s.flaws = []) := by decide +kernel
theorem test_store : (let s := res (.writeBufferComplete 0 0) storing; (s.unt 0).wb = [] ∧
    Memory.get s.larder (5 * 2 ^ 21 + 64) = 0x44 ∧ Memory.get s.larder (5 * 2 ^ 21 + 67) = 0x11) := by decide +kernel
/-- A transfer of tag 2 whose writes are done. -/
def moved : State := with0 (res (.dma 0 0 0 2 3 1 3 0 0 0 0) busy) (fun h => { h with dma := h.dma.map (Option.map (fun d => { d with phase := 2 })) })
theorem witness_transfer : (match (moved.thr 0 0).dma.toList.getD 2 none with
    | some d => decide (d.parts = 0 ∧ d.phase = 2) && d.post.isNone && d.failed.isNone && !moved.actOpen (.dma 0 0 2)
    | none => false) = true := by decide +kernel
theorem test_transfer : ((res (.dmaTagComplete 0 0 2) moved).thr 0 0).dma.toList = [none, none, none, none] := by decide +kernel
/-- The same transfer with a post area to consume. -/
def posted (l : List Vec) : State := with0 moved (fun h => { h with dma := h.dma.map (Option.map (fun d => { d with post := some (0, 1, l) })) })
theorem witness_post_area : (((posted []).thr 0 0).dma.toList.getD 2 none).map (·.post) = some (some (0, 1, [])) ∧
    ((posted []).ctx 1).posts.find? 0 = none := by decide +kernel
/-- A context with a bound post area, and two transfers into it. -/
def posting : State :=
  let s := (posted []).updCtx 1 (fun x => { x with posts := [(0, ⟨0, true, 0, 0, 0, 0⟩)] })
  with0 s (fun h => { h with dma := h.dma.setIfInBounds 1 ((h.dma.toList.getD 2 none).map (fun d => { d with post := some (0, 2, []) })) })
theorem witness_post_order : (posting.ctx 1).posts.find? 0 = some ⟨0, true, 0, 0, 0, 0⟩ ∧ posting.postBefore 0 1 = false ∧
    posting.postBefore 0 2 = true ∧ (posting.postAll 1 0 0 []).1 = [] := by decide +kernel

/-! ### Groups, regions and kernels -/

/-- A launch of 2 groups of 3 threads at 0x40. -/
def launchDesc : Vec := BitVec.ofNat 512 (1 + 0x40 * 2 ^ 128 + 2 * 2 ^ 256 + 3 * 2 ^ 296)
/-- Context 1 runs that launch, and no group is placed yet. -/
def launched : State :=
  { busy with units := [], groups := [],
              ctxs := [(1, { ctx1 with kernel := some { kern 1 with q := { plain 1 with d := launchDesc } } })] }
theorem witness_take : (launched.launchRuns 1).isSome = true ∧ launched.mayTake 0 1 = true ∧
    (let s := res (.takeGroupNumber 0 1) launched; s.heldNums 0 1 = [0] ∧ s.frozen (s.compOf 1) = false ∧
      dThreads (s.kdesc 1) = 3 ∧ (s.freeClusters ((s.setRegions 0 1).filter s.activeRgn)).head? = some 0 ∧ s.flawed (.puppeteer 0) = false) ∧
    launched.flawed (.die 0) = false ∧ (ill launched [(.die 0, true)]).flawed (.die 0) = true ∧
    (ill (res (.takeGroupNumber 0 1) launched) [(.puppeteer 0, true)]).flawed (.puppeteer 0) = true := by decide +kernel
theorem test_group_hardware_fails : (res (.takeGroupNumber 0 1) (ill launched [(.die 0, true)])).start.mode = .failed ∧
    (let s := res (.placeGroup 0 1) (ill (res (.takeGroupNumber 0 1) launched) [(.puppeteer 0, true)]);
      (s.rgn 0).failed = true ∧ (s.ctx 1).kernel.map (·.cause) = some 3) := by decide +kernel
theorem test_place : (let s := res (.placeGroup 0 1) (res (.takeGroupNumber 0 1) launched); (s.thr 0 2).st = .ready ∧
    (s.thr 0 2).pc = 0x40 ∧ (s.thr 0 2).tid = 2 ∧ (s.thr 0 3).st = .empty ∧ (s.thr 0 2).gp 1 = 0 ∧ s.groups.has 0 = true) := by
  decide +kernel
/-- Thread 0 of unit 0 has executed END. -/
def draining : State := res (.endThread 0 0 0 0 0) busy
theorem witness_drained : (draining.thr 0 0).st = .draining ∧ (draining.thr 0 0).wait = none ∧ (draining.unt 0).outstanding 0 = false := by
  decide +kernel
theorem test_drained : ((res (.threadDrained 0 0) draining).thr 0 0).st = .empty := by decide +kernel
/-- A group of one thread, which waits at the barrier. -/
def barred : State := res (.bar 0 0 1 0 0) { busy with groups := [(0, ⟨1, 0, 1, true, [], []⟩)] }
theorem witness_groups : (let s := res (.threadDrained 0 0) draining; s.unitOk 0 = true ∧
      s.groups.find? 0 = some ⟨1, 0, 8, true, [], []⟩ ∧ s.groupOver 0 ⟨1, 0, 8, true, [], []⟩ = true ∧
      ((GroupRun.slots ⟨1, 0, 8, true, [], []⟩ 0).all (fun p => (s.thr p.1 p.2).wait.isNone)) = true) ∧
    busy.groupOver 0 ⟨1, 0, 8, true, [], []⟩ = false ∧
    ((GroupRun.slots ⟨1, 0, 1, true, [], []⟩ 0).all (fun p => (barred.thr p.1 p.2).atBarrier && (barred.thr p.1 p.2).arrived)) = true ∧
    (barred.thr 0 0).wait = some (.bar true false) := by decide +kernel
theorem test_groups : (res (.groupEnd 0) (res (.threadDrained 0 0) draining)).groups = [] ∧
    ((res (.barrierRelease 0) barred).thr 0 0).st = .ready ∧ ((res (.barrierRelease 0) barred).thr 0 0).pc = 4 := by decide +kernel
/-- Region 0 in a given state. -/
def rgn0 (x : Rgn) : State := { up with rgns := [(0, x)] }
theorem witness_regions : (let x : Rgn := { Rgn.reset with pow := .gated, deferred := true }; x.deferred = true ∧ x.entering = none) ∧
    (rgn0 { Rgn.reset with waking := some 9 }).rgn 0 = { Rgn.reset with waking := some 9 } ∧
    (let s := rgn0 { Rgn.reset with pow := .active }; s.activeRgn 0 = true ∧ s.rgnBusy 0 = false ∧ s.rgnHeld 0 = false) ∧
    (let s := rgn0 { Rgn.reset with pow := .sleep }; s.wakingRgn 0 = false ∧ s.rgnHeld 0 = false ∧
      s.fld rDIE_SCHED_CFG 31 24 0 ≠ 0 ∧ (s.setFld rDIE_SCHED_CFG 31 24 0).fld rDIE_SCHED_CFG 31 24 0 = 0) ∧
    ((rgn0 { Rgn.reset with entering := some (.off, 5) }).rgn 0).entering = some (.off, 5) := by decide +kernel
theorem test_regions : (let s := res (.regionEntryComplete 0 0) { rgn0 { Rgn.reset with entering := some (.off, 5) } with shelf := [(7, 1), (2 ^ 24, 2)] };
      s.shelf = [(2 ^ 24, 2)] ∧ s.count = 5 ∧ (s.rgn 0).pow = .off) ∧
    ((res (.regionActive 0 0) (rgn0 { Rgn.reset with waking := some 9 })).rgn 0).pow = .active := by decide +kernel
/-- Context 1 is idle with a launch queued. -/
def queuedLaunch (st : Option Nat) : State :=
  { up with ctxs := [(1, { ctx1 with st := .idle, kernel := none, queue := [{ plain 1 with status := st }] })] }
theorem witness_kernels : (queuedLaunch none).kernelFront 1 = some (plain 1) ∧ (queuedLaunch none).mayStart 1 = true ∧
    (queuedLaunch (some 6)).kernelFront 1 = some { plain 1 with status := some 6 } ∧ (queuedLaunch (some 6)).mayStart 1 = true ∧
    (busy.ctx 1).kernel = some (kern 1) ∧ busy.kernelOver 1 (kern 1) = false ∧
    launched.kernelOver 1 { kern 1 with closed := true } = true ∧
    (let k : Kernel := { kern 1 with exc := some ⟨1, 0, 0, 0, 0⟩ }; k.exc = some ⟨1, 0, 0, 0, 0⟩) := by decide +kernel
theorem test_kernels : ((res (.kernelStart 1) (queuedLaunch none)).ctx 1).st = .running ∧
    ((res (.kernelStart 1) (queuedLaunch none)).ctx 1).queue = [] ∧
    (launched.kernelResult { kern 1 with cause := 3 }).status = stAborted := by decide +kernel
/-- A persistent launch whose one group is placed. -/
def persistent : State :=
  let k : Kernel := { kern 1 with q := { plain 1 with d := BitVec.ofNat 512 (1 + 2 ^ 256 + 3 * 2 ^ 296 + 2 ^ 304) } }
  { launched with ctxs := [(1, { ctx1 with kernel := some k })], groups := [(0, ⟨1, 0, 3, false, [], []⟩)] }
theorem witness_persistent : (persistent.launchRuns 1).map (fun k => (dPersist k.q.d, k.released, dGroups k.q.d)) = some (true, false, 1) ∧
    (persistent.groups.filter (fun e => e.2.ctx = 1)).length = 1 := by decide +kernel
theorem test_persistent : ((res (.persistentRelease 1) persistent).thr 0 2).st = .ready := by decide +kernel

/-! ### Descriptors -/

/-- A descriptor with values at byte offsets. -/
def dsc (l : List (Nat × Nat)) : Vec := BitVec.ofNat 512 (l.map (fun e => e.2 * 2 ^ (8 * e.1))).sum
/-- Whether a window takes a descriptor. -/
def consumes (s : State) (c op : Nat) (d : Vec) : Bool :=
  !s.dead && dSeq (withOp op d) == (s.ctx c).nextSeq && (s.ctx c).st != .halted &&
    ((s.ctx c).st != .unset || unsetTakes c op (withOp op d))
/-- Whether a context's queue takes it. -/
def queues (s : State) (c op : Nat) (d : Vec) : Bool :=
  consumes s c op d && decide (s.openDescs c < 1024) && (s.ctx c).st != .unset
theorem consumes_of {s : State} {c op : Nat} {d : Vec} (h : consumes s c op d = true) : s.Consumes c op d := by
  simp only [consumes, Bool.and_eq_true, Bool.or_eq_true, Bool.not_eq_true', beq_iff_eq, bne_iff_ne] at h
  exact ⟨h.1.1.1, h.1.1.2, h.1.2, fun hu => h.2.resolve_left (fun hn => hn hu)⟩
theorem queues_of {s : State} {c op : Nat} {d : Vec} (h : queues s c op d = true) : s.Queues c op d := by
  simp only [queues, Bool.and_eq_true, decide_eq_true_eq, bne_iff_ne] at h
  exact ⟨consumes_of h.1.1, h.1.2, h.2⟩
/-- A part of a composition: contexts 1 to 8 and regions 0 to 3 of every die. -/
def cpart : CPart :=
  { ctxFirst := 1, ctxCount := 8, rgn := List.replicate 8 (0, 4), larder := 64, cellar := 64, vintages := 4, qpQuota := 4, keyQuota := 4,
    fltRes := 8, httRes := 8, trkRes := 8, rdtRes := 8, swcRes := [], slots := 1, pfPages := 8 }
/-- Package 0 of pod 0 with composition 5 on packages 0 and 1; context 1 is idle with a Larder segment. -/
def comp5 : State :=
  let m : Comp := { strict := false, closed := false, agents := [0x10800], parts := [(0, cpart), (1, cpart)], stripe := [0, 1] }
  let x : Ctx := { Ctx.reset with st := .idle, dieMask := 1, cnt := 4, segs := [(0, seg 0)] }
  { up with map := { up.map with podPkg := some (0, 0), members := [0, 1], comps := [(5, m)] },
            ctxs := [(0, { Ctx.reset with st := .idle, segs := [(0, seg 0)] }), (1, x)] }
/-- The same with context 1 changed. -/
def ctx5 (f : Ctx → Ctx) : State := comp5.updCtx 1 f
theorem witness_sequence : (descOf 1 (dsc [(4, 7)])).seq ≠ (comp5.ctx 1).nextSeq ∧ (descOf 1 (dsc [])).seq = (comp5.ctx 1).nextSeq ∧
    isControlOp 1 = false ∧ isControlOp 0x21 = true ∧ comp5.openDescs 1 = 0 ∧
    1024 ≤ (ctx5 (fun x => { x with queue := List.replicate 1024 (plain 1) })).openDescs 1 ∧
    ((ctx5 (fun x => { x with st := .halted })).ctx 1).st = .halted := by decide +kernel
theorem test_sequence : ((res (.launch 1 (dsc [(4, 7), (2, 1)])) (ctx5 (fun x => { x with rings := [(0, ⟨true, 0, 0, 0, 6, false, 0, 0, 0⟩)] }))).ctx 1).held.map
      (fun h => (h.rec256 / 2 ^ 48 % 256, h.rec256 / 2 ^ 64 % 2 ^ 64)) = [(stSeq, 0)] ∧
    ((res (.launch 1 (dsc [])) comp5).ctx 1).nextSeq = 1 := by decide +kernel
/-- A launch of 2 groups of 3 threads at 0x40. -/
def launch5 : Vec := dsc [(16, 0x40), (32, 2), (37, 3)]
theorem witness_launch : queues comp5 1 1 launch5 = true ∧ kernelNop 1 (withOp 1 launch5) = false ∧
    ((comp5.consumed 1).kernelCheck 1 1 (withOp 1 launch5)) = none ∧ kernelNop 1 (withOp 1 (dsc [])) = true ∧
    ((comp5.consumed 1).kernelCheck 1 1 (withOp 1 (dsc [(16, 2), (32, 2), (37, 3)]))) = some stMalformed ∧
    (let s := ctx5 (fun x => { x with cnt := 0 }); queues s 1 1 launch5 = true ∧ (s.ctx 1).rgnCount = 0 ∧
      (s.consumed 1).segCheck 1 0x40 1 permR = none) ∧
    dGroups (withOp 1 launch5) = 2 ∧ dThreads (withOp 1 launch5) = 3 ∧ fieldOf (withOp 1 launch5) 16 8 % 4 = 0 := by decide +kernel
theorem test_launch : ((res (.launch 1 launch5) comp5).ctx 1).queue.map (·.op) = [1] := by decide +kernel

/-! ### Publication -/

/-- A channel whose module is known and has room for four stripe sets. -/
def chan0 : CChan := { CChan.reset with up := true, ident := true, sectors := 1024 }
/-- A Cellar of 16 healthy slots, with that composition. -/
def cel5 : State :=
  let c : Cellar := { Cellar.reset with opened := [(5, 3)], slots := (List.range 16).map (fun n => (n, 1, n)),
                                        chans := (List.range 17).map (fun n => (n, chan0)) }
  { comp5.setFld rCEL_CFG 1 0 1 with cel := c }
/-- Vintage 4 of composition 5 in a given state. -/
def vint4 (st : Nat) (exts : List Nat) : Vint :=
  { comp := 5, num := 4, st := st, exts := exts, pads := [], hashes := [], area := [], sets := [], hash := 0, pins := 0, acks := 0,
    ending := 0, own := 0, coming := 0, planned := exts.length, closing := false, bad := false }
/-- With vintage 4, and a sealed vintage 2 of one extent. -/
def published : State :=
  { cel5 with cel := { cel5.cel with vints := [(vintKey 5 4, vint4 0 []), (vintKey 5 2, { vint4 1 [9] with num := 2 })] } }
theorem witness_open : cel5.hasCellar = true ∧ queues cel5 1 0x10 (dsc [(16, 4)]) = true ∧ cel5.cel.opened.getD 5 0 < 4 ∧
    (cel5.cel.vints.filter (fun v => v.2.comp = 5)).length < ((cel5.partOf 5).map (·.vintages)).getD 0 ∧ cel5.compOf 1 = 5 := by
  decide +kernel
theorem test_open : (let s := res (.publishOpen 1 (dsc [(16, 4)])) cel5; (s.vint? 5 4).map (·.st) = some 0 ∧ s.cel.opened.find? 5 = some 4) ∧
    (res (.publishOpen 1 (dsc [(16, 3)])) cel5).cel.vints = [] := by decide +kernel
theorem witness_extents : (vint4 0 []).takes = true ∧ (let s1 := published.consumed 1;
      s1.larderCheck 1 0 (2 ^ 21) permR = none ∧ s1.celUsed 5 < s1.celQuota 5 ∧ s1.setsFit (vintKey 5 4) 1 = true ∧
      published.celFailed < 3 ∧ s1.larderCheck 1 64 40 permW = none ∧ published.celHalf ≤ 64) ∧
    (published.vint? 5 2).map (fun f => (f.st, f.exts.length)) = some (1, 1) ∧
    queues published 1 0x11 (dsc [(16, 4)]) = true ∧ queues published 1 0x12 (dsc [(16, 4), (24, 2)]) = true ∧
    queues published 1 0x13 (dsc [(16, 4), (24, 64)]) = true ∧ queues published 1 0x14 (dsc [(16, 4)]) = true ∧
    (let d : Vec := dsc [(16, 4), (20, 1)]; pIndex d ≠ 0 ∧ queues published 1 0x11 d = true) := by decide +kernel
theorem test_extents : ((res (.publishExtent 1 (dsc [(16, 4)])) published).vint? 5 4).map (·.planned) = some 1 ∧
    ((res (.publishShare 1 (dsc [(16, 4), (24, 2)])) published).vint? 5 2).map (·.pins) = some 1 ∧
    ((res (.publishAbort 1 (dsc [(16, 4)])) published).vint? 5 4).map (·.closing) = some true := by decide +kernel
theorem witness_retire : queues published 1 0x15 (dsc [(16, 2)]) = true ∧ (published.consumed 1).vintBound 5 2 = false ∧
    queues published 1 0x16 (dsc [(32, 1), (40, 64)]) = true ∧ (published.consumed 1).larderCheck 1 64 4 permW = none := by decide +kernel
theorem test_retire : ((res (.vintageRetire 1 (dsc [(16, 2)])) published).vint? 5 2).map (·.st) = some 2 := by decide +kernel

/-! ### Control descriptors -/

theorem witness_contexts : (let s := ctx5 (fun x => { x with st := .halted });
      (comp5.consumed 1).ctlTarget 1 2 = true ∧ (comp5.consumed 1).ctlTarget 1 0 = false ∧ consumes comp5 1 0x22 (dsc [(16, 2)]) = true ∧
      (s.consumed 1).ctlTarget 1 1 = true ∧ (s.ctx 1).st = .halted ∧ (comp5.ctx 2).st ≠ .halted) ∧
    (let D := withOp 0x20 (dsc [(16, 2), (18, 2), (19, 1), (20, 3), (22, 8)]);
      consumes comp5 1 0x20 D = true ∧ 1 + 3 ≤ comp5.nRgn ∧ (maskRgns 2 1 3).all (fun r => (comp5.consumed 1).rgnComp r == some 5 &&
        (comp5.consumed 1).ctxs.all (fun e => e.1 == 2 || !e.2.hasRgn r)) = true ∧ 8 ≤ (comp5.consumed 1).pfLeft 2) ∧
    (let s1 := comp5.consumed 1; consumes comp5 1 0x23 (dsc [(16, 1)]) = true ∧ (s1.ctx 1).segs.all (fun g =>
      !s1.aliased 1 g.1 && !s1.keyed 1 g.1 && !s1.attachedTo 1 g.1) = true) := by decide +kernel
theorem test_contexts : (let s := res (.contextSet 1 (dsc [(16, 2), (18, 2), (19, 1), (20, 3), (22, 8)])) comp5;
      (s.ctx 2).st = .idle ∧ (s.ctx 2).first = 1 ∧ (s.ctx 2).pfPages = 8) ∧
    ((res (.contextReset 1 (dsc [(16, 1)])) (ctx5 (fun x => { x with st := .halted }))).ctx 1).st = .idle ∧
    (let s := res (.contextFree 1 (dsc [(16, 1)])) comp5; (s.ctx 1).st = .unset ∧ s.map.freeing = [(5, 5), (6, 5)]) ∧
    ((res (.contextAbort 1 (dsc [(16, 1)])) (ctx5 (fun x => { x with st := .running, kernel := some (kern 1) }))).ctx 1).kernel.map
      (fun k => (k.closed, k.cause)) = some (true, 1) := by decide +kernel
/-- SEG_SET of segment 3 of context 1: Larder, one die, present, readable and writable, 2 MiB. -/
def segDesc : Vec := dsc [(16, 0x3001), (18, 0x80), (19, 3), (32, 2 ^ 21)]
theorem witness_segments : (let D := withOp 0x24 segDesc; let s1 := comp5.consumed 1; let g := segOf D;
      consumes comp5 1 0x24 segDesc = true ∧ s1.ctlTarget 1 1 = true ∧ g.limit ≠ 0 ∧ s1.seg? 1 (cSeg D) = none ∧
      segBad 1 (cSeg D) g = false ∧ g.tier = 0 ∧ s1.keyBeyond 1 (cSeg D) g.limit = false ∧ s1.aliasBad 5 g = none ∧
      (s1.needPages 5 g).length ≤ s1.quotaLeft 5 ∧ s1.pagesFit (s1.needPages 5 g) = true ∧ (segOf 0).limit = 0) ∧
    (let s1 := comp5.consumed 1; consumes comp5 1 0x26 (dsc [(16, 1)]) = true ∧ (s1.seg? 1 0).isSome = true ∧
      s1.aliased 1 0 = false ∧ s1.keyed 1 0 = false ∧ s1.attachedTo 1 0 = false) ∧
    (let s := published.updCtx 1 (fun x => { x with segs := [(2, { seg 0 with tier := 1, placement := 3, limit := 2 ^ 21, pages := [] })] });
      consumes s 1 0x25 (dsc [(16, 0x2001), (20, 2)]) = true ∧ ((s.consumed 1).seg? 1 2).map (fun g =>
        (g.tier, g.present, (s.consumed 1).bindCheck 5 g 2)) = some (1, true, none)) := by decide +kernel
theorem test_segments : (let g := (res (.segDelete 1 (dsc [(16, 1)])) comp5); g.seg? 1 0 = none ∧ g.map.freeing = [(5, 5), (6, 5)]) ∧
    (res (.segSet 1 (dsc [(16, 0x3001)])) comp5).seg? 1 3 = none ∧
    ((res (.segRebind 1 (dsc [(16, 0x2001), (20, 2)])) (published.updCtx 1 (fun x =>
      { x with segs := [(2, { seg 0 with tier := 1, placement := 3, limit := 2 ^ 21, pages := [] })] }))).seg? 1 2).map (·.vintage) = some 2 := by
  decide +kernel
/-- Context 1 runs a persistent kernel. -/
def persist5 : State := ctx5 (fun x => { x with st := .running, kernel := some { kern 1 with q := { plain 1 with d := BitVec.ofNat 512 (1 + 2 ^ 304) } } })
/-- A queue pair of context 1, whose fields are in range. -/
def pair5 : Qp := newQp 5 1 (dsc [(22, 1)])
/-- The same with a queue pair of context 1, and another intake on pair 3; port 0 has an address. -/
def served : State :=
  let s := persist5.updCtx 1 (fun x => { x with intakes := [(3, ⟨3, dsc [], 0, 0, 0⟩)], posts := [(1, ⟨0, true, 0, 0, 0, 0⟩)] })
  { s.wr rETH_IP4 0 0 1 with qps := [(2, pair5), (3, pair5)] }
/-- SVC_INTAKE on pair 2 of one unit with 2^6 slots at 0x200000. -/
def intakeDesc : Vec := dsc [(16, 1), (18, 2), (20, 1), (21, 6), (22, 1), (24, 2 ^ 21)]
/-- SVC_POST of area 0 whose descriptors go to context 2. -/
def postDesc : Vec := dsc [(16, 1), (18, 2), (20, 4), (24, 2 ^ 21), (32, 2 ^ 17)]
theorem witness_services : (let s1 := served.consumed 1; let D := withOp 0x29 intakeDesc;
      consumes served 1 0x29 intakeDesc = true ∧ s1.ctlTarget 1 (cTarget D) = true ∧ iUnits D = 1 ∧ iLog2 D = 6 ∧
      bitOf (fieldOf D 22 1) 0 = true ∧ s1.larderCheck 1 (fieldOf D 24 8) 4096 permW = none ∧ s1.larderCheck 1 0 8 permR = none ∧
      s1.flagUnit 1 (locAt D 40) = true ∧ s1.persists 1 = true ∧ s1.intakeOf 2 = none ∧
      (s1.ctx 1).intakes.has 3 = true ∧ bitOf (fieldOf (withOp 0x29 (dsc [(16, 1), (18, 3)])) 22 1) 0 = false) ∧
    (let s1 := served.consumed 1; let D := withOp 0x2A postDesc;
      consumes served 1 0x2A postDesc = true ∧ bitOf (fieldOf D 20 1) 2 = true ∧ aDest D = 2 ∧
      s1.larderCheck 1 (2 ^ 21) 65536 permW = none ∧ s1.larderCheck 1 (2 ^ 17) 131072 permW = none ∧
      s1.flagUnit 1 (locAt D 48) = true ∧ s1.compOf? 2 = s1.compOf? 1 ∧ (s1.ctx 1).posts.find? 0 = none ∧
      ((s1.ctx 1).posts.find? 1).isSome = true ∧ aNo (withOp 0x2A (dsc [(16, 1), (20, 1)])) = 1) := by decide +kernel
theorem test_services : ((res (.svcIntake 1 intakeDesc) served).ctx 1).intakes.keys = [2, 3] ∧
    ((res (.svcIntake 1 (dsc [(16, 1), (18, 3)])) served).ctx 1).intakes = [] ∧
    (((res (.svcPost 1 postDesc) served).ctx 1).posts.find? 0).map (·.on) = some true ∧
    (((res (.svcPost 1 (dsc [(16, 1), (20, 1)])) served).ctx 1).posts.find? 1).map (·.on) = some false := by decide +kernel
/-- Context 1 has a coherent segment. -/
def coherent5 : State := ctx5 (fun x => { x with segs := [(0, { seg 0 with c := true })] })
theorem witness_attach : (let s1 := coherent5.consumed 1; let b := fieldOf (withOp 0x2B (dsc [(16, 1), (18, 0x30), (22, 1)])) 18 1;
    bitOf b 5 = true ∧ bitOf b 4 = true ∧ b % 16 = 0 ∧ (s1.stripe 5).contains 1 = true ∧ s1.aliased 1 0 = false ∧ s1.home.attach = [] ∧
    (s1.seg? 1 0).map (fun g => (g.c, g.placement, g.src)) = some (true, 0, none)) := by decide +kernel
/-- Agent 0 of port 1 is attached to that segment, and may hold a line of it. -/
def attached5 (trk : Assoc Trk) : State := { coherent5 with home := { coherent5.home with attach := [⟨1, 0, 1, 0, true⟩], trk := trk } }
theorem witness_detach : bitOf (fieldOf (withOp 0x2B (dsc [(16, 1), (18, 0x20), (22, 1)])) 18 1) 4 = false ∧
    consumes (attached5 []) 1 0x2B (dsc [(16, 1), (18, 0x20), (22, 1)]) = true ∧ (attached5 []).home.leaving = [] ∧
    ((attached5 []).heldLines ⟨1, 0, 1, 0, true⟩).isEmpty = true ∧
    ((attached5 [(7, ⟨1, 0, 5, 1, 0, 64, 0⟩)]).heldLines ⟨1, 0, 1, 0, true⟩).isEmpty = false ∧
    comp5.noCellar 0x10 = true ∧ comp5.noCellar 1 = false := by decide +kernel
theorem test_detach : (res (.cohAttach 1 (dsc [(16, 1), (18, 0x20), (22, 1)])) (attached5 [])).home.attach = [] ∧
    (let s := res (.cohAttach 1 (dsc [(16, 1), (18, 0x20), (22, 1)])) (attached5 [(7, ⟨1, 0, 5, 1, 0, 64, 0⟩)]);
      s.home.attach.length = 1 ∧ s.home.leaving.length = 1) := by decide +kernel
theorem test_attach : (res (.cohAttach 1 (dsc [(16, 1), (18, 0x30), (22, 1)])) coherent5).home.attach = [⟨1, 0, 1, 0, true⟩] := by decide +kernel
theorem witness_pairs : (let s1 := served.consumed 1; let D := withOp 0x2C (dsc [(16, 1), (22, 1)]);
      s1.qpBad D = false ∧ fieldOf D 20 1 % 4 = 0 ∧ (s1.qps.filter (fun q => q.2.comp = 5)).length < ((s1.partOf 5).map (·.qpQuota)).getD 0 ∧
      leastBelow 16384 (fun q => !s1.qps.has q) = some 0) ∧
    qpFixed (withOp 0x2C (dsc [(16, 1), (18, 2), (20, 1), (22, 1)])) = qpFixed pair5.d ∧
    served.qpCarries 2 = false ∧ served.qpCarries 3 = true := by decide +kernel
theorem test_pairs : (res (.qpSet 1 (dsc [(16, 1), (22, 1)])) served).qps.keys = [0, 2, 3] ∧
    (res (.qpSet 1 (dsc [(16, 1), (18, 2), (20, 3)])) served).qps.keys = [3] ∧
    (res (.qpSet 1 (dsc [(16, 1), (18, 3), (20, 3)])) served).qps.keys = [2, 3] ∧
    ((res (.qpSet 1 (dsc [(16, 1), (18, 2), (20, 2), (28, 9), (32, 8)])) served).qps.find? 2).map (fun q => (q.sqPsn, q.rqPsn)) = some (9, 8) := by
  decide +kernel
/-- KEY_SET of bytes 64 to 127 of segment 0 of context 1. -/
def keyDesc : Vec := dsc [(16, 1), (18, 2), (24, 64), (32, 64)]
theorem witness_keys : (let s1 := comp5.consumed 1; let D := withOp 0x2D keyDesc;
    (s1.seg? 1 (cSeg D)).map (fun g => (g.tier, decide (128 ≤ g.limit))) = some (0, true) ∧ bitOf (fieldOf D 18 1) 3 = false ∧
    bitOf (fieldOf D 18 1) 0 = false ∧ s1.keys.length < ((s1.partOf 5).map (·.keyQuota)).getD 0 ∧
    leastBelow 32768 (fun i => !s1.keys.has i) = some 0 ∧ consumes comp5 1 0x2D keyDesc = true) := by decide +kernel
theorem test_keys : (res (.keySet 1 keyDesc) comp5).keys.map (fun e => (e.1, e.2.seg, e.2.win, e.2.len)) = [(0, 0, 64, 64)] ∧
    (res (.keySet 1 (dsc [(16, 1), (24, 2 ^ 22), (32, 1)])) comp5).keys = [] := by decide +kernel
theorem witness_rings : (let D := withOp 0x2E (dsc [(16, 1), (18, 6), (19, 6), (20, 2), (32, 64)]); let b := fieldOf D 18 1;
    bitOf b 2 = true ∧ bitOf b 3 = false ∧ fieldOf D 19 1 % 32 = 6 ∧ fieldOf D 32 8 % 32 = 0 ∧
    ((served.consumed 1).qps.find? 2).map (·.comp) = some 5) := by decide +kernel
theorem test_rings : ((res (.cringSet 1 (dsc [(16, 1), (18, 6), (19, 6), (20, 2), (32, 64)])) served).ring 1 2).set = true ∧
    ((res (.cringSet 1 (dsc [(16, 1), (18, 6), (19, 5), (20, 2), (32, 64)])) served).ring 1 2).set = false := by decide +kernel

/-! ### Tables, the map, checkpoints and the hub-order queue -/

/-- A table of 16 rows of 16 FP32 values at offset 0. -/
def tableDesc : Vec := dsc [(16, 1), (18, 7), (20, 0), (22, 4), (24, 16), (54, 1)]
theorem witness_system : consumes comp5 0 0x100 (dsc [(24, 447)]) = true ∧ fieldOf (withOp 0x100 (dsc [(24, 447)])) 24 4 < 448 ∧
    (let s := res (.keySet 1 keyDesc) comp5; (s.keys.find? 0).map (fun k => (k.gen, k.comp, k.control)) = some (0, 5, false) ∧
      consumes s 0 0x101 (dsc [(16, 0)]) = true) ∧
    consumes comp5 0 0x102 (dsc [(32, 4)]) = true ∧
    (let s1 := comp5.consumed 1; let D := withOp 0x28 tableDesc; consumes comp5 1 0x28 tableDesc = true ∧
      tShard D = 0 ∧ tFormat D ≤ 7 ∧ fieldOf D 22 2 % 2048 = 4 ∧ tRows D = 16 ∧ tSpare D = 0 ∧ tMigMax D = 1 ∧ tMigEn D = false ∧
      tBase D + s1.tCap 1 D * tRowBytes D ≤ 2 ^ 22 ∧ s1.tableBusy 1 7 = false ∧ s1.table? 1 7 = none) ∧
    (let s1 := comp5.consumed 1; s1.coordinates 5 = true ∧ 1 < (s1.stripe 5).length ∧ (s1.ckpt? 5).phase = 0 ∧
      consumes comp5 1 0x200 (dsc [(16, 1), (18, 1), (20, 1)]) = true) := by decide +kernel
theorem test_system : (res (.keyRevoke 0 (dsc [])) (res (.keySet 1 keyDesc) comp5)).keys.map (fun e => e.2.revoked) = [true] ∧
    (res (.ledgerSet 0 (dsc [(16, 2), (20, 3), (24, 64), (32, 4)])) comp5).map.ledger = some (2, 3, 64, 4) ∧
    ((res (.tableSet 1 tableDesc) comp5).ctx 1).tables.keys = [7] ∧
    ((res (.ckptSet 1 (dsc [(16, 1), (18, 1), (20, 1), (24, 9)])) comp5).ckpt? 5).interval = 9 ∧
    (res (.mapPropose 1 (dsc [])) comp5).fld rCMP_PROPOSALS 63 32 = 1 := by decide +kernel
/-- Context 1 with a hub-order descriptor of an opcode queued. -/
def hubbed (op : Nat) (st : Option Nat) : State := ctx5 (fun x => { x with queue := [plain 1, { plain op with status := st }] })
/-- A SEND of a service that is being answered on pair 2, unacknowledged. -/
def answering : State :=
  { served.updCtx 1 (fun x => { x with sends := [(0, plain 0x18)] }) with
    qps := [(2, { pair5 with unacked := [⟨0, 0, .send none, .svc 1 0, []⟩] })] }
theorem witness_hub_order : (hubbed 0x10 none).hubFront 1 = some (plain 0x10) ∧ (hubbed 0x10 none).frozen 5 = false ∧
    ((hubbed 0x18 (some 0)).hubFront 1).bind (·.status) = some 0 ∧
    (let s := (hubbed 0x10 none).updCkpt 5 (fun k => { k with frozen := true }); s.frozen 5 = true ∧ (s.ctx 1).hubOn = false) ∧
    answering.qps.findKey? (fun _ q => q.unacked.head?.any (fun m => m.use == .svc 1 0)) = some 2 ∧
    (answering.ctx 1).sends.find? 0 = some (plain 0x18) ∧ dSeq (dsc [(4, 1)]) ≠ (comp5.ctx 0).nextSeq := by decide +kernel
theorem witness_hub_flaw : (hubbed 0x10 none).flawed .hub = false ∧ (ill (hubbed 0x10 none) [(.hub, true)]).flawed .hub = true ∧
    (res (.hubOrderRun 1) (ill (hubbed 0x10 none) [(.hub, true)])).start.mode = .failed := by decide +kernel
theorem test_hub_order : ((res (.hubOrderRun 1) (hubbed 0x10 none)).ctx 1).queue = [plain 1] ∧
    ((res (.svcSendAck 1 0) answering).ctx 1).sends = [] ∧ (res (.sysDesc (dsc [(4, 1)])) comp5).fld rETH_DESC_REFUSED 31 0 = 1 := by
  decide +kernel

/-! ### Completions, faults and pages -/

/-- Context 1 holds a completion for ring 0, with 64 entries at 0x1000 and `f` of `m` consumed. -/
def ringed (en : Bool) (m f : Nat) : State :=
  served.updCtx 1 (fun x => { x with rings := [(0, ⟨true, 2, 9, 0x1000, 6, en, 64, f, m⟩)], held := [⟨1, 0, 0, false⟩, ⟨0, 5, 0, false⟩] })
theorem witness_completions : dReq (dsc [(2, 1)]) = true ∧ dReq (dsc []) = false ∧ (comp5.ring 1 0).set = false ∧
    ((ringed false 65 0).ring 1 0).set = true ∧ ((ringed false 65 0).ring 1 0).allows = true ∧ ((ringed true 64 0).ring 1 0).allows = false ∧
    ((ringed false 65 0).ctx 1).held.find? (fun h => h.ring = 0) = some ⟨0, 5, 0, false⟩ ∧
    ((ringed false 65 0).ctx 1).held.find? (fun h => h.ring = 2) = none ∧ (ringed false 65 0).qps.find? 2 = some pair5 ∧
    pair5.comp = (ringed false 65 0).compOf 1 ∧ pair5.err = false ∧
    (let s := ringed true 0 0; s.segCheck 1 64 8 permR = none ∧ s.absent 1 64 = false ∧ s.inLarder 1 64 = true ∧
      (s.keyOf 1 64).isSome = true) := by decide +kernel
theorem test_completions : (let s := res (.completionWrite 1 0) (ringed false 65 0);
    (s.ring 1 0).m = 66 ∧ (s.ctx 1).held = [⟨1, 0, 0, false⟩] ∧
    s.tx = [.rdma 2 0 (.write 9 (0x1000 + 32)) ([5] ++ List.replicate 31 0)]) := by decide +kernel
/-- Context 1 with its segment striped over both packages, and the count of ring 0 in the other one's stripe. -/
def striped5 : State :=
  ctx5 (fun x => { x with segs := [(0, { seg 0 with placement := 2 })], rings := [(0, ⟨true, 2, 9, 0x1000, 6, true, 2 ^ 21, 0, 0⟩)] })
theorem witness_freed_elsewhere : (striped5.ring 1 0).freedEn = true ∧ striped5.translate 1 (2 ^ 21) = .remote 1 ∧
    striped5.freedShut 1 (2 ^ 21) = false := by decide +kernel
/-- The stall of a thread on a load of 8 bytes at 64. -/
def stall0 (no : Option Nat) (tmo : Option Nat) : Stall :=
  { source := 0, access := 0, addr := 64, len := 8, count := 0, slotNo := no, delayed := false, expiry := tmo }
/-- Thread 0 of unit 0 is stalled. -/
def stalled (no : Option Nat) (tmo : Option Nat) : State :=
  with0 { busy with map := comp5.map } (fun h => { h with st := .stalled, stall := some (stall0 no tmo) })
theorem witness_faults : (stalled none none).waitingStalls.map (fun x => (x.2.1, x.2.2)) = [(0, 0)] ∧ (stalled none none).mayPost 1 = true ∧
    busy.waitingStalls = [] ∧ leastBelow 4096 (fun i => !(stalled none none).flt.recs.has i) = some 0 ∧
    ((stalled (some 0) (some 9)).ctx 1).kernel.map (·.closed) = some false ∧ (stalled (some 0) (some 9)).unitOk 0 = true ∧
    (let s := { comp5 with pageOwner := [(5, 5)], map := { comp5.map with freeing := [(5, 5)] } };
      s.map.freeing.contains (5, 5) = true ∧ s.map.draining.contains 5 = false ∧ s.accessOpen 5 = false) ∧
    (let s := { stalled (some 0) none with flt := { recs := [(0, ⟨1, 5, 0, 0, 0, 0⟩)], gens := [], timed := [] } };
      (s.covered (withOp 0x27 (dsc [(16, 1)]))).map (fun x => (x.1, x.2.1)) = [(0, 0)] ∧ consumes s 0 0x27 (dsc [(16, 1)]) = true) := by
  decide +kernel
theorem test_faults : (let s := res .faultRecordDelayedPost (stalled none none); s.flt.recs.keys = [0] ∧ s.fld rFLT_POSTED 63 0 = 1) ∧
    (let s := res (.serviceTimeout 0 0) (stalled (some 0) (some 9)); s.count = 9 ∧ (s.ctx 1).kernel.map (·.cause) = some 2) ∧
    (let s := res (.pageRelease 0 5) { comp5 with pageOwner := [(5, 5)], larder := [(5 * 2 ^ 21, 1), (6 * 2 ^ 21, 2)],
                                                  map := { comp5.map with freeing := [(5, 5)] } };
      s.pageOwner = [] ∧ s.larder = [(6 * 2 ^ 21, 2)]) := by decide +kernel

/-! ### The Cellar's messages and timers -/

/-- What a reply of one sector under tag 5 repeats of its command. -/
def celTag5 : CelEcho := ⟨5, 0, 1⟩
/-- A reply of one sector under tag 5. -/
def celRep (status : BitVec 8) : CelHdr := replyHdr celTag5 status 0
/-- A request outstanding on channel 2 with tag 5. -/
def tagged (kind : Nat) (x : Option Nat) : State :=
  { cel5 with cel := { cel5.cel with tags := [(2 * 1024 + 5, ⟨2, kind, 0, 1, x, 77, 2, 0, []⟩)], fetch := [(77, ⟨1, none, none, false, []⟩)] } }
theorem witness_module : (({ cel5 with cel := { cel5.cel with chans := [(2, { chan0 with ident := false, sectors := 0 })] } } : State).chan 2).up = true ∧
    (cel5.chan 2).ident = true ∧ (cel5.chan 2).failed = false ∧ (cel5.chan 2).modId = 0 ∧ cel5.cel.tags.find? 2053 = none ∧
    (tagged 0 (some 9)).cel.tags.find? 2053 = some ⟨2, 0, 0, 1, some 9, 77, 2, 0, []⟩ ∧ (tagged 0 (some 9)).cel.fetch.find? 77 = some ⟨1, none, none, false, []⟩ ∧
    (tagged 1 none).cel.tags.find? 2053 = some ⟨2, 1, 0, 1, none, 77, 2, 0, []⟩ ∧ (tagged 2 none).cel.tags.find? 2053 = some ⟨2, 2, 0, 1, none, 77, 2, 0, []⟩ ∧
    celFlawed { celRep 0 with count := 0 } 0x21 [] = true ∧ celFlawed (celRep 0) 0x21 [] = false ∧
    celFlawed (celRep 3) 0x29 [] = false ∧ celFlawed (celRep 1) 0x11 [] = false ∧ celFlawed (celRep 0) 0x11 [] = true ∧
    77 ≠ scrubKey := by
  decide +kernel
theorem test_module : ((res (.ident 2 7 9 1) ({ comp5 with cel := { Cellar.reset with chans := [(2, { chan0 with ident := false, sectors := 0 })] } })).chan 2).modId = 7 ∧
    (res (.readData 2 celTag5 1 0 []) cel5).fld rCEL_RD_LATE 31 0 = 1 ∧ (res (.trimAck 2 (celRep 0)) (tagged 2 none)).cel.tags = [] ∧
    ((res (.trimAck 2 (celRep 3)) (tagged 2 none)).chan 2).failed = true ∧
    (res (.error 2 0x50028) (tagged 2 none)).cel.tags = [] ∧ (res (.writeAck 2 celTag5 0) (tagged 1 none)).cel.tags = [] ∧
    (let s := res (.status 2 0 5 6 70) (tagged 1 none); (s.chan 2).temp = 70 ∧ (s.chan 2).spare = 6) := by decide +kernel
/-- A rebuild of slot 3 at the cursor. -/
def rebuilding (cur : Nat) : State :=
  { cel5.setFld rCEL_REBUILD 15 0 2 with cel := { cel5.cel with rebuild := some 3, cursor := cur } }
theorem witness_cellar_timers : (tagged 0 (some 9)).cel.unsent = [] ∧ cel5.celSets = 4 ∧ cel5.fld rCEL_SCRUB 15 0 ≠ 0 ∧ cel5.chanPresent 2 = true ∧
    (({ cel5 with cel := { cel5.cel with chans := [(2, { chan0 with up := false })] } } : State).chan 2).up = false ∧
    (rebuilding 1).cel.cursor + 2 < (rebuilding 1).celSets ∧ (rebuilding 3).celSets ≤ (rebuilding 3).cel.cursor + 1 ∧
    (rebuilding 1).cel.fetch.find? ((rebuilding 1).rbKey 3) = none ∧ (rebuilding 1).cel.rbGoal ≤ (rebuilding 1).cel.cursor ∧
    cel5.hasCellar = true ∧ ({ cel5 with cel := { cel5.cel with scrub := some [] } } : State).cel.scrub = some [] ∧
    comp5.fld rLRD_CFG 0 0 0 ≠ 0 ∧ comp5.fld rLRD_SCRUB_STAT 37 0 0 = 0 ∧ comp5.flawed (.line 0) = false := by decide +kernel
theorem test_cellar_timers : (res .rebuildPeriod (rebuilding 1)).cel.rbGoal = 3 ∧
    (let s := { rebuilding 3 with cel := { (rebuilding 3).cel with rbRow := 255 } }; ((s.rebuildNext 3 none).slot 3).1 = 1) ∧
    (res (.larderScrub 0 0 false true) comp5).lpois = [0] ∧
    (res (.larderScrub 0 0 false false) (ill comp5 [(.line 0, true)])).lpois = [0] ∧ (res (.cellarScrubPeriod ()) cel5).cel.scrubAt = 65536 ∧
    (let s := res (.cellarReadTimeout 2 5) (tagged 0 (some 9)); s.count = 9 ∧ (s.chan 2).tmoCount = 1) ∧
    ((res (.cellarStatusTimeout 2) cel5).chan 2).failed = true := by decide +kernel

/-! ### Search and embedding -/

/-- A running search on a peer of package 1, with one batch. -/
def srch5 (stage : Nat) (queued : List SBatch) (running : Assoc SBatch) : Srch :=
  { d := BitVec.ofNat 512 2, lead := some 1, nLists := 1, stage := stage, hdr := 0, delta := none, qs := [{ SQ.ofRaw 0 [] [] with matched := 3 }],
    queued := queued, running := running, dieBest := [], waiting := [], failed := [], reports := [], kept := [], tombs := [] }
/-- The batch. -/
def batch5 : SBatch := { die := 0, list := 0, addr := 0, base := 0, count := 1, qs := [0] }
/-- Context 1 runs it. -/
def searching (r : Srch) : State := { comp5 with srch := [(1, r)], rgns := [(0, { Rgn.reset with pow := .active })] }
theorem witness_search : comp5.srch.find? 1 = none ∧ (comp5.ctx 1).st = .idle ∧ (comp5.ctx 1).cnt ≠ 0 ∧ (comp5.ctx 2).st = .unset ∧
    comp5.peerCheck 1 (dsc [(0, 2), (26, 1)]) = none ∧
    (let s := searching (srch5 2 [batch5] []); (srch5 2 [batch5] []).nextOf 0 = some batch5 ∧ (s.setRegions 0 1).head? = some 0 ∧
      s.activeRgn 0 = true ∧ s.rgnBusy 0 = false) ∧
    (let s := searching (srch5 2 [] [(0, batch5)]); s.srch.findKey? (fun _ r => r.running.has 0) = some 1 ∧
      s.hubHere 1 0 (batch5.len (sCode (BitVec.ofNat 512 2))) = true) ∧ (srch5 2 [] []).stage = 2 ∧
    ((ctx5 (fun x => { x with kernel := some { kern 2 with q := { plain 2 with fwd := some (1, 1, []) } } })).ctx 1).kernel.map
      (·.q.fwd.isSome) = some true := by decide +kernel
/-- A forwarded search with SEQ 7 of package 1 runs in context 1, and one with SEQ 8 waits. -/
def forwarded5 : State :=
  let f (n : Nat) : QDesc := { plain 2 with d := dsc [(4, n)], fwd := some (1, 1, []) }
  ctx5 (fun x => { x with kernel := some { kern 2 with q := f 7 }, queue := [f 8] })
theorem witness_search_seq : (let r := srch5 2 [] []; (searching r).srch.find? 1 = some r ∧ dSeq r.d ≠ 4) ∧
    (let r := { srch5 3 [] [] with waiting := [(4, some 9)] }; r.waiting.find? 4 = some (some 9) ∧
      9 < ({ searching r with count := 10 } : State).count ∧ (searching r).count ≤ 9) ∧
    (let r := srch5 2 [] [(0, batch5)]; ((searching r).tombParts 1 r batch5 []).all (fun p => (searching r).hubHere 1 p.1 p.2) = true) ∧
    (forwarded5.ctx 1).kernel.map (fun k => (k.q.fwd.map Prod.fst, dSeq k.q.d)) = some (some 1, 7) ∧
    (comp5.ctx 1).kernel = none := by decide +kernel
theorem test_search_abort : ((res (.searchAbort ⟨1, 1, 8⟩) forwarded5).ctx 1).queue = [] ∧
    ((res (.searchAbort ⟨1, 1, 8⟩) forwarded5).ctx 1).kernel = (forwarded5.ctx 1).kernel := by decide +kernel
theorem test_search : (res (.searchRoundEnd 1) (searching (srch5 2 [] []))).tx = [.msg 1 2 [1, 0, 0, 3]] ∧
    ((res (.listBatchIssue 0 1) (searching (srch5 2 [batch5] []))).srch.find? 1).map (·.running) = some [(0, batch5)] ∧
    (let s := res (.searchPeerTimeout 1 4) (searching { srch5 3 [] [] with lead := none, waiting := [(4, some 9), (5, none)] });
      s.count = 9 ∧ (s.srch.find? 1).map (·.failed) = some [4]) ∧
    (res (.searchPeerReply 1 4 ⟨0, false, [], none⟩) comp5).fld rSRCH_LATE 31 0 = 1 := by decide +kernel
theorem test_merge : sMerge false 2 [[⟨9, 1, 0⟩, ⟨3, 4, 0⟩], [⟨2, 1, 0⟩, ⟨9, 1, 0⟩]] = [⟨2, 1, 0⟩, ⟨9, 1, 0⟩] := by decide +kernel
/-- A request header of package 1 for context 1. -/
def hdr1 : ReqHdr := ⟨3, false, false, true, false, BitVec.ofNat 36 (2 ^ 20), 0, 5, 1, 0, 64, 64, 0, 0⟩
/-- A table sharded over both packages by ranges of 8 rows, with 2 spare rows. -/
def shard5 : Vec := dsc [(16, 1), (18, 7), (19, 0x10), (22, 4), (24, 16), (32, 8), (48, 2), (54, 1)]
/-- The table is slot 7, with bookkeeping `e`. -/
def tabled (e : ETab) : State :=
  { ctx5 (fun x => { x with tables := [(7, ⟨shard5, 0⟩)] }) with emb := ⟨[], [(71, e)], [], [], [], 0⟩ }
/-- An update of row 3. -/
def upd3 : EmbUpd := ⟨0, hdr1, 7, 3, true, 0, 0, 0, 1, 0, []⟩
theorem witness_embedding : comp5.table? 1 7 = none ∧ (tabled .zero).table? 1 7 = some shard5 ∧ (tabled .zero).reqMember hdr1 = true ∧
    (tabled .zero).reqMember { hdr1 with comp := 4 } = false ∧ ((tabled .zero).etab 1 7).redirects.find? 3 = none ∧
    ((tabled { ETab.zero with redirects := [(3, ⟨1, 0, 1⟩)] }).etab 1 7).redirects.find? 3 = some ⟨1, 0, 1⟩ ∧
    ((tabled { ETab.zero with held := [(3, 0, true)] }).etab 1 7).held.find? 3 = some (0, true) ∧
    ((tabled { ETab.zero with batches := [(0, ⟨[], [], some 9⟩)] }).etab 1 7).batches.find? 0 = some ⟨[], [], some 9⟩ ∧
    (let s := { tabled .zero with emb := ⟨[], [], [(71, ⟨0, 1, 0, false, some [3]⟩)], [], [], 0⟩ };
      s.emb.pres.find? 71 = some ⟨0, 1, 0, false, some [3]⟩ ∧ s.rowHere 1 7 shard5 3 = true) := by decide +kernel
theorem witness_updates : hdr1.vc = 3 ∧ ({ hdr1 with vc := 0 } : ReqHdr).vc ≠ 3 ∧ (tabled .zero).mute = false ∧ up.mute = true ∧
    (tabled .zero).tPkg 1 shard5 ((tabled .zero).tHome 1 shard5 3).1 = (tabled .zero).self ∧ hPort hdr1 ≠ (tabled .zero).self ∧
    ((tabled { ETab.zero with redirects := [(3, ⟨1, 0, 0⟩)] }).etab 1 7).redirects.find? 3 = some ⟨1, 0, 0⟩ ∧ hdr1.strict = true ∧
    ({ ETab.zero with held := [(9, 0, true)] } : ETab).holds 9 = true ∧ ETab.zero.holds 9 = false ∧
    (let s := tabled { ETab.zero with batches := [(0, ⟨[], [], some 9⟩)] }; s.collDue 1 7 shard5 = some (0, 9) ∧
      s.marked 1 shard5 ⟨[], [], some 9⟩ = false ∧ s.emb.runs.find? 1 = none) ∧
    (tabled .zero).collDue 1 7 shard5 = none := by decide +kernel
/-- Package 1 has read the first half of row 0. -/
def halves : State := ((({ tabled .zero with larder := [(5 * 2 ^ 21 + 40, 7)] } : State).partServe 1 1 0 32).2)
theorem witness_row_parts : ((tabled .zero).shardRow 1 (2 ^ 60)).isNone = true ∧ (tabled .zero).emb.snaps = [] ∧
    ((tabled .zero).shardRow 1 32).map (fun p => (p.off, tRowBytes p.d)) = some (32, 64) ∧
    (halves.emb.snaps.find? (hPort hdr1)).map (fun p => (p.ctx, p.addr)) = some (1, 32) := by decide +kernel
/-- An update between the two halves does not show in the second. -/
theorem test_row_parts : ((halves.memWrite 1 40 [9] false).partServe 1 1 32 32).1.1[8]? = some 7 ∧
    ((halves.memWrite 1 40 [9] false).partServe 2 1 32 32).1.1[8]? = some 9 := by decide +kernel
theorem test_embedding : (let s := res (.collectiveTimeout 1 7) (tabled { ETab.zero with batches := [(0, ⟨[], [], some 9⟩)] });
      s.count = 9 ∧ (s.etab 1 7).next = 1 ∧ (s.etab 1 7).batches = []) ∧
    ((res (.endMarker 0 hdr1 1 7 0 1) (tabled .zero)).etab 1 7).batches.keys = [0] ∧
    ((res (.embUpdate upd3) (tabled .zero)).etab 1 7).batches.keys = [0] ∧
    goes (.forwardedRequest upd3 false) (tabled .zero) = true := by decide +kernel
/-- A migration to package 1 of row 3. -/
def mig3 (phase : Nat) (back : Bool) : Mig := { peer := 1, ver := 1, rows := [3], slots := [0], phase := phase, back := back, age := 0 }
theorem witness_migration : 1 < (tabled .zero).tP 1 shard5 ∧ (tabled .zero).tPkg 1 shard5 0 = (tabled .zero).self ∧
    (let s := { tabled .zero with map := { (tabled .zero).map with podPkg := some (0, 1) } }; s.tPkg 1 shard5 0 ≠ s.self) ∧
    (tabled .zero).tPkg 1 shard5 ((tabled .zero).tHome 1 shard5 9).1 ≠ (tabled .zero).self ∧ (tabled .zero).tVer 1 7 = 0 ∧
    (ETab.zero.freeSlots shard5).length = 2 ∧ ETab.zero.held.find? 9 = none ∧
    ((tabled { ETab.zero with mig := some (mig3 0 false) }).etab 1 7).mig = some (mig3 0 false) ∧ (mig3 0 false).rows.length ≤ [0].length := by
  decide +kernel
theorem witness_hot_rows : tMigEn (dsc [(19, 0x50)]) = true ∧ ({ mig3 0 false with age := 1 } : Mig).age = 1 ∧ ETab.zero.rowVer 9 = 0 ∧
    ({ ETab.zero with vers := [(9, 1)] } : ETab).rowVer 9 = 1 ∧ ETab.zero.fwdHeld = [] ∧
    (tabled .zero).tPkg 1 shard5 ((tabled .zero).tHome 1 shard5 9).1 = 1 := by decide +kernel
theorem test_migration : (res (.migrationOffer 1 7 1 1 [9]) (tabled .zero)).tx = [.msg 1 24 [1, 7, 1, 0]] ∧
    (res (.migrationOffer 1 7 1 1 [9, 10, 11]) (tabled .zero)).tx = [.msg 1 24 [1, 7, 1]] ∧
    ((res (.transfer 1 7 1 0 [9]) (tabled { ETab.zero with held := [(9, 0, false)] })).etab 1 7).held = [(9, 0, true)] ∧
    ((res (.transferAccepted 1 7 1 1) (tabled { ETab.zero with mig := some (mig3 2 true), held := [(3, 0, true)] })).etab 1 7).held = [] ∧
    ((res (.migrationReady 1 7 1 1 []) (tabled { ETab.zero with mig := some (mig3 0 false) })).etab 1 7).mig = none ∧
    (res (.shardCountReport 1 7 1 4 []) (tabled .zero)).pending = [] ∧ (res .embWindowEnd (tabled .zero)).count = 2 ^ 24 := by decide +kernel

/-! ### RDMA -/

/-- Pair 2 with a window key of context 1, a control key and a READ outstanding or not. -/
def keyed5 (frozen : Bool) : State :=
  let k : Key := { gen := 0, ctx := 1, seg := 0, window := true, control := false, acc := 2, win := 0, len := 65536, va := 0, comp := 5, revoked := false }
  let s := { ctx5 (fun x => { x with intakes := [(3, ⟨3, dsc [(20, 1), (21, 6), (24, 2 ^ 21)], 0, 0, 0⟩)] }) with
    qps := [(2, pair5), (3, pair5), (4, { pair5 with comp := 0 })]
    keys := [(0, k), (1, { k with window := false, control := true, comp := 0, ctx := 0, acc := 3, len := 2 ^ 32 })] }
  if frozen then s.updCkpt 5 (fun k => { k with frozen := true }) else s
theorem witness_responder : (keyed5 true).frozen 5 = true ∧ (keyed5 false).frozen 5 = false ∧ psnDist 0 1 = 1 ∧ 2 ^ 23 ≤ psnDist 0 0xFFFFFF ∧
    psnDist pair5.rqPsn 0 = 0 ∧ (keyed5 false).gly.xpods = [] ∧
    ((keyed5 false).keys.find? 0).map (fun k => (k.window, k.comp == pair5.comp, bitOf k.acc 1)) = some (true, true, true) ∧
    ((keyed5 false).keys.find? 1).map (fun k => (k.control, k.control? 0 8 false)) = some (true, true) ∧ pair5.reads.length < 16 ∧
    (keyed5 false).intakeOf 3 = some 1 ∧ (keyed5 false).intakeOf 2 = none ∧
    ((keyed5 false).takeFrame 3 none [7]).1 = 0 ∧
    (((keyed5 false).updCtx 1 (fun x => { x with intakes := [(3, ⟨3, dsc [(20, 1), (21, 6), (24, 2 ^ 21)], 64, 0, 0⟩)] })).takeFrame 3 none [7]).1 = 1 := by
  decide +kernel
theorem test_responder : (res (.send 2 false 1 none []) (keyed5 false)).tx = [.nak 2 0 0x60] ∧
    (res (.send 2 false 0xFFFFFF none []) (keyed5 false)).tx = [.ack 2 0xFFFFFF] ∧
    (res (.send 2 false 0 none []) (keyed5 true)).fld rHLT_FREEZE 63 40 = 1 ∧
    (let s := res (.commandWindowWrite 2 0 64 [0x10001]) (keyed5 false); (s.ctx 1).nextSeq = 1 ∧ s.tx = [.ack 2 0]) ∧
    (let s := res (.rdmaWrite 2 false 0 0 0 (0x01 :: List.replicate 63 0)) (keyed5 false); (s.ctx 1).nextSeq = 1 ∧ s.tx = [.ack 2 0]) ∧
    (res (.rdmaRead 4 false 0 1 0 8) (keyed5 false)).tx.length = 1 ∧ goes (.intakeFrame 3 none [7]) (keyed5 false) = true ∧
    (res (.intakeFrame 3 none []) (keyed5 false)).tx = [.ack 3 0] := by decide +kernel

/-! ### Links -/

/-- Link 0 as `k`. -/
def lk (k : Link) : State := { comp5 with gly := { comp5.gly with links := [(0, k)] } }
/-- A switch's hello on plane 0, for port 0. -/
def hello0 : HelloBody := ⟨2, 1, 0, 0, 0, 0, 15, 2048, 2048, 512, 512, 0⟩
/-- The next flit of a link, first sent in Hello, with its check sum as a separate computation of CRC-32C gives it. -/
def flit0 : Flit := ⟨1 + 0xFFF * 2 ^ 16, 0, 0x4CE09938, true, 0, 0, 0, 0, 0⟩
/-- Link 0 is Up with one flit unacknowledged. -/
def upLink : Link := { Link.reset with st := 3, partner := some hello0, txSeq := 1, retry := [⟨0, 0, 1, 0⟩], helloTx := 7 }
/-- The check value of CRC-32C. -/
theorem test_crc32c : crc32c 9 0x393837363534333231 = 0xE3069283 := by decide +kernel
/-- Test case 14 of the GCM specification: a zero key, nonce and block. -/
theorem test_gcm : gcmBlocks 0 0 [0] = [0xcea7403d4d606b6e074ec5d3baf39d18] ∧
    gcmTag 0 0 [] [0xcea7403d4d606b6e074ec5d3baf39d18] = 0xd0d1c8a799996bf0265b98b5d48ab919 := by decide +kernel
theorem witness_links : (lk { Link.reset with st := 1 }).link 0 = { Link.reset with st := 1 } ∧ (lk upLink).link 0 = upLink ∧
    ((lk { Link.reset with st := 2 }).link 0).partner = none ∧ ((lk { Link.reset with st := 2 }).flitIn 0 flit0).1 = true ∧
    (lk { Link.reset with st := 2 }).helloFails 0 hello0 = none ∧
    upLink.txSeq + 4 ≤ upLink.oldest + 1024 ∧ upLink.txProt + 8 ≤ 2 ^ 42 ∧ upLink.rxProt + 4 ≤ 2 ^ 42 ∧
    (((lk upLink).flitFec 0 flit0).flitIn 0 flit0).1 = true ∧ ((lk upLink).flitIn 0 { flit0 with crc := 0 }).1 = false ∧ (lk { Link.reset with st := 2 }).helloFails 0 { hello0 with version := 2 } = some 1 ∧
    (((lk { Link.reset with st := 2 }).flitIn 0 flit0).2.link 0).st = 2 ∧ comp5.helloFails 3 { hello0 with role := 1 } = none ∧
    comp5.helloFails 3 hello0 = some 2 ∧
    (let s := { lk { Link.reset with st := 2, partner := some hello0, helloSent := true } with
                sec := { comp5.sec with links := [(0, { LinkKey.reset with valid := true })] } };
      (s.linkKey 0).valid = true ∧ (s.linkKey 0).txUp < 2 ^ 24 ∧ (s.linkKey 0).rxUp < 2 ^ 24 ∧ ((s.linkUp 0).link 0).init = [2048, 2048, 512, 512]) ∧
    (comp5.link 5).st = 0 := by decide +kernel
theorem test_links : ((res (.linkTrainingComplete 0) (lk { Link.reset with st := 1 })).link 0).st = 2 ∧
    (res (.linkTrainingTimeout 0) (lk { Link.reset with st := 1 })).count = 2 ^ 24 ∧
    (let s := res (.helloTimer 0) (lk { Link.reset with st := 2 });
      let hdr := 2 + 0xFFF * 2 ^ 16; let slots := packSlots (slotsOf (comp5.helloBytes 0)); s.tx = [.flit 0 hdr slots (flitCrc hdr slots)] ∧ (s.link 0).txSeq = 1) ∧
    ((res (.hello 0 flit0 { hello0 with version := 2 }) (lk { Link.reset with st := 2 })).link 0).st = 4 ∧
    ((res (.hello 0 flit0 hello0) (lk { Link.reset with st := 2 })).link 0).partner = some hello0 ∧
    ((res (.glyEnable 0 true) comp5).link 0).st = 1 ∧ ((res (.glyRetrain 0) (lk upLink)).link 0).retry = [] ∧
    (res (.portState 0 0 9 3 2 1) (lk upLink)).gly.ports.find? 9 = some (3, 2, 1) := by decide +kernel
/-- The fourth flit of a group, without its group's tag. -/
def grouped0 : Flit := { flit0 with hdr := 1 + 3 * 2 ^ 4 + 0xFFF * 2 ^ 16, crc := 0x846b81db, plain := false }
theorem witness_flits : crcOk flit0 = true ∧ crcOk { flit0 with crc := 0 } = false ∧ flit0.seq = 0 ∧ ((lk upLink).flitIn 0 flit0).1 = true ∧ (((lk upLink).flitHead 0 flit0).link 0).retry ≠ [] ∧
    upLink.discarding = false ∧ ({ upLink with discarding := true } : Link).discarding = true ∧
    (let s := lk { upLink with rxSeq := 1 }; ((s.flitHead 0 flit0).link 0).rxSeq % 4096 ≠ flit0.seq) ∧
    (let s := lk { upLink with rxProt := 3, rxSeq := 3 }; (s.flitHead 0 grouped0).link 0 = s.link 0 ∧ crcOk grouped0 = true ∧
      (s.link 0).rxSeq % 4096 = grouped0.seq ∧ grouped0.plain = false ∧ (s.link 0).rxProt % 4 = 3) ∧ ((lk upLink).link 0).retry.all (fun x => decide (x.resent < 15)) = true ∧
    (let k := { upLink with retry := [⟨0, 15, 1, 0⟩] }; ((lk k).link 0).st = 3 ∧ ((lk k).link 0).retry.all (fun x => decide (15 ≤ x.resent)) = true) := by
  decide +kernel
theorem test_flits : ((res (.dataFlit 0 flit0) (lk upLink)).link 0).rxSeq = 1 ∧ (res (.idleFlit 0 { flit0 with crc := 0 }) (lk upLink)).rd rGLY_ERR 0 = 1 ∧
    (res (.replayRequest 0 flit0) (lk upLink)).tx = [.flit 0 1 0 (flitCrc 1 0)] ∧
    ((res (.linkRetryTimeout 0) (lk upLink)).link 0).retry = [⟨0, 1, 1, 0⟩] ∧
    ((res (.linkRetryTimeout 0) (lk { upLink with retry := [⟨0, 15, 1, 0⟩] })).link 0).st = 1 := by decide +kernel

/-! ### Requests and answers -/

/-- The same package with epoch 4 and a request of epoch `e`. -/
def epoch4 : State := { lk upLink with map := { comp5.map with epoch := 4 } }
/-- A request at the pod's epoch. -/
def hdr4 (len : BitVec 13) (e : BitVec 32) : ReqHdr := { hdr1 with vc := 0, len := len, epoch := e }
theorem witness_requests : epoch4.brings 0 = true ∧ epoch4.map.podPkg ≠ none ∧ epoch4.map.fenced = false ∧
    reqMalformed 1 (hdr4 0 4) [] = true ∧ reqMalformed 1 (hdr4 64 4) [] = false ∧ (3 : Nat) < epoch4.map.epoch ∧ epoch4.map.epoch < 5 ∧
    epoch4.rd rGLY_EPOCH_HOLD ≠ 0 ∧ (epoch4.setFld rGLY_EPOCH_HOLD 31 0 0).rd rGLY_EPOCH_HOLD = 0 ∧
    (res (.rd 0 (hdr4 64 5)) epoch4).gly.inHeld.keys = [0] ∧ epoch4.reqMember (hdr4 64 4) = true ∧
    epoch4.reqMember { hdr4 64 4 with comp := 1 } = false ∧ epoch4.seg? 1 0 = some (seg 0) ∧ epoch4.seg? 1 9 = none ∧
    (seg 0).grants (reqPerm 2) = true ∧ ({ seg 0 with w := false } : Seg).grants (reqPerm 2) = false ∧
    epoch4.extent 1 64 4 = [(64, .larder (5 * 2 ^ 21 + 64), 4)] ∧ epoch4.lpois = [] ∧ epoch4.flaws = [] ∧
    Memory.wf epoch4.larder = true := by decide +kernel
theorem witness_requests_beyond : ({ hdr4 64 4 with agent := true, dest := 64 } : ReqHdr).dest.toNat / 64 ≠ epoch4.pod ∧
    (epoch4.took 0 (hdr4 64 4) []).map = epoch4.map ∧ (epoch4.xpodFor 65).isSome = true ∧
    ((epoch4.setFld rGLY_XPOD_CFG 15 3 1).xpodFor 65).isSome = true ∧ (epoch4.shardRow 1 64).isNone = true := by decide +kernel
theorem test_requests : (let s := res (.wr 0 (hdr4 4 4) [1, 2, 3, 4]) epoch4; Memory.get s.larder (5 * 2 ^ 21 + 65) = 2) ∧
    Memory.get (res (.wrShelf 0 { hdr4 4 4 with off := 128 } [1, 2, 3, 4]) epoch4).shelf 129 = 2 ∧
    (res (.epochHoldTimeout 0) (res (.rd 0 (hdr4 64 5)) epoch4)).gly.inHeld = [] := by decide +kernel
/-- A peer-cache line of that home. -/
def line1 (st : Nat) : PeerLine :=
  { st := st, data := 0, poison := false, waiters := [], ctx := 1, seg := 0, comp := 5, dest := 1, off := 64, retryAt := none, age := 0 }
/-- A request of ours outstanding at package 1, answered with DATA or not. -/
def asked (op : Nat) (u : ReqUse) : State :=
  { epoch4 with gly := { epoch4.gly with reqs := [(9, { request with op := op, use := u })], peer := [(5, line1 0)] } }
/-- The header of its answer. -/
def answer (len : BitVec 13) (code : BitVec 8) : RspHdr := ⟨1, false, len, false, 0, 1, code, 9⟩
theorem witness_answers : ((asked 1 (.load 0 0 0)).reqOf (answer 8 0)).map (·.1) = some 9 ∧ (asked 2 .other).brings 0 = true ∧
    ((asked 1 (.load 0 0 0)).reqOf (answer 8 0)).map (fun x => ((asked 1 .other).past x.2.expiry, x.2.wantsData, x.2.len, x.2.dest)) =
      some (false, true, 8, 1) ∧
    ((asked 2 .other).reqOf (answer 0 0)).map (fun x => (x.2.wantsData, x.2.dest == (answer 0 0).responder.toNat)) = some (false, true) ∧
    (let s := { asked 1 .other with count := 101 }; let z := s.reqExpire 9 { request with op := 1, use := .other } 100;
      (s.reqOf (answer 8 0)).map (·.1) = some 9 ∧ z.answers (answer 8 0) false = .nothing ∧
      z.gly.timed.find? 9 = some (answer 8 0).requester.toNat) ∧
    epoch4.grantOf (answer 0 0) = none ∧ epoch4.rspDie (answer 0 0) = some 0 ∧ epoch4.oldPlane 1 17 = false ∧
    (let s := { epoch4 with home := { epoch4.home with acks := [(1, 9)], late := [(9, 0)] } };
      s.grantOf (answer 0 0) = none ∧ s.home.acks.contains (1, 9) = true ∧ s.home.late.find? 9 = some 0) ∧
    ((asked 1 (.peer 5)).reqOf (answer 16 0)).map (·.2.use) = some (.peer 5) ∧ (asked 1 (.peer 5)).gly.peer.find? 5 = some (line1 0) ∧
    epoch4.reqOf (answer 0 0) = none ∧ epoch4.snoopOf (answer 0 0) = none ∧
    (let s := epoch4.updPair 1 (fun p => { p with stopped := true, refused := [(request, false)] });
      s.mayReissue 1 = true ∧ epoch4.mayReissue 1 = false) ∧
    (let s := epoch4.updPair 1 (fun p => { p with stopped := true }); (s.pair 1).stopped = true ∧ (s.pair 1).refused = [] ∧
      s.outstanding 1 = []) ∧ (asked 2 .other).outstanding 1 ≠ [] := by decide +kernel
theorem test_answers : (let s := res (.nack 0 (answer 16 2) 6 0) (asked 2 .other); (s.pair 1).needEpoch = 6 ∧ (s.pair 1).stopped = true ∧ s.gly.reqs = []) ∧
    ((res (.retry 0 (answer 16 0) 50) (asked 1 (.peer 5))).gly.peer.find? 5).map (·.retryAt) = some (some 50) ∧
    (res (.comp 0 (answer 0 0)) (asked 2 .other)).gly.reqs = [] ∧
    (res (.data 0 (answer 8 0) (List.replicate 8 0)) (asked 1 .other)).gly.reqs = [] ∧
    (res (.data 0 (answer 8 0) []) { asked 1 .other with count := 101 }).fld rDIE_DMA_LATE 31 0 0 = 1 ∧
    ((res (.planeSwitch 1) (epoch4.updPair 1 (fun p => { p with stopped := true }))).pair 1).stopped = false := by decide +kernel

/-! ### Attachments and the home -/

/-- Package 1 is a home of ours with a line in state `st`. -/
def attached1 (st : Nat) : State :=
  { epoch4 with gly := { epoch4.gly with peerAt := [(1, 1, 0)], lease := [(1, 1000, 5, 0)], peer := [(5, line1 st)] } }
/-- A hub message of `n` bytes from there, and a snoop. -/
def hub1 (n : BitVec 13) : ReqHdr := { hdr1 with vc := 3, len := n }
def snp1 : ReqHdr := { hdr1 with vc := 2 }
theorem witness_agents : (attached1 1).gly.lease.find? 1 = some (1000, 5, 0) ∧ epoch4.gly.lease.find? 1 = none ∧
    (attached1 1).peerLine snp1 = some (5, line1 1) ∧ (attached1 2).peerLine snp1 = some (5, line1 2) ∧ (line1 2).st ≠ 1 ∧
    epoch4.hubTaken (hub1 18) 18 = true ∧ epoch4.hubTaken (hub1 10) 10 = true ∧ epoch4.hubTaken (hub1 5) 5 = true ∧
    epoch4.hubTaken (hub1 4) 4 = true ∧ epoch4.hubTaken snp1 18 = false ∧ epoch4.hubTaken snp1 10 = false ∧
    epoch4.hubTaken snp1 5 = false ∧ epoch4.hubTaken snp1 4 = false ∧ epoch4.mute = false ∧ up.mute = true ∧
    (lk upLink).brings 0 = true ∧ ({ lk upLink with map := .reset } : State).mute = true ∧
    snoopMalformed snp1 = false ∧ snoopMalformed hdr1 = true ∧ (attached1 2).leaseHeld 1 = true ∧ (line1 2).waiters = [] ∧
    (attached1 1).peerRoom 64 = [(5, line1 1)] ∧
    bitOf (1 : BitVec 16).toNat 0 = true := by decide +kernel
theorem test_agents : (res (.attached 0 (hub1 18) 1 0 0 0 0 500) epoch4).gly.lease.find? 1 = some (500, 0, 0) ∧
    (res (.detached 0 (hub1 10) 1 0 0 0) (attached1 1)).gly.peerAt = [] ∧ (res (.lost 0 (hub1 5) 1 0) (attached1 1)).gly.lease = [] ∧
    (res (.leaseAck 0 (hub1 4) 1) (attached1 1)).gly.lease.find? 1 = some (1000, 5, 5) ∧
    (res (.callDrop 0 snp1) (attached1 1)).gly.peer = [] ∧ ((res (.callDrop 0 snp1) (attached1 2)).gly.peer.find? 5).map (·.st) = some 3 := by decide +kernel
/-- A snoop of a line at port 1, awaiting its answer or its repetition. -/
def snoop1 (x a : Option Nat) : Snoop := { port := 1, tag := 9, line := 5, drop := true, plane := 0, expiry := x, again := a }
/-- A home with a lease of port 1 and one transaction. -/
def homed (sn : List Snoop) (begun : Bool) : State :=
  let t : HTxn := { die := 0, line := 5, comp := 5, ctx := 1, seg := 0, off := 64, wr := true, entry := true, begun := begun, clear := false,
                    snoops := sn, act := .recall, group := 0, grant := none }
  { epoch4 with home := { epoch4.home with leases := [(16, 90)], txns := [(0, t)], attach := [⟨1, 0, 1, 0, true⟩] } }
theorem witness_home : (homed [] false).txnMayBegin 0 = true ∧ (homed [] true).txnMayBegin 0 = false ∧
    (homed [] false).home.leases.find? 16 = some 90 ∧ (homed [] false).home.leases.find? 17 = none ∧
    ((homed [snoop1 none (some 7)] true).txn? 0).map (·.snoops) = some [snoop1 none (some 7)] ∧ (homed [] true).owner? 5 = none ∧
    (homed [snoop1 (some 7) none] true).snoopOf (answer 64 0) = some (0, snoop1 (some 7) none) ∧
    (homed [snoop1 (some 7) none] true).past (snoop1 (some 7) none).expiry = false ∧
    (homed [snoop1 none (some 7)] true).txn? 0 ≠ none ∧
    (let s := { homed [] true with home := { (homed [] true).home with
        txns := (homed [] true).home.txns.map (fun (e : Nat × HTxn) => (e.1, { e.2 with grant := some (1, 9, some 8) })) } };
      s.grantOf (answer 0 0) = some 0 ∧ s.reqOf (answer 0 0) = none ∧ s.past (some 8) = false ∧
      ((res (.snoopTimeout 0 0 1) s).home.attach, (res (.comp 0 (answer 0 0)) s).home.txns) = ([], [])) ∧
    (let s := { homed [] false with home := { (homed [] false).home with
        txns := (homed [] false).home.txns ++ (homed [] false).home.txns.map (fun (e : Nat × HTxn) => (1, e.2)) } }; s.txnMayBegin 1 = false) := by decide +kernel
theorem test_home : (res (.leaseExpiry 1 0) (homed [] false)).count = 90 ∧ (res (.leaseExpiry 1 0) (homed [] false)).home.attach = [] ∧
    (res (.lease 0 (hub1 4) 1) (homed [] false)).home.leases.find? 16 = some (2 ^ 23) ∧
    (res (.resnoopTimer 0 0 1) (homed [snoop1 none (some 7)] true)).fld rHOME_RESNOOP 31 0 = 1 ∧
    (res (.snoopTimeout 0 0 1) (homed [snoop1 (some 7) none] true)).home.attach = [] := by decide +kernel

/-! ### The switch core and Ethernet -/

/-- A cell from Guelyo link 0 (input 8) to that link, class 1, composition 5. -/
def cell1 : Cell := { inp := 8, out := 9, cls := 1, owner := 5, from_ := 0, first := none, ip := none, copy := false }
/-- A map with a switch reservation of 64 cells a class for composition 5, and Guelyo link 1 Up. -/
def switching : State :=
  let m : Comp := { strict := false, closed := false, agents := [], parts := [(0, { cpart with swcRes := List.replicate 8 64 })], stripe := [0] }
  { comp5 with map := { comp5.map with comps := [(5, m)] }, gly := { comp5.gly with links := [(1, upLink)] } }
theorem witness_switch : (switching.cellFrom (cellPort 8) 1 5).isSome = true ∧ switching.swc.paused = [] ∧
    (let s := { switching with swc := { switching.swc with cells := [{ cell1 with from_ := 1 }] } };
      s.outUp 9 = true ∧ s.outUp 10 = false ∧ (s.nextClass 9).map (·.1) = some 1 ∧ s.nextCell 9 1 = some { cell1 with from_ := 1 } ∧
      s.fld rSWC_MIR 0 0 0 = 0 ∧ s.fld rSWC_MIR 0 0 3 = 0) ∧ (switching.setFld rSWC_CFG 8 8 1).partEn = true ∧ switching.partEn = false := by
  decide +kernel
/-- The map without a reservation, and a pool that any cell would take past its bound. -/
def full : State := { switching with swc := { switching.swc with cells := List.replicate 64 { cell1 with from_ := 0 } } }
theorem witness_frames : full.resRoom (cellPort 8) 1 5 = 0 ∧ switching.resRoom (cellPort 8) 1 5 = 64 ∧
    switching.poolTakes (cellPort 8) 1 5 4 = true ∧ full.poolTakes (cellPort 8) 1 5 (2 ^ 20) = false := by decide +kernel
theorem test_switch : (res (.cellAdmit 8 9 1 5 none none) switching).swc.cells = [{ cell1 with from_ := 0 }] ∧
    (res (.frameAdmit 8 9 1 5 600 false none) switching).swc.cells.length = 3 ∧
    (res (.cellDepart 9) { switching with swc := { switching.swc with cells := [{ cell1 with from_ := 1 }] } }).swc.cells = [] ∧
    (res .partitionSlotEnd (switching.setFld rSWC_CFG 8 8 1)).swc.slot = 1 ∧
    (res (.meterWrite 3 (5 * 2 ^ 80 + 7 * 2 ^ 104)) switching).swc.meters.find? 3 = some (320, 448, 0) := by decide +kernel
/-- Ethernet port 2 as `p`. -/
def eth2 (p : EPort) : State := { comp5 with eth := { comp5.eth with ports := [(2, p)] } }
/-- Up, with priority 3 paused. -/
def port2 : EPort := { EPort.reset with link := 2, paused := [(3, 70)], partner := some ⟨1, 2, 90, none⟩ }
/-- A frame of 64 bytes to the other port. -/
def frame2 : RxFrame := ⟨64, true, 0, 0, none, none, false, true, 9, 5, false, none⟩
theorem witness_ethernet : (eth2 port2).ethLive 2 = true ∧ (eth2 port2).ethUp 2 = true ∧ comp5.ethOn 2 = true ∧
    ((eth2 port2).eport 2).paused.find? 3 = some 70 ∧ (eth2 port2).macsecCheck 2 frame2 = some (eth2 port2) ∧ (comp5.setFld rETH_PFC_EN 3 3 0 2).fld rETH_PFC_EN 3 3 2 = 0 ∧
    ((eth2 port2).setFld rETH_PFC_EN 3 3 1 2).fld rETH_PFC_EN 3 3 2 ≠ 0 ∧ ((eth2 { port2 with partner := none }).eport 2).partner = none ∧
    (eth2 port2).fld rETH_LLDP 31 0 ≠ 0 ∧ ((eth2 port2).wr rETH_LLDP 0 0 0).fld rETH_LLDP 31 0 = 0 ∧
    ((eth2 port2).wr rETH_IP4 2 0 7).ownIp4 2 7 = true ∧ (eth2 port2).ownIp4 2 7 = false ∧ ((eth2 port2).wr rETH_IP6 2 0 7).ownIp6 2 7 = true := by
  decide +kernel
theorem test_ethernet : ((res (.ethLinkUp 2) comp5).eport 2).link = 2 ∧ ((res (.ethLinkDown 2) (eth2 port2)).eport 2).partner = none ∧
    ((res (.pfcFrame 2 3 9 99) ((eth2 port2).setFld rETH_PFC_EN 3 3 1 2)).eport 2).paused.find? 3 = some 99 ∧
    ((res (.pfcQuantaExpiry 2 3) (eth2 port2)).eport 2).paused = [] ∧ ((res (.lldpTtlExpiry 2) (eth2 port2)).eport 2).partner = none ∧
    ((res (.lldpdu 2 5 6 2 none) (eth2 { port2 with partner := none })).eport 2).partner = some ⟨5, 6, 50000000, none⟩ ∧
    (res (.lldpTxTimer 2) (eth2 port2)).tx.length = 1 ∧ (res (.arpRequest 2 7 8 9) ((eth2 port2).wr rETH_IP4 2 0 7)).tx.length = 1 ∧
    (res (.frameReceive 2 frame2) (eth2 port2)).swc.cells.length = 1 ∧ (res (.ethSplit 1 true) (eth2 port2)).fld rETH_CTRL 1 1 2 = 1 := by
  decide +kernel

/-! ### The requester of RDMA -/

/-- Pair 2 has one message of PSNs 0 to 1 unacknowledged. -/
def sending2 (r : Nat) : State :=
  { served with qps := [(2, { pair5 with d := dsc [(16, 1), (22, 0x11)], sqPsn := 2, retries := r, timer := some 50, unacked := [⟨0, 1, .send none, .event, [1]⟩] })] }
theorem witness_requester : (sending2 0).qps.find? 2 |>.map (fun q => (q.err, q.sending 1, q.sending 2, q.retryCnt, q.timer)) |>
      (· = some (false, true, false, 2, some 50)) := by decide +kernel
theorem witness_rates : (0 : Nat) < (sending2 0).fld rETH_CC_TIME 15 0 ∧ 2 ≤ ({ sending2 2 with count := 2 } : State).count ∧
    (BitVec.ofNat 8 0x25).toNat / 32 = 1 ∧ (({ sending2 0 with count := 2 ^ 16 } : State).fld rETH_CC_TIME 15 0) ≤ 2 ^ 16 := by decide +kernel
theorem test_requester : ((res (.acknowledge 2 1) (sending2 0)).qps.find? 2).map (·.unacked) = some [] ∧
    ((res (.nak 2 0 0x61) (sending2 0)).qps.find? 2).map (·.err) = some true ∧
    ((res (.nak 2 0 0x60) (sending2 0)).qps.find? 2).map (·.retries) = some 1 ∧
    ((res (.ackTimeout 2) (sending2 2)).qps.find? 2).map (·.err) = some true ∧
    (res (.cnp 2) (sending2 0)).fld rETH_CNP 31 0 0 = 1 ∧
    ((res (.cnp 2) { sending2 0 with count := 2 ^ 16 }).qps.find? 2).map (·.rate) ≠ some 65536 ∧ goes .ccStep (sending2 0) = true := by decide +kernel

/-! ### The map -/

/-- A key whose exponent is 1, under which a signature is the encoded message itself. -/
def key1 : RsaKey := ⟨2 ^ 3072 - 1, 1⟩
/-- 384 bytes of a signature from numbers of 48 bytes. -/
def sigOf (l : List Nat) : List Byte := l.flatMap (beList 48)
/-- The header of an END of composition 9 at base epoch 4. -/
def head9 : List Byte := leBytes 4 4 ++ [2#8, 0, 0, 0] ++ leBytes 4 9 ++ List.replicate 52 0
/-- Its RSASSA-PSS signature under that key with a salt of zeros, computed outside this model from RFC 8017. -/
def sig9 : List Byte :=
  sigOf [0x5296a4271875d23e28c7644c3ae5be8112bb59a96178675a5064454f4d93eb78697c875e08e5f9e5cda7db22545cd172,
    0xa7dce39849acd16887e94122216d0c3501cc09d8d784c7b99e27dcba7acdeaac9a1a39df285618aaf47e83de04f68de3,
    0xe77bca4b436bb864e191c687fd6be00bec53c9da9ab518640ccba9692dcb4c0e886eecf92f7c8398a3348f1f989567ec,
    0xda7822831b5eedc5fe226007b71daf6cdcdf822e4c4f9daa4448636f0d13e9a19529651fca467d93b2b990930587423c,
    0xcdf6b73a0901546f4418d2223cf0a30a082582c026371dede351f4dda28a56e8223ffe70a9608d60e3c46b8ccfa9f9ad,
    0x45d4b1869c480ea8321201c881a6eea54b12ea7163bc01044fb41f20bd5bf975fe40e377b33c204697dca6bb011e4170,
    0x843c0e1d9a20a86813287e6ecdbe873fa96a5032bb8ecd50ecb33b432fdb1b4c4477bb71c806b686591a5b805b2f68f8,
    0x89dc48bf4bc36b89f417b1d6e8d11a21a44a4590a34b8e2767ab99927aedc75b5562eddaabf333c2d19c01b4c00f88bc]
/-- A signed END of composition 9 at base epoch 4. -/
def end9 : List Byte := head9 ++ sig9
/-- Package 0 of a pod of packages 0 and 1 at epoch 4. -/
def pod01 : State := { epoch4 with sec := { epoch4.sec with fabric := some key1 } }
theorem test_sha256 : shaNat [0x61#8, 0x62, 0x63] = 0xba7816bf8f01cfea414140de5dae2223b00361a396177a9cb410ff61f20015ad := by decide +kernel
theorem witness_signed : pod01.pSigned end9 = true ∧ epoch4.pSigned end9 = false ∧ pSized end9 = true ∧ pBase end9 = 4 ∧
    pod01.endBusy end9 = false ∧ pod01.committedEpoch = 4 ∧ pod01.mapHears 1 = true ∧ pod01.mapHears 2 = false := by decide +kernel
theorem witness_log : pod01.leads = true ∧ pod01.map.members.contains (1 : BitVec 6).toNat = true ∧
    pod01.olderOpen pod01.map.epoch = false ∧ pod01.voters end9 = [0, 1] ∧ pod01.map.committed = none ∧ pod01.gly.inHeld = [] ∧
    (let s := { pod01 with map := { pod01.map with prepared := some (5, 0, end9) } };
      s.mapHears 1 = true ∧ s.map.prepared = some (5, 0, end9) ∧ s.map.epoch + 1 = 5 ∧ s.map.proposing = []) := by decide +kernel
/-- An entry being appended, acknowledged by nobody or by package 0. -/
def appending (a : NatSet) : State :=
  { pod01 with map := { pod01.map with appended := some ⟨5, end9, a, 0, 0⟩, prepared := some (5, 0, end9) } }
theorem test_log : goes (.mapAppend 2 5 0 ⟨end9⟩) pod01 = true ∧
    (res (.mapAck 1 5 0) (appending [0])).map.committed.isSome = true ∧ (res (.mapAck 1 5 0) (appending [])).map.committed = none ∧
    (res (.mapNack 1 5 0 6) (appending [0])).map.appended = none ∧ (res .mapCommitTimeout (appending [0])).map.appended = none ∧
    (res .epochApply { pod01 with map := { pod01.map with committed := some (5, end9) } }).map.epoch = 5 ∧
    (res (.mapCommit 1 5 0) (appending [])).map.committed.map (·.1) = some 5 ∧ (res (.mapAbandon 1 5 0 6) (appending [])).map.prepared = none ∧
    (res .epochDrain { pod01 with map := { pod01.map with draining := [9] } }).map.draining = [] := by decide +kernel
/-- Package 1 of the same pod, which does not lead. -/
def follower : State := { pod01 with map := { pod01.map with podPkg := some (0, 1), heard := [(0, 5)], leading := false } }
theorem witness_members : follower.leads = false ∧ (follower.untilDue (2 ^ 20)).leads = false ∧ follower.gly.lease = [] ∧
    follower.map.members = [0, 1] ∧ follower.map.heard.find? 0 = some 5 ∧ pod01.map.owners.find? 7 = none ∧ pod01.map.charge = [] ∧
    pod01.start.attic = none ∧ pod01.pkg = 0 ∧
    (let s := { pod01 with map := { pod01.map with revoking := [⟨some 3, 1, 0, 0, 0, 4, none⟩] } };
      s.map.revoking[0]? = some ⟨some 3, 1, 0, 0, 0, 4, none⟩ ∧ s.keyOpen 3 = false) ∧
    (let s := { pod01 with qps := [(2, { pair5 with reads := [(3, 0)] })] }; s.keyOpen 3 = true) := by decide +kernel
/-- State 3 of row ownership of table slot 7 of context 1, whose home is here or not. -/
def row5 (x : Nat) : Nat := 2 ^ 46 + 7 * 2 ^ 40 + x
theorem test_owner_of_a_row : (let s := tabled { ETab.zero with redirects := [(3, ⟨1, 0, 2⟩)], held := [(9, 0, false)] };
      ((res (.ownerSet (row5 3) 1 4) s).etab 1 7).redirects.find? 3 = some ⟨1, 0, 1⟩ ∧
      ((res (.ownerSet (row5 3) 0 4) s).etab 1 7).redirects = [] ∧ ((res (.ownerSet (row5 9) 0 4) s).etab 1 7).held = [(9, 0, true)] ∧
      ((res (.ownerSet (row5 9) 1 4) s).etab 1 7).held = []) := by decide +kernel
theorem test_members : (res (.ownerSet 7 1 3) pod01).map.owners.find? 7 = some (3, 1) ∧
    (res (.ownershipDispute 7 2 3 4 9 true false true true) pod01).tx = [.msg 2 59 [0, 7, 3, 10], .msg 3 59 [0, 7, 3, 10]] ∧
    (res (.heartbeatLoss 0) follower).map.heard = [] ∧ (res .chargeRecordTimer pod01).map.chargeAt = 2 ^ 30 ∧
    (res (.mapHeartbeat 1 4 0 []) pod01).map.heard.find? 1 = some 0 ∧ goes (.partnerReport 1 0 0 true 5) pod01 = true ∧
    (res .heartbeatTimer { follower with map := { follower.map with members := [1, 0], leading := follower.leads } }).map.hbAt = 2 ^ 20 ∧
    (res (.revocationComplete 0) { pod01 with map := { pod01.map with revoking := [⟨some 3, 1, 0, 0, 0, 4, none⟩] } }).map.revoking = [] ∧
    goes (.proposalForward 1 ⟨end9⟩) epoch4 = true := by decide +kernel

/-! ### Strict rounds and checkpoints -/

/-- Composition 5 is strict; this package is the one numbered `p`. -/
def strict5 (p : Nat) : State :=
  let m : Comp := { strict := true, closed := false, agents := [], parts := [(0, cpart), (1, cpart)], stripe := [0, 1] }
  { comp5 with map := { comp5.map with podPkg := some (0, p), comps := [(5, m)] } }
theorem witness_rounds : (strict5 0).strict 5 = true ∧ comp5.strict 5 = false ∧ (strict5 0).coordinates 5 = true ∧ (strict5 1).coordinates 5 = false ∧
    ((strict5 1).stripe 5).contains (strict5 1).self = true ∧ ((strict5 0).round 5).sent = false ∧ (strict5 0).quiescent 5 = true ∧
    (strict5 0).heldOf 5 = [] ∧ (strict5 0).gly.behind = [] ∧
    (let s := { comp5 with repro := { comp5.repro with waits := [⟨5, [], 64, 4, 2, 0, 0, .wb 0 0⟩] } };
      (s.repro.waits.filter (fun h => h.key / 2 ^ 38 = 0))[0]? = some ⟨5, [], 64, 4, 2, 0, 0, .wb 0 0⟩ ∧ s.exactRoom 64 5 = true) := by decide +kernel
theorem test_rounds : ((res (.packageQuiescent 5) (strict5 0)).round 5).sent = true ∧
    ((res (.roundClose 5 0) (strict5 1)).round 5).r = 1 ∧ ((res (.quiescent 5 1 0 3) (strict5 0)).round 5).reports.has 1 = true ∧
    (res (.exactSumResume 0 0) { comp5 with repro := { comp5.repro with waits := [⟨5, [], 64, 4, 2, 0, 0, .wb 0 0⟩] } }).repro.waits = [] := by
  decide +kernel
/-- Checkpoints of composition 5 as `f` of an enabled record. -/
def ck (p : Nat) (f : Ckpt → Ckpt) : State := (strict5 p).updCkpt 5 (fun k => f { k with enabled := true, interval := 2 })
/-- An image of nothing. -/
def image2 : Image := ⟨2, [], [], [], [], [], [], [], [], [], [], []⟩
theorem witness_checkpoints : (let k := (ck 0 id).ckpt? 5; k.enabled = true ∧ k.phase = 0 ∧ k.frozen = false ∧ k.asked = false ∧ k.interval ≠ 0) ∧
    (ck 1 id).coordinates 5 = false ∧ (ck 1 id).home.trk = [] ∧ (ck 1 (fun k => { k with frozen := true, n := 2 })).compDrained 5 = true ∧
    ((ck 1 (fun k => { k with frozen := true, n := 2 })).ckpt? 5).drainSent = false ∧
    (ck 0 (fun k => { k with phase := 2, n := 2 })).ckptOpen 5 2 = true ∧ (ck 0 id).rd rHLT_CKPT_TMO ≠ 0 ∧
    ((ck 0 id).wr rHLT_CKPT_TMO 0 0 0).rd rHLT_CKPT_TMO = 0 ∧
    ((ck 1 (fun k => { k with taken := some image2, image := some image2 })).ckpt? 5).taken = some image2 := by decide +kernel
theorem test_checkpoints : ((res (.freeze 5 3) (ck 1 id)).ckpt? 5).frozen = true ∧
    ((res (.drainComplete 5) (ck 1 (fun k => { k with frozen := true, n := 2 }))).ckpt? 5).drainSent = true ∧
    ((res (.ckptCommit 5 2) (ck 1 (fun k => { k with frozen := true, n := 2, taken := some image2 }))).ckpt? 5).image = some image2 ∧
    ((res (.ckptAbort 5 2) (ck 1 (fun k => { k with frozen := true, n := 2 }))).ckpt? 5).frozen = false ∧
    (res (.ckptTimeout 5) (ck 0 (fun k => { k with phase := 1, n := 2, frozen := true }))).fld rHLT_CKPT 63 32 = 1 ∧
    ((res (.ckptInterval 5) (ck 0 id)).ckpt? 5).phase = 1 ∧ ((res (.drained 5 2 1) (ck 0 (fun k => { k with phase := 1, n := 2 }))).ckpt? 5).drained = [1] ∧
    goes (.staged 5 2 1) (ck 0 (fun k => { k with phase := 2, n := 2 })) = true ∧
    goes (.copy 5 2) (ck 1 (fun k => { k with frozen := true, n := 2, drainSent := true })) = true ∧
    goes (.restore 5 2) (ck 1 (fun k => { k with image := some image2 })) = true := by decide +kernel

/-! ### Health and sparing -/

/-- Unit 0 under test, in observation or not. -/
def tested (h : HUnit) : State :=
  let s := comp5.updUnt 0 (fun x => { x with kat := some ⟨0, 2, 1⟩ })
  { s with hlt := { s.hlt with units := [(0, h)] } }
theorem witness_tests : comp5.unitOk 0 = true ∧ State.unitOk { up with part := { up.part with gradeT := true } } 0xFFFFF = false ∧ comp5.fld rHLT_CFG 24 24 = 1 ∧ (comp5.unt 0).kat = none ∧
    comp5.katFit 0 = true ∧ busy.katFit 0 = false ∧ ((tested .reset).unt 0).kat = some ⟨0, 2, 1⟩ ∧
    ((tested { HUnit.reset with observed := true }).hunit 0).observed = true := by decide +kernel
theorem test_tests : ((res (.katSliceEnd 0 false 3) (tested .reset)).hunit 0).score = 191 ∧
    ((res (.katSliceEnd 0 true 0) (tested { HUnit.reset with observed := true, score := 9 })).hunit 0).score = 10 ∧
    ((res (.katSlice 0) comp5).unt 0).kat.isSome = true ∧ goes (.katSlice 0xFFFFF) { up with part := { up.part with gradeT := true } } = false ∧
    (res (.katInterval 0) busy).fld rHLT_KAT_OVERDUE 31 0 = 1 ∧ (res .healthSaveTimer comp5).hlt.savedAt = 2 ^ 30 ∧
    (res (.reproDefaultsWrite 13) comp5).fld rREPRO_DEFAULTS 2 0 = 5 := by decide +kernel
/-- Unit 5 is suspect. -/
def suspect5 : State := { up with hlt := { up.hlt with units := [(5, { HUnit.reset with suspect := true, score := 3 })] } }
theorem witness_regions_fail : busy.ctxOfRgn 0 = some 1 ∧ up.ctxOfRgn 0 = none ∧ (busy.ctx 1).kernel.map (·.closed) = some false ∧
    State.nRgn { up with part := { up.part with gradeT := true } } ≤ 112 ∧ 0 < up.nRgn ∧ suspect5.switchPoint 0 = true ∧ busy.switchPoint 0 = false ∧ (suspect5.hunit 5).suspect = true ∧
    suspect5.capped 5 = none ∧ suspect5.spareFree 5 = true ∧ ({ suspect5 with hlt := { suspect5.hlt with replAt := [(0, 0)] } } : State).capped 5 = some 0 ∧
    (suspect5.rgn 0).failed = false ∧ up.spareRgns 0 ≠ 0 ∧ (up.updRgn 0 (fun x => { x with failed := true })).switchPoint 0 = true := by decide +kernel
theorem test_regions_fail : ((res (.throttle 0 0 400) up).rgn 0).throttled = true ∧ ((res (.throttle 0 0 399) up).rgn 0).throttled = false ∧
    ((res (.regionFault 0 0 1) busy).ctx 1).kernel.map (·.cause) = some 3 ∧ ((res (.spareSwitchIn 0 0 0 5 false) suspect5).hunit 5).spared = true ∧
    (let s := res (.replacementComplete 0 0) { up with hlt := { up.hlt with replacing := [(0, 9)] } }; s.count = 9 ∧ s.hlt.replacing = []) ∧
    ((res (.spareSwitchIn 0 0 0 0 true) (up.updRgn 0 (fun x => { x with failed := true }))).hlt.spareRgn.getD 0 0) = 1 ∧
    (res (.temperatureBandChange 0 0 0) up).rgns ≠ [] := by decide +kernel

/-! ### Rattle, the recorder and starts -/

/-- The bytes of a token of a kind for a mask, without its signature. -/
def token (kind mask : Nat) : List Byte := leBytes 1 kind ++ [1#8, 0, 0, 0, 0, 0, 0] ++ leBytes 8 mask ++ List.replicate 112 0
/-- The signature of a token of kind 1 and mask 0x10 under the key of exponent 1, computed outside this model. -/
def tokenSig : List Byte :=
  sigOf [0x1beb4a71fdf7ce420b98409f4a90e6b5bd1f0c3eb04cba04db1ddac92495576dfc37bbb81975a565d30e3da3b94bbbeb,
    0x86679634876615ed0040af03986e8ffd39eb1e7d11ff81671ba7cffbce4dfdd83f2ff4bafe5937551c8ba1180ec8e96b,
    0xc2a70fe64fbfd49315f906eeeb7a677855ce2889185bd4c3ce9a7feaa8bebc4ba930efeadb893a1845cb7ed9203207ad,
    0x83bfc36cd986d075eb9b44e7920dfe2e3cf4c2197441895f8007472b74122cea2e3b3ec8e3ba8b458f43ff76214a1a9e,
    0xccc507fdd53d28e9980f45f3b881621d1cfe47c7f4b91b121de497ffb97a5f3f9ca7335335e1bf5f82e01cbed8b20b61,
    0xa4752fcf797c1bdadb1454f19466af11d16e3ccc1422d20dc8f653e2177367d1ab6b2844301778e8373ada47a0121856,
    0xf3db4337d72970811d90fd5c380054947957f84889cf7949ec697e72d2cfd595a5ac8875923b5a40dc6abdc22fcb81a1,
    0x54650fdc48d65ab4153891318d1ecd3773c2341cdca2e0563793913764c1068fb2efea3d02f1e434bd1984f9df01cdbc]
/-- With that key in force, and a token in the token register of Rattle. -/
def keyed1 (b : List Byte) : State := ({ up with sec := { up.sec with fabric := some key1 } } : State).wr rRATTLE_TOKEN 0 0 (leNat b)
/-- A token of the wrong kind. -/
def wrongToken : State := keyed1 (token 2 0x10)
theorem witness_token : (let s := keyed1 (token 1 0x10 ++ tokenSig); s.tokenFails (leBytes 512 (s.rd rRATTLE_TOKEN)) 1 = none) := by decide +kernel
theorem witness_rattle : wrongToken.tokenFails (leBytes 512 (wrongToken.rd rRATTLE_TOKEN)) 1 = some 1 ∧ up.closedHere = false ∧
    ({ comp5 with map := { comp5.map with comps := [(5, { strict := false, closed := true, agents := [], parts := [(0, cpart)], stripe := [0] })] } } : State).closedHere = true ∧
    up.rattles 4 = false := by decide +kernel
/-- Rattle unlocked for injection, with one double-bit Shelf error of unit 0 asked for. -/
def rattled (count : Nat) : State :=
  (({ up with sec := { up.sec with rattle := 0x10 } } : State).setFld rRATTLE_CTRL 3 2 1).wr rRATTLE_INJECT 0 0 (0x10 + 256 * count + 64 * 2 ^ 64)
theorem witness_inject : (rattled 1).rattles 4 = true ∧ (rattled 1).unitOk 0 = true ∧ (rattled 1).fld rRATTLE_INJECT 15 8 = 1 ∧
    (rattled 1).fld rRATTLE_INJECT 3 0 = 0 ∧ (rattled 1).fld rRATTLE_INJECT 5 4 = 1 ∧ (rattled 0).fld rRATTLE_INJECT 15 8 = 0 := by decide +kernel
theorem witness_meet : up.flawed .hub = false ∧ (ill up [(.shelf 8, true), (.line 3, true)]).flaws =
    [⟨.shelf 8, true, false, 0, 0, 0⟩] ++ ⟨.line 3, true, false, 0, 0, 0⟩ :: [] := by decide +kernel
theorem test_injected : (let s := (res .rattleInject (rattled 2)).meet (.shelf 8) 2;
    s.flaws.map (·.spot) = [.shelf 8] ∧ s.spois = [1] ∧ (s.hunit 0).score = 255 ∧ (s.hunit 0).observed = true) := by decide +kernel
theorem test_rattle : (res .rattleInject (rattled 1)).spois = [] ∧ (res .rattleUnlock wrongToken).fld rRATTLE_CTRL 3 2 = 3 ∧
    (res .rattleLock (rattled 1)).fld rRATTLE_INJECT 15 8 = 0 := by decide +kernel
/-- The recorder with some state. -/
def evr (f : Evr → Evr) : State := { up with evr := f up.evr }
theorem witness_recorder : up.aon = true ∧ up.evr.flushing = none ∧ State.aon { up with start := { up.start with mode := .off } } = false ∧
    (evr (fun e => { e with flushing := some [] })).evr.flushing = some [] ∧ (evr (fun e => { e with pwrfail := true })).evr.pwrfail = true ∧
    (evr (fun e => { e with supp := [(0x107, (3, 50))] })).evr.supp.find? 0x107 = some (3, 50) ∧ up.hubUp = true ∧
    State.hubUp { up with start := { up.start with mode := .off } } = false := by decide +kernel
theorem test_recorder : (res .pwrfailNFall up).evr.flushing.isSome = true ∧ (res .powerFailFlushDone (evr (fun e => { e with flushing := some [] }))).evr.flushing = none ∧
    (res .tokenRefill (evr (fun e => { e with tokens := [(0x107, 2)] }))).evr.refillAt = 2 ^ 18 ∧
    (res (.suppressNote 0x107) (evr (fun e => { e with supp := [(0x107, (3, 50))] }))).evr.supp = [] ∧
    (res (.irqLeafWrite 1 2 5) (up.wr rIRQ_LEAF 1 2 7)).rd rIRQ_LEAF 1 2 = 2 ∧ (res (.pwrTripWrite 5) (up.wr rPWR_TRIP 0 0 7)).rd rPWR_TRIP = 2 ∧
    (res .pwrfailNRise (evr (fun e => { e with pwrfail := true }))).evr.pwrfail = false := by decide +kernel
/-- The package in a mode, at a step of a start of a kind. -/
def starts (m : Mode) (kind step : Nat) : State := { up with start := { up.start with mode := m, kind := kind, step := step } }
/-- The signature of the modulus 2^3072 - 1 and the exponent 1 under the prime modulus 2^3072 - 1103717 and the exponent
65537, and that of the image below under the first key, both computed outside this model with a salt of zeros. -/
def certSig : List Byte :=
  sigOf [0xdaa4a59e01fdccb9723a9c3f7c7edafa566983b611e02168678575836e320cba6cd5b8777446f6d443d7a58ce7d81823,
    0xffcc4e20b58a2ca1401c7939945e54c4c2449017249fa6b4915c5f3914b3bff9e2f4c5aed17023925276df69800b4c09,
    0x7f28844e382f4c91c352d787314bb78eb4d4118bdd3db344b9216199518637473410cd1831b4287487b825b2a7ddf602,
    0xa7658ac2ddd12bd3de26ef7ecb184af02a69e3f8fa8a04d54c4ac25f53667030b30404298b5a6bc5b8851bfc84ed2e2e,
    0x42b468915724ffec84318691c1d1053dace2c09a1a600c6125467d328ee08a9fd26ecd4f32dd2fc69b425aa974bcf8a1,
    0x5e1c0e1b501030025874c3b5b075313776c7182ea226bd966363203df501035c2ea8ba0fd0ea9e5426c12762a0a6d50e,
    0xd1eb2b689a2fc47dce3d471d4b3bf3ebdf0c8f8a3ba9f70528a61d8565a943ac870eaa862a6fe35f1d966adf6c71d2c3,
    0xe958314f311cfa7018f53041ed392a252a08bc1dcbd1ee7a48b3f5075e73cfc090a7651fb73e68db56ef1b59813f0e32]
def imageSig : List Byte :=
  sigOf [0x6e0a5fae5e0cb61d0e1c5f6b3cbc62a1f9c9e17b9bf3800b5e0b2fea983c415783f965fa3e15ebbf02d1444214708e04,
    0x84866aefa05e53f92efb714de6ef6640788b9154fa3771443a54292db700b85078de95c92ab4049ba1ccf54bfa828670,
    0xc2bc5d60a8494114fbef585ad6fb4d0403b0dbaf451feedfa50e24ee60c18bb6b9fad7084a43c2ba448ad68fad467af1,
    0x1dc0eb70185c595471e36b261954220d6c3363dee85e0a4d30fa60e32f916ec2de16f258e09126e3f0215605af344e56,
    0xa8b0acfffda3e622f2b1e6fbcf859da955a9dd615b485c8e1517955f4913267d619bde63bbec7753a5fe34ab523693ba,
    0x0d07064391f1f90d670a9a3e94a89dd1124010bf1b7bc5e5f066e6212dcfc7fa44ca5456cc8c8657f3407a91552b532b,
    0xf55179c6846398b158da7e651795e3600d0c5c74099e2ee44fea556135a9cf1272eb8f34cc1ad17f2b81cd3a75ed3005,
    0x106c1d24f2dae71aa128df502bf015fb3b2ce23d18d243eabb1f78d0b0158c15a38aa7ef9b7d7081143fd325fbec2cbc]
/-- A Molend image of that root and no code, of version 0 and SVN 0. -/
def molend : List Byte :=
  leBytes 4 0x464D0001 ++ List.replicate 12 0#8 ++ beList 384 key1.n ++ leBytes 4 1 ++ certSig ++ imageSig ++ beList 384 (2 ^ 3072 - 1103717)
/-- A part of that root, with the image in boot slot 0. -/
def rooted (m : Mode) (step : Nat) : State :=
  let s := starts m 0 step
  { s with part := { s.part with rootDigest := 0x04dfea0fec65d7cfd68f9de20e3327b0ada8614f707fd036713afb6dfc03a868 }, sec := { s.sec with flash := [(0, molend)] } }
theorem witness_image : (rooted .starting 2).imageFails molend = none ∧ up.imageFails [] = some 1 ∧ molend.length = 1556 := by decide +kernel
theorem test_starts : (res .standbySupplyApplied (starts .off 0 0)).start.mode = .standby ∧ (res .porstNFall busy).units = [] ∧
    (res .porstNRelease { starts .standby 0 0 with start := { (starts .standby 0 0).start with porst := true } }).start.step = 1 ∧
    (res .startCtrlWarm busy).start.kind = 1 ∧ (res (.warmN 3) busy).start.mode = .ready ∧ (res (.warmN 4) busy).start.mode = .starting ∧
    (res .startCtrlCold busy).evr.cold = 1 ∧ (res .startCtrlLoader busy).start.mode = .loader ∧ (res .standbySupplyLoss busy).start.lost = true ∧
    (res .startCtrlWarm { busy with start := { busy.start with warmFails := 3 } }).start.kind = 0 ∧
    (res .fwCommit (starts .loader 0 0)).sec.flash = [] ∧ (res .startCtrlWarm (starts .failed 0 0)).start.mode = .failed := by decide +kernel
theorem test_steps : (res (.startStepComplete true 0) (starts .starting 0 3)).start.step = 4 ∧
    (let s := res (.startStepComplete false 0) (starts .starting 0 3); s.start.step = 1 ∧ s.start.coldFails = 1 ∧ s.start.lastFail = 3) ∧
    (res (.startStepComplete false 0) { starts .starting 0 3 with start := { (starts .starting 0 3).start with coldFails := 2 } }).start.mode = .loader ∧
    (res (.startStepComplete false 0) (starts .starting 1 3)).start.warmFails = 1 ∧ (res (.startStepComplete true 0) (starts .starting 0 7)).start.step = 8 ∧
    (res .startStepTimeout (starts .starting 0 7)).start.step = 8 ∧ (res .startRejoinTimeout (starts .starting 0 8)).start.mode = .ready := by decide +kernel
theorem witness_steps : (starts .starting 0 8).start.tables = none ∧ (starts .starting 0 8).rejoined = false ∧ (starts .starting 0 8).alone = false ∧
    ({ starts .starting 0 8 with map := comp5.map } : State).rejoined = true := by decide +kernel
theorem test_clocks : (res .refclkLoss busy).start.mode = .unclocked ∧ (res .refclkReturn (starts .unclocked 0 0)).start.mode = .standby ∧
    (res (.thermTrip 3 440) up).rd rPWR_TRIP = 8 ∧ (res (.thermTrip 3 439) up).start.mode = .ready ∧
    (res (.railFault 0 579) up).start.mode = .failed ∧ (res (.railFault 0 580) up).start.mode = .ready ∧
    (res (.voltageStep 2 true) up).railTarget 2 = 705 ∧ (res (.avsFault 2 0) up).start.mode = .failed := by decide +kernel
theorem witness_clocks : up.start.mode = .ready ∧ up.start.refclk = true ∧ (440 : Int) ≤ tempOf 440 ∧ tempOf 439 < 440 ∧ up.railTarget 2 = 700 ∧
    ({ up with pwr := ⟨[(2, 620)], [(2, 0)]⟩ } : State).railTarget 2 - 5 < 620 ∧ up.pwr.stepAt.find? 2 = none := by decide +kernel

/-! ### Security, pins and registers -/

theorem witness_security : up.sec.slots.length = 0 ∧ (let s := { up with sec := { up.sec with slots := [7] } };
      0 < s.sec.slots.length ∧ s.fabricOk s.enrollBody (leBytes 384 (s.fld rSEC_ENROLL 6175 3104)) = false) ∧ up.sec.sample = none ∧
    (up.link 1).partner = none ∧ (let s := lk { Link.reset with st := 2, partner := some hello0, helloSent := true };
      (s.link 0).partner ≠ none ∧ (s.link 0).st = 2) ∧ tokAt up.secToken 0 1 ≠ 2 ∧ beNat ((token 2 0).drop 16 |>.take 32) = up.part.identity ∧
    up.tokenFails (token 2 0) 2 = some 4 := by decide +kernel
theorem test_security : (res .enroll up).sec.slots.length = 1 ∧ (res .enroll { up with sec := { up.sec with slots := [7] } }).sec.slots = [7] ∧
    (res .svnCommit { up with sec := { up.sec with svn := 5 } }).sec.fusedSvn = 5 ∧ (res .debugUnlock up).sec.debug = 3 ∧ (res .spiUnlock up).sec = up.sec ∧
    (res .spiLock up).sec.spiOpen = false ∧ (res .attestGo up).sec.sample.isSome = true ∧ (res .attestGo (res .attestGo up)).fld rSEC_ATTEST 31 16 = 1 ∧
    (res .attestDone (res .attestGo up)).fld rSEC_ATTEST 2 2 = 1 ∧ ((res (.linkKeyWrite 1 (1 + 7 * 2 ^ 64)) up).linkKey 1).rxSalt = 7 ∧
    ((res (.linkKeyWrite 1 0) up).linkKey 1) = .reset ∧
    ((res (.linkKeyWrite 0 1) (lk { Link.reset with st := 2, partner := some hello0, helloSent := true })).link 0).st = 3 := by decide +kernel
theorem witness_pins : up.spiLive = true ∧ up.spiLocked = false ∧ (starts .off 0 0).spiLive = false ∧ up.spiReaches 0x118 = true ∧
    State.spiLocked { up with sec := { up.sec with spiOpen := false } } = true ∧ regAt 0xFC = none ∧ up.rattles 1 = false ∧ Memory.wf up.start.fw = true ∧
    up.dead = false ∧ (starts .loader 0 0).hubUp = true := by decide +kernel
theorem test_pins : (res .idcode up).tx = [.jtag 1 0x14816A5B] ∧ (res .bypass up).tx = [.jtag 0 0] ∧ (res (.entdaa 9) up).pins.i3cAddr = 9 ∧
    (res (.i3cPrivateRead 2) (res (.i3cPrivateWrite 1) up)).tx = [.i3c [0x80, 0]] ∧ (res .extest up).start.mode = .failed ∧
    (res (.spiWrite 0x118 [7, 0, 0, 0]) up).rd rSTART_REJOIN_TMO = 7 ∧ (res (.spiRead 0x118 2) up).tx.length = 1 ∧
    goes .sensorRefresh up = true ∧ goes (.samplePreload 5) up = true ∧ (res (.registerWrite 0x118 9) up).rd rSTART_REJOIN_TMO = 9 ∧
    (res (.registerWrite 0xFC 9) up).ctl = up.ctl ∧ (res (.registerWrite 0x100 4) up).start.kind = 1 ∧
    Memory.get (res (.registerWrite 0x10000004 0x0102) (starts .loader 0 0)).start.fw 5 = 1 := by decide +kernel

/-! ### Operands out of the manual's bounds -/

/-- `n` of a thing. -/
abbrev many {α : Type} (n : Nat) (x : α) : List α := List.replicate n x
theorem test_ill_formed_windows :
    (Instr.commandWindowWrite 0 0 0 (many (2 ^ 25 + 1) 0)).wellFormed = false ∧
    (Instr.intakeFrame 0 none (many (2 ^ 31 + 1) 0)).wellFormed = false ∧
    (Instr.send 0 false 0 none (many (2 ^ 31 + 1) 0)).wellFormed = false ∧
    (Instr.rdmaWrite 0 false 0 0 0 (many (2 ^ 31 + 1) 0)).wellFormed = false ∧
    (Instr.rdmaRead 0 false 0 0 0 (2 ^ 31 + 1)).wellFormed = false := by simp [Instr.wellFormed]
theorem test_ill_formed_cellar :
    (Instr.readData 0 celTag5 0 0 (many 4097 0)).wellFormed = false ∧
    (Instr.readData 0 celTag5 0 0 (many (257 * 4096) 0)).wellFormed = false := by simp [Instr.wellFormed]
theorem test_ill_formed_search_and_tables :
    (Instr.searchForward 0 0 0 1048577 []).wellFormed = false ∧
    (Instr.searchForward 0 0 0 0 (many 65537 ⟨[], [], []⟩)).wellFormed = false ∧
    (Instr.embUpdate { upd3 with data := many 65537 0 }).wellFormed = false ∧
    (Instr.forwardedRequest { upd3 with data := many 65537 0 } false).wellFormed = false ∧
    (Instr.shardCountReport 0 0 0 0 (many 1025 (0, 0))).wellFormed = false ∧
    (Instr.migrationOffer 0 0 0 0 (many 16385 0)).wellFormed = false ∧
    (Instr.migrationReady 0 0 0 0 (many 16385 0)).wellFormed = false ∧
    (Instr.transfer 0 0 0 0 (many 16385 0)).wellFormed = false := by simp [Instr.wellFormed]
theorem test_ill_formed_messages :
    (Instr.wr 0 hdr1 (many 4097 0)).wellFormed = false ∧ (Instr.pwr 0 hdr1 (many 64 0)).wellFormed = false ∧
    (Instr.wrShelf 0 hdr1 (many 4097 0)).wellFormed = false ∧ (Instr.atomic 0 hdr1 16 []).wellFormed = false ∧
    (Instr.giveDirty 0 hdr1 (many 63 0)).wellFormed = false ∧
    (Instr.data 0 (answer 0 0) (many 4097 0)).wellFormed = false ∧
    (Instr.mapHeartbeat 0 0 0 (many 1025 0)).wellFormed = false := by simp [Instr.wellFormed]
theorem test_ill_formed_switch :
    (Instr.cellAdmit 0 0 0 0 (some 9217) none).wellFormed = false ∧ (Instr.frameAdmit 0 0 0 0 63 false none).wellFormed = false ∧
    (Instr.frameAdmit 0 0 0 0 9217 false none).wellFormed = false ∧ (Instr.frameAdmit 0 0 0 0 64 false none).wellFormed = true := by
  simp [Instr.wellFormed]

end Sys2Proof.Tests
end

namespace Sys2Proof.Machine

/-! ### One step (R7) -/

/-- A step on an empty queue is one tick of the local clock. -/
theorem step_idle {s : State} (h : s.pending = []) : step s = .next s.clock := by
  simp only [step, h]
/-- The local count rises while standby supply is present. -/
theorem State.clock_count (s : State) :
    s.clock.count = if s.start.mode = .off then s.count else (s.count + 1) % 2 ^ 64 := by
  unfold State.clock; split <;> rfl
/-- A tick changes the count and the charge totals alone. -/
theorem State.clock_frame (s : State) :
    { s.clock with count := s.count, map := { s.clock.map with charge := s.map.charge } } = s := by
  unfold State.clock; split <;> rfl

/-! ### Reset (R14, R459) -/

/-- A list of one value reads as that value everywhere, when it is also the default. -/
theorem getD_replicate_same {α : Type} (n i : Nat) (x : α) : (List.replicate n x).getD i x = x := by
  rw [List.getD_eq_getElem?_getD, List.getElem?_replicate]; split <;> rfl
@[simp] theorem State.unt_reset (u : Nat) : State.reset.unt u = Unt.reset := rfl
@[simp] theorem State.rd_reset (r : RegDef) (i j : Nat) : State.reset.rd r i j = r.resetAt i j := rfl
/-- Every slot of a unit after reset holds the reset thread, and so does a slot number that it does not have. -/
@[simp] theorem Unt.thr_reset (t : Nat) : Unt.reset.thr t = Thread.reset := getD_replicate_same 8 t Thread.reset
@[simp] theorem Unt.accu_reset (n : Nat) : Unt.reset.accu n = Acc.reset := getD_replicate_same 4 n Acc.reset
/-- After reset every context but the system's is the reset one. -/
theorem State.ctx_reset {c : Nat} (h : c ≠ 0) : State.reset.ctx c = Ctx.reset := by
  simp [State.ctx, State.reset, Assoc.getD, Assoc.find?, h.symm]

/-! ### Bytes -/

@[simp] theorem length_leBytes (n x : Nat) : (leBytes n x).length = n := by
  induction n generalizing x with
  | zero => rfl
  | succ n ih => simp [leBytes, ih]

/-- Replacing the low bits of a number leaves the new value there. -/
theorem setBits_low_mod (x hi v : Nat) : setBits x hi 0 v % 2 ^ (hi + 1) = v % 2 ^ (hi + 1) := by
  have h : x - x % 2 ^ (hi + 1) = 2 ^ (hi + 1) * (x / 2 ^ (hi + 1)) := by
    have := Nat.div_add_mod x (2 ^ (hi + 1)); omega
  simp only [setBits, bits, Nat.shiftRight_zero, Nat.sub_zero, Nat.pow_zero, Nat.mul_one, h, Nat.mul_add_mod, Nat.mod_mod]

theorem State.sameMem_of_eq {s r : State} (hl : r.larder = s.larder) (hs : r.shelf = s.shelf) : s.SameMem r := by
  unfold State.SameMem; rw [hl, hs]; exact ⟨fun _ => rfl, fun _ => rfl⟩

/-! ### Where the registers stand -/

/-- The first offset above every entry of a register. -/
def RegDef.past (r : RegDef) : Nat := r.off + r.s1 * (r.n1 - 1) + r.s2 * (r.n2 - 1) + r.width / 8

theorem RegDef.locate_below {r : RegDef} {o : Nat} (h : o < r.off) : r.locate o = none := if_pos h
theorem RegDef.locate_past {r : RegDef} {o : Nat} (h : r.past ≤ o) : r.locate o = none := by
  have entry (s d n : Nat) : s * (if s = 0 then 0 else min (d / s) (n - 1)) ≤ s * (n - 1) :=
    Nat.mul_le_mul_left _ (by split <;> omega)
  unfold RegDef.locate
  dsimp only
  split
  · rfl
  · rw [if_neg]
    rintro ⟨-, -, -, hw⟩
    have h1 := entry r.s1 (o - r.off) r.n1
    have h2 := entry r.s2 (o - r.off - r.s1 * (if r.s1 = 0 then 0 else min ((o - r.off) / r.s1) (r.n1 - 1))) r.n2
    unfold RegDef.past at h
    omega
/-- The entry of a register with two strides that an offset falls in, by its two indices. -/
theorem RegDef.locate_entry {r : RegDef} {o i j : Nat} (h1 : r.s1 ≠ 0) (h2 : r.s2 ≠ 0) (ho : r.off ≤ o)
    (hi : min ((o - r.off) / r.s1) (r.n1 - 1) = i) (hj : min ((o - r.off - r.s1 * i) / r.s2) (r.n2 - 1) = j)
    (h : i < r.n1 ∧ j < r.n2 ∧ r.s1 * i + r.s2 * j ≤ o - r.off ∧ o - r.off - r.s1 * i - r.s2 * j < r.width / 8) :
    r.locate o = some (i, j) := by
  simp only [RegDef.locate, if_neg (Nat.not_lt.mpr ho), if_neg h1, if_neg h2, hi, hj, if_pos h]
/-- A register holds an offset that it locates, when every other one lies wholly below or above it. -/
theorem regAt_of_apart {r : RegDef} {o i j : Nat} (hr : r ∈ allRegs) (hw : r.off ≠ rSTART_FW_WIN.off)
    (hl : r.locate o = some (i, j)) (h : ∀ q ∈ allRegs, q ≠ r → q.past ≤ o ∨ o < q.off) : regAt o = some (r, i, j) := by
  have mem : r ∈ allRegs.filter (fun q => q.off ≠ rSTART_FW_WIN.off) := List.mem_filter.mpr ⟨hr, by simpa using hw⟩
  have hf : (r.locate o).map (fun e => (r, e.1, e.2)) = some (r, i, j) := by rw [hl]; rfl
  cases hc : regAt o with
  | none => rw [regAt, List.findSome?_eq_none_iff] at hc; cases hf.symm.trans (hc r mem)
  | some c =>
    obtain ⟨q, hq, hqc⟩ := List.exists_of_findSome?_eq_some hc
    by_cases he : q = r
    · subst he; exact hqc.symm.trans hf
    · have hn : q.locate o = none := (h q (List.mem_filter.mp hq).1 he).elim RegDef.locate_past RegDef.locate_below
      rw [hn] at hqc; cases hqc

theorem regAt_rattleCredit : regAt 0x40010 = some (rRATTLE_CREDIT, 0, 0) := by decide +kernel
theorem regAt_startCtrl : regAt 0x100 = some (rSTART_CTRL, 0, 0) := by decide +kernel
theorem regAt_startRejoinTmo : regAt 0x118 = some (rSTART_REJOIN_TMO, 0, 0) := by decide +kernel
/-- No other register lies among the interrupt leaves. -/
theorem irqLeaf_apart : ∀ q ∈ allRegs, q ≠ rIRQ_LEAF → q.past ≤ 0x11000 ∨ 0x11200 ≤ q.off := by decide +kernel
/-- The leaves stand one after another, 8 a group (R456). -/
theorem regAt_irqLeaf (g : Fin 16) (j : Fin 8) :
    regAt (0x11000 + 0x20 * g.val + 4 * j.val) = some (rIRQ_LEAF, g.val, j.val) := by
  refine regAt_of_apart (by decide +kernel) (by decide) ?_ (fun q hq hn => ?_)
  · apply RegDef.locate_entry (r := rIRQ_LEAF) (by decide) (by decide) <;> (dsimp only [rIRQ_LEAF]; omega)
  · have := irqLeaf_apart q hq hn; omega

/-! ### Writes of control space (R15, R16) -/

/-- A write that no register takes, outside the firmware window, is ignored. -/
theorem State.regWrite_unassigned {s : State} {o : Nat} (v : Nat) (h : regAt (o / 4 * 4) = none)
    (hw : o < 0x10000000 ∨ 0x14000000 ≤ o) : s.regWrite o v = s := by
  have hn : ¬(0x10000000 ≤ o / 4 * 4 ∧ o / 4 * 4 < 0x14000000) := by omega
  simp only [State.regWrite, if_neg hn, h]
/-- Outside the loader the firmware window ignores a write (R466). -/
theorem State.regWrite_window_ignored {s : State} {o : Nat} (v : Nat) (hlo : 0x10000000 ≤ o) (hhi : o < 0x14000000)
    (h : s.start.mode ≠ .loader) : s.regWrite o v = s := by
  have hw : 0x10000000 ≤ o / 4 * 4 ∧ o / 4 * 4 < 0x14000000 := by omega
  simp only [State.regWrite, if_pos hw, if_neg h]
/-- In the loader the firmware window stages the bytes of a write (R466). -/
theorem State.regWrite_window_staged {s : State} {o : Nat} (v : Nat) (hlo : 0x10000000 ≤ o) (hhi : o < 0x14000000)
    (h : s.start.mode = .loader) : s.regWrite o v =
      s.updStart (fun x => { x with fw := Memory.setAll x.fw (o / 4 * 4 - 0x10000000) (leBytes 4 v) }) := by
  have hw : 0x10000000 ≤ o / 4 * 4 ∧ o / 4 * 4 < 0x14000000 := by omega
  simp only [State.regWrite, if_pos hw, if_pos h]

/-- REGISTER_WRITE while the hub can be reached, and while it cannot. -/
theorem exec_registerWrite_up {s : State} (off v : BitVec 32) (h : s.hubUp = true) :
    exec (.registerWrite off v) s = .next (s.regWrite off.toNat v.toNat) :=
  congrArg Host.Outcome.next (if_pos h)
theorem exec_registerWrite_down {s : State} (off v : BitVec 32) (h : s.hubUp = false) :
    exec (.registerWrite off v) s = .next s :=
  congrArg Host.Outcome.next (if_neg (by simp [h]))

/-- A write below the firmware window goes to the register that holds its word. -/
theorem exec_registerWrite_located {s : State} {off : BitVec 32} {o i j : Nat} {r : RegDef} (v : BitVec 32)
    (hr : regAt o = some (r, i, j)) (h : s.hubUp = true) (ho : off.toNat / 4 * 4 = o) (hw : o < 0x10000000) :
    exec (.registerWrite off v) s = .next (s.regPut r i j ((o - r.at i j) / 4) v.toNat) := by
  have hn : ¬(0x10000000 ≤ o ∧ o < 0x14000000) := by omega
  rw [exec_registerWrite_up off v h]
  simp only [State.regWrite, ho, if_neg hn, hr]

/-! ### Writes of the registers named -/

/-- A Rattle register that the token does not permit ignores a write (R439). -/
theorem State.regPut_rattle_refused {s : State} {r : RegDef} (i j k v : Nat) (hlo : 0x40000 < r.off) (hhi : r.off < 0x50000)
    (h : s.rattleTakes r.off = false) : s.regPut r i j k v = s := by
  unfold State.regPut
  rw [if_neg, if_neg, if_neg, if_neg, if_pos ⟨Nat.le_of_lt hlo, hhi, h⟩]
  all_goals simp only [rSTART_CTRL, rSEC_CTRL, rSEC_ATTEST, rRATTLE_CTRL]; omega
/-- The token bit of RATTLE_CREDIT (Table 20-5). -/
theorem State.rattleTakes_credit (s : State) : s.rattleTakes rRATTLE_CREDIT.off = s.rattles 1 := rfl
/-- A leaf is cleared by ones (R453). -/
theorem State.regPut_irqLeaf (s : State) (i j k v : Nat) : s.regPut rIRQ_LEAF i j k v = s.leafWrite i j v := rfl
/-- START_CTRL acts (R458). -/
theorem State.regPut_startCtrl (s : State) (i j k v : Nat) : s.regPut rSTART_CTRL i j k v = s.startCtrl v := rfl
/-- START_REJOIN_TMO is plain: a write sets its fields and brings about nothing else. -/
theorem State.regPut_startRejoinTmo (s : State) (i j k v : Nat) :
    s.regPut rSTART_REJOIN_TMO i j k v = s.wrWord rSTART_REJOIN_TMO i j k v := rfl

/-- COLD and WARM of START_CTRL are requests, made once the other fields are set (Table 19-1). -/
theorem State.startCtrl_cold (s : State) : s.startCtrl 2 = (s.wr rSTART_CTRL 0 0 0).coldRequest := rfl
theorem State.startCtrl_warm (s : State) : s.startCtrl 4 = (s.wr rSTART_CTRL 0 0 0).warmRequest := rfl

/-- A write of a word changes that entry of the registers alone. -/
theorem State.wrWord_frame (s : State) (r : RegDef) (i j k v : Nat) : { s.wrWord r i j k v with ctl := s.ctl } = s := rfl
theorem State.find?_ctl_wrWord_other (s : State) (r : RegDef) (i j k v : Nat) {o : Nat} (h : o ≠ r.at i j) :
    (s.wrWord r i j k v).ctl.find? o = s.ctl.find? o := Assoc.find?_put_other _ _ h
/-- A register that is one read-write word takes the value written. -/
theorem State.rd_wrWord_plain (s : State) {r : RegDef} (i j : Nat) {v : Nat} (hf : r.fields = [(31, 0, .rw)])
    (hw : r.width = 32) (hv : v < 2 ^ 32) : (s.wrWord r i j 0 v).rd r i j = v := by
  have hb : bits v 31 0 = v := Nat.mod_eq_of_lt hv
  simp only [State.wrWord, State.rd_wr_same, hf, hw, List.foldl_cons, List.foldl_nil]
  show setBits (s.rd r i j) 31 0 (bits v 31 0) % 2 ^ 32 = v
  rw [hb]
  exact (setBits_low_mod (s.rd r i j) 31 v).trans (Nat.mod_eq_of_lt hv)

theorem exec_registerWrite_rattle_refused {s : State} (v : BitVec 32) (h : s.hubUp = true) (hr : s.rattles 1 = false) :
    exec (.registerWrite 0x40010 v) s = .next s := by
  rw [exec_registerWrite_located v regAt_rattleCredit h (by decide) (by decide),
    State.regPut_rattle_refused _ _ _ _ (by decide) (by decide) (s.rattleTakes_credit.trans hr)]
theorem exec_registerWrite_irqLeaf {s : State} (g : Fin 16) (j : Fin 8) (v : BitVec 32) (h : s.hubUp = true) :
    exec (.registerWrite (BitVec.ofNat 32 (0x11000 + 0x20 * g.val + 4 * j.val)) v) s = exec (.irqLeafWrite g j v) s := by
  rw [exec_registerWrite_located v (regAt_irqLeaf g j) h (by rw [BitVec.toNat_ofNat]; omega) (by omega), State.regPut_irqLeaf]
  rfl
theorem exec_registerWrite_startRejoinTmo {s : State} (v : BitVec 32) (h : s.hubUp = true) :
    Yields s (.registerWrite 0x118 v) (fun r => r.rd rSTART_REJOIN_TMO = v.toNat ∧
      (∀ o, o ≠ 0x118 → r.ctl.find? o = s.ctl.find? o) ∧ { r with ctl := s.ctl } = s) := by
  refine ⟨s.wrWord rSTART_REJOIN_TMO 0 0 0 v.toNat, ?_, s.rd_wrWord_plain 0 0 rfl rfl v.isLt,
    fun o ho => s.find?_ctl_wrWord_other _ 0 0 0 _ ho, s.wrWord_frame _ 0 0 0 _⟩
  rw [exec_registerWrite_located v regAt_startRejoinTmo h (by decide) (by decide), State.regPut_startRejoinTmo]
  rfl
/-- START_CTRL takes its fields, and then acts (R458). -/
theorem exec_registerWrite_startCtrl {s : State} (v : BitVec 32) (h : s.hubUp = true) :
    exec (.registerWrite 0x100 v) s = .next (s.startCtrl v.toNat) := by
  rw [exec_registerWrite_located v regAt_startCtrl h (by decide) (by decide), State.regPut_startCtrl]
/-- In the loader the firmware window reads back what a write staged (R466). -/
theorem exec_registerWrite_staged {s : State} {off : BitVec 32} (v : BitVec 32) (h : s.hubUp = true)
    (hlo : 0x10000000 ≤ off.toNat) (hhi : off.toNat < 0x14000000) (hm : s.start.mode = .loader)
    (hf : Memory.wf s.start.fw = true) : Yields s (.registerWrite off v) (fun r =>
      { r with start := s.start } = s ∧ Memory.wf r.start.fw = true ∧
      Memory.getAll r.start.fw (off.toNat / 4 * 4 - 0x10000000) 4 = leBytes 4 v.toNat) := by
  refine ⟨_, (exec_registerWrite_up off v h).trans (congrArg _ (State.regWrite_window_staged _ hlo hhi hm)), rfl,
    Memory.wf_setAll _ _ hf, ?_⟩
  have back := Memory.getAll_setAll (off.toNat / 4 * 4 - 0x10000000) (leBytes 4 v.toNat) hf
  rwa [length_leBytes] at back

/-! ### The SPI port (R502) -/

/-- The status byte's low bit tells that the port is locked. -/
theorem spiStatus_locked (a b : Bool) : (BitVec.ofNat 8 (b2n a + 2 * b2n b)).getLsbD 0 = a := by
  cases a <;> cases b <;> rfl
theorem exec_spiRead_live {s : State} (off : BitVec 32) (n : Nat) (h : s.spiLive = true) :
    exec (.spiRead off n) s = .next (s.send (.spi (BitVec.ofNat 8 (b2n s.spiLocked + 2 * b2n (s.start.mode == .loader)) ::
      (List.range n).map (fun k => if s.spiReaches (off.toNat + k) then s.regByte (off.toNat + k) else 0)))) :=
  congrArg Host.Outcome.next (if_neg (by simp [h]))
/-- SPI_READ changes nothing but what the package has sent: the status byte, then the bytes reached. -/
theorem exec_spiRead_answers {s : State} (off : BitVec 32) (n : Nat) (h : s.spiLive = true) :
    Yields s (.spiRead off n) (fun r => { r with tx := s.tx } = s ∧
      ∃ st data, r.tx = s.tx ++ [.spi (st :: data)] ∧ data.length = n ∧ st.getLsbD 0 = s.spiLocked ∧
        (∀ k, k < n → data[k]? = some (if s.spiReaches (off.toNat + k) then s.regByte (off.toNat + k) else 0))) := by
  refine ⟨_, exec_spiRead_live off n h, rfl, _, _, rfl, by simp, spiStatus_locked _ _, fun k hk => ?_⟩
  rw [List.getElem?_map, List.getElem?_range hk]; rfl
theorem exec_spiRead_notLive {s : State} (off : BitVec 32) (n : Nat) (h : s.spiLive = false) :
    exec (.spiRead off n) s = .next s :=
  congrArg Host.Outcome.next (if_pos (by simp [h]))
/-- A fold whose every step keeps a state ends in it. -/
theorem foldl_of_fixed {f : State → Nat → State} {s : State} (h : ∀ i, f s i = s) (l : List Nat) : l.foldl f s = s := by
  induction l with
  | nil => rfl
  | cons i l ih => rw [List.foldl_cons, h, ih]
/-- A port that does not work, or is locked, applies no word. -/
theorem exec_spiWrite_ignored {s : State} (off : BitVec 32) (data : List (BitVec 8))
    (h : s.spiLive = false ∨ s.spiLocked = true) : exec (.spiWrite off data) s = .next s := by
  refine congrArg Host.Outcome.next (foldl_of_fixed (fun _ => if_neg ?_) _)
  rcases h with h | h <;> simp [h]
/-- An open port applies a whole aligned word. -/
theorem exec_spiWrite_word {s : State} {off : BitVec 32} {data : List (BitVec 8)} (hl : s.spiLive = true)
    (ho : s.spiLocked = false) (hr : s.spiReaches off.toNat = true) (ha : off.toNat % 4 = 0) (hn : data.length = 4) :
    exec (.spiWrite off data) s = .next (s.regWrite off.toNat (leNat data)) := by
  show execSpiWrite off data s = _
  simp [execSpiWrite, ha, hn, hl, ho, hr, List.range_one, List.take_of_length_le (Nat.le_of_eq hn)]

/-! ### The sensor port (R503) -/

/-- The I3C commands while standby supply is present. -/
theorem exec_i3cPrivateWrite_on {s : State} (off : BitVec 8) (h : s.aon = true) :
    exec (.i3cPrivateWrite off) s = .next { s with pins := { s.pins with i3cOff := off.toNat } } :=
  congrArg Host.Outcome.next (if_neg (by simp [h]))
theorem exec_i3cPrivateRead_on {s : State} (n : Nat) (h : s.aon = true) :
    exec (.i3cPrivateRead n) s = .next { s with tx := s.tx ++ [.i3c ((s.pins.block.drop s.pins.i3cOff).take n)] } :=
  congrArg Host.Outcome.next (if_neg (by simp [h]))
theorem exec_entdaa_on {s : State} (addr : BitVec 7) (h : s.aon = true) :
    exec (.entdaa addr) s = .next { s with pins := { s.pins with i3cAddr := addr.toNat } } :=
  congrArg Host.Outcome.next (if_neg (by simp [h]))
/-- The block is 27 words and a byte long (Table 21-10). -/
theorem State.length_sensorBlock (s : State) : s.sensorBlock.length = 55 := by
  simp only [State.sensorBlock, List.length_append, List.length_flatMap, length_leBytes]
  rfl
/-- The block is taken again at its next 4,096 counts, from the state of that moment. -/
theorem exec_sensorRefresh_on {s : State} (h : s.aon = true) :
    let q := s.untilDue (s.pins.blockAt + 2 ^ 12)
    Yields s .sensorRefresh (fun r => r.pins = { s.pins with block := q.sensorBlock, blockAt := s.pins.blockAt + 2 ^ 12 } ∧
      r.count = q.count ∧ r.pins.block.length = 55 ∧ s.SameMem r) := by
  refine ⟨_, congrArg Host.Outcome.next (if_neg (by simp [h])), rfl, rfl, State.length_sensorBlock _, State.sameMem_of_eq rfl rfl⟩

/-! ### Boundary scan (R487, R504) -/

/-- A state that a package reaches by failing: memories and pins as they were, and of the start only the mode changed. -/
structure State.FailedFrom (s r : State) : Prop where
  start : r.start = { s.start with mode := .failed }
  larder : r.larder = s.larder
  shelf : r.shelf = s.shelf
  pins : r.pins = s.pins

theorem State.FailedFrom.trans {s r q : State} (h : s.FailedFrom r) (k : r.FailedFrom q) : s.FailedFrom q :=
  ⟨by rw [k.start, h.start], k.larder.trans h.larder, k.shelf.trans h.shelf, k.pins.trans h.pins⟩
/-- A die rail fault fails a package that is powered and past PORST_N (R471). -/
theorem State.failedFrom_railFault {s : State} (d : Fin 9) (st : Nat) (hoff : s.start.mode ≠ .off)
    (hst : s.start.mode ≠ .standby) : s.FailedFrom (s.railFault d st) := by
  have hn : ∀ e, ¬((s.raise e).start.mode = .off ∨ (s.raise e).start.mode = .standby) := by simp [hoff, hst]
  unfold State.railFault State.packageFail
  rw [if_neg (hn _)]
  constructor <;> simp [State.updStart]
/-- Rail faults of several dies, one after another. -/
theorem State.failedFrom_railFaults (st : Fin 9 → State → Nat) (d : Fin 9) (ds : List (Fin 9)) {s : State}
    (hoff : s.start.mode ≠ .off) (hst : s.start.mode ≠ .standby) :
    s.FailedFrom ((d :: ds).foldl (fun (s : State) d => s.railFault d (st d s)) s) := by
  induction ds generalizing d s with
  | nil => exact State.failedFrom_railFault d _ hoff hst
  | cons e ds ih =>
    have h1 := State.failedFrom_railFault d (st d s) hoff hst
    rw [List.foldl_cons]
    exact h1.trans (ih e (by simp [h1.start]) (by simp [h1.start]))

/-- SAMPLE_PRELOAD shifts out the sampled pins and keeps what is shifted in (R487). -/
theorem exec_samplePreload_answers (v : BitVec 63) (s : State) :
    Yields s (.samplePreload v) (fun r => r.pins = { s.pins with jtag := 2, cells := v.toNat } ∧
      (∃ x, x < 2 ^ 63 ∧ r.tx = s.tx ++ [.jtag 2 x]) ∧ { r with pins := s.pins, tx := s.tx, nonce := s.nonce } = s) :=
  ⟨_, rfl, rfl, ⟨_, Nat.mod_lt _ (by decide), rfl⟩, rfl⟩
/-- With the hub down EXTEST selects its register and nothing more. -/
theorem exec_extest_hubDown {s : State} (h : s.hubUp = false) : exec .extest s = .next (s.jtag 3 s.pins.cells) :=
  congrArg Host.Outcome.next (if_neg (by simp [h]))
/-- EXTEST in a running package stops every AVSBus, so that the package fails (R504, R471). -/
theorem exec_extest_running {s : State} (h : s.dead = false) :
    Yields s .extest (fun r => r.pins = { s.pins with jtag := 3 } ∧ r.start = { s.start with mode := .failed } ∧ s.SameMem r) := by
  have hup : s.hubUp = true := by simp [State.hubUp, h]
  simp only [State.dead, decide_eq_false_iff_not, not_or] at h
  obtain ⟨hoff, hst, -, -, hload⟩ := h
  have hf := State.failedFrom_railFaults (fun d q => Config.avsStatus d.val q.count) 0 [1, 2, 3, 4, 5, 6, 7, 8]
    (s := s.jtag 3 s.pins.cells) hoff hst
  refine ⟨_, ?_, hf.pins, hf.start, State.sameMem_of_eq hf.larder hf.shelf⟩
  show execExtest s = _
  simp only [execExtest, if_pos hup, if_neg hload]

end Sys2Proof.Machine

section

open Sys2Proof Sys2Proof.Machine

/-- Settles O1: the step by the front of the queue, and the tick by the laws of the clock. -/
theorem stepRunsTheFrontCommandOrTicks : Obligations.StepRunsTheFrontCommandOrTicks :=
  ⟨fun c l _ => step_front c l _ rfl, fun s h => ⟨s.clock, step_idle h, s.clock_count, s.clock_frame⟩⟩

/-- Settles O2: each part of the reset state is read by its own law. -/
theorem resetLeavesEverythingEmpty : Obligations.ResetLeavesEverythingEmpty := by
  refine ⟨⟨rfl, rfl, rfl, rfl, fun _ => ⟨rfl, rfl⟩, fun u t => ?_, fun u n => ?_, State.rd_reset, fun c h => ?_, rfl, rfl, rfl, rfl⟩,
    Memory.wf_nil, Memory.wf_nil⟩
  · rw [State.thr, State.unt_reset, Unt.thr_reset]; rfl
  · rw [State.unt_reset, Unt.accu_reset]; exact ⟨rfl, rfl⟩
  · rw [State.ctx_reset h]; rfl

/-- Settles O60: each interface by the law of its command, and each register by the law of a write to its place. -/
theorem pinsAndRegistersAnswer : Obligations.PinsAndRegistersAnswer := by
  refine ⟨⟨fun off n s => ?spi, fun off addr n s h => ?i3c, fun v s => ?scan⟩,
    fun off v s => ⟨exec_registerWrite_down off v, fun h => ?registers⟩⟩
  case spi =>
    exact ⟨exec_spiRead_answers off n, exec_spiRead_notLive off n, exec_spiWrite_ignored off, fun _ => exec_spiWrite_word⟩
  case i3c =>
    exact ⟨exec_i3cPrivateWrite_on off h, exec_i3cPrivateRead_on n h, exec_entdaa_on addr h,
      _, s.untilDue_count _, rfl, rfl, exec_sensorRefresh_on h⟩
  case scan =>
    exact ⟨rfl, rfl, exec_samplePreload_answers v s, exec_extest_hubDown, exec_extest_running⟩
  case registers =>
    refine ⟨fun hn hw => ?_, fun hlo hhi => ⟨fun hm => ?_, exec_registerWrite_staged v h hlo hhi⟩,
      exec_registerWrite_rattle_refused v h, fun g j => exec_registerWrite_irqLeaf g j v h,
      exec_registerWrite_startRejoinTmo v h, ⟨s.wr rSTART_CTRL 0 0 0, rfl, ?_⟩, s.wr rSTART_CTRL 0 0 0, rfl, ?_⟩
    · rw [exec_registerWrite_up off v h, State.regWrite_unassigned _ hn hw]
    · rw [exec_registerWrite_up off v h, State.regWrite_window_ignored _ hlo hhi hm]
    · exact (exec_registerWrite_startCtrl 2 h).trans (congrArg _ s.startCtrl_cold)
    · exact (exec_registerWrite_startCtrl 4 h).trans (congrArg _ s.startCtrl_warm)

end

namespace Sys2Proof.Machine

/-! ### The recovery loader (R466) -/

/-- A package in the recovery loader, with the link of its Ethernet port 0 up. -/
def inLoader : State :=
  { State.reset with
    start := { StartSt.reset with mode := .loader }
    eth := { State.reset.eth with ports := [(0, { EPort.reset with link := 2 })] } }
/-- A frame longer than the 9,216 bytes that a port takes (R352). -/
def oversize : RxFrame :=
  { len := 9217, fcsOk := true, tags := 0, pcp := 0, dscp := none, sec := none, linkLocal := false, accepted := true, out := 0,
    owner := 0, ecn := false, ip := none }
/-- Port 0 works in the loader: it takes a frame, and counts one that is too long. -/
theorem exec_frameReceive_inLoader : exec (.frameReceive 0 oversize) inLoader = .next (inLoader.rxErr 0 0) := rfl
theorem fld_rxErr_inLoader : inLoader.fld rETH_RX_ERR 63 48 = 0 ∧ (inLoader.rxErr 0 0).fld rETH_RX_ERR 63 48 = 1 := by decide

/-! ### Regions that wake and go down (R54, R469, R470) -/

/-- Dropping bytes by address leaves the others as they were; the dropped ones read as zero. -/
theorem Memory.get_filter_addr (m : List Host.Cell) (p : Nat → Bool) (a : Nat) :
    Memory.get (m.filter (fun c => p c.1)) a = if p a then Memory.get m a else 0 := by
  induction m with
  | nil => simp [Memory.get]
  | cons c m ih =>
    obtain ⟨k, b⟩ := c
    by_cases hk : k = a
    · subst hk; cases hp : p k <;> simp [Memory.get, hp, ih]
    · cases hp : p k <;> simp [Memory.get, hp, hk, ih]

theorem State.SameMem.trans {s r q : State} (h : s.SameMem r) (k : r.SameMem q) : s.SameMem q :=
  ⟨fun a => (k.1 a).trans (h.1 a), fun a => (k.2 a).trans (h.2 a)⟩
theorem State.sameMem_untilDue (s : State) (t : Nat) : s.SameMem (s.untilDue t) :=
  State.sameMem_of_eq (s.untilDue_larder t) (s.untilDue_shelf t)
theorem State.sameMem_updRgn (s : State) (r : Nat) (f : Rgn → Rgn) : s.SameMem (s.updRgn r f) := State.sameMem_of_eq rfl rfl
theorem State.sameMem_enterLow (s : State) (r : Nat) (p : RPow) : s.SameMem (s.enterLow r p) := State.sameMem_of_eq rfl rfl

@[simp] theorem State.rgn_inc (s : State) (r : RegDef) (hi lo i j n q : Nat) : (s.inc r hi lo i j n).rgn q = s.rgn q := rfl
@[simp] theorem State.rgn_untilDue (s : State) (t q : Nat) : (s.untilDue t).rgn q = s.rgn q := rfl
@[simp] theorem State.rgn_rgnLost (s : State) (r q : Nat) : (s.rgnLost r).rgn q = s.rgn q := rfl

/-- A region that begins to enter a lower state is there once the entry time has passed (Table 19-4). -/
theorem State.rgn_enterLow (s : State) (r : Nat) (p : RPow) :
    (s.enterLow r p).rgn r = { s.rgn r with entering := some (p, s.count + entryTime p) } := State.rgn_updRgn_same _ _ _

/-- A Gated region that enters no other state may wake at once: the window of wakes is not its own (R470). -/
theorem State.mayWake_gated {s : State} {r : Nat} (he : (s.rgn r).entering = none) (hp : (s.rgn r).pow = .gated) :
    s.mayWake r = true := by
  simp [State.mayWake, he, hp]
/-- The wake of a Gated region takes one count, and changes the region and the count of such wakes alone. -/
theorem State.beginWake_gated {s : State} {r : Nat} (hp : (s.rgn r).pow = .gated) :
    s.beginWake r = (s.updRgn r (fun x => { x with waking := some (s.count + 1), deferred := false })).inc
      rDIE_WAKES 31 16 (r / 128) := by
  simp [State.beginWake, hp, wakeTime, State.updRgn]

/-- The Shelves of a region that is lost read zero, and those of the others as before. -/
theorem State.get_shelf_rgnLost (s : State) (r a : Nat) :
    Memory.get (s.rgnLost r).shelf a = if a / 2 ^ 24 = r then 0 else Memory.get s.shelf a := by
  have h := Memory.get_filter_addr s.shelf (fun a => decide (a / 2 ^ 24 ≠ r)) a
  show Memory.get (s.shelf.filter _) a = _
  rw [h]; by_cases ha : a / 2 ^ 24 = r
  · rw [if_neg (by simpa using ha), if_pos ha]
  · rw [if_pos (by simpa using ha), if_neg ha]

section
variable {s : State} (die : Fin 8) (rgn : Fin 128)

/-- A deferred wake of a Gated region begins (R470). -/
theorem exec_deferredWake_gated (hlive : s.dead = false) (hd : (s.rgn (die.val * 128 + rgn.val)).deferred = true)
    (he : (s.rgn (die.val * 128 + rgn.val)).entering = none) (hp : (s.rgn (die.val * 128 + rgn.val)).pow = .gated) :
    exec (.deferredWake die rgn) s = .next (s.beginWake (die.val * 128 + rgn.val)) := by
  show execDeferredWake die rgn s = _
  simp [execDeferredWake, hd, he, hp, State.mayWake_gated he hp, State.live_up hlive]
/-- A wake completes at its time (R469). -/
theorem exec_regionActive_waking (hlive : s.dead = false) {due : Nat}
    (hw : (s.rgn (die.val * 128 + rgn.val)).waking = some due) : exec (.regionActive die rgn) s =
      .next ((s.untilDue due).updRgn (die.val * 128 + rgn.val)
        (fun x => { x with pow := .active, waking := none, idleAt := s.dueAt due })) := by
  show execRegionActive die rgn s = _
  simp only [execRegionActive, hw, State.live_up hlive, State.untilDue_count]
/-- An idle region begins to enter its idle state at the end of the idle delay (R54). -/
theorem exec_idleDelayExpiry_idle (hlive : s.dead = false) (ha : s.activeRgn (die.val * 128 + rgn.val) = true)
    (hb : s.rgnBusy (die.val * 128 + rgn.val) = false) (hh : s.rgnHeld (die.val * 128 + rgn.val) = false) :
    exec (.idleDelayExpiry die rgn) s =
      .next ((s.untilDue ((s.rgn (die.val * 128 + rgn.val)).idleAt + 16 * s.fld rDIE_SCHED_CFG 19 4 die.val)).enterLow
        (die.val * 128 + rgn.val) (s.idleState (die.val * 128 + rgn.val))) := by
  show execIdleDelayExpiry die rgn s = _
  simp [execIdleDelayExpiry, ha, hb, hh, State.live_up hlive]
/-- A low region begins to turn Off at the end of the off delay (R54). -/
theorem exec_offDelayExpiry_low (hlive : s.dead = false)
    (hp : (s.rgn (die.val * 128 + rgn.val)).pow = .gated ∨ (s.rgn (die.val * 128 + rgn.val)).pow = .sleep)
    (he : (s.rgn (die.val * 128 + rgn.val)).entering = none) (hw : s.wakingRgn (die.val * 128 + rgn.val) = false)
    (hh : s.rgnHeld (die.val * 128 + rgn.val) = false) (hd : s.fld rDIE_SCHED_CFG 31 24 die.val ≠ 0) :
    exec (.offDelayExpiry die rgn) s =
      .next ((s.untilDue ((s.rgn (die.val * 128 + rgn.val)).lowAt + s.fld rDIE_SCHED_CFG 31 24 die.val * 2 ^ 24)).enterLow
        (die.val * 128 + rgn.val) .off) := by
  show execOffDelayExpiry die rgn s = _
  simp [execOffDelayExpiry, hp, he, hw, hh, hd, State.live_up hlive]
/-- An off delay of zero never turns a region Off (R54). -/
theorem exec_offDelayExpiry_never (hlive : s.dead = false) (hd : s.fld rDIE_SCHED_CFG 31 24 die.val = 0) :
    exec (.offDelayExpiry die rgn) s = .next s := by
  show execOffDelayExpiry die rgn s = _
  simp [execOffDelayExpiry, hd, State.live_up hlive]
/-- The entry into a state ends at its time (R469). -/
theorem exec_regionEntryComplete_entering (hlive : s.dead = false) {p : RPow} {due : Nat}
    (he : (s.rgn (die.val * 128 + rgn.val)).entering = some (p, due)) : exec (.regionEntryComplete die rgn) s =
      let q := (s.untilDue due).updRgn (die.val * 128 + rgn.val)
        (fun x => { x with pow := p, entering := none, lowAt := s.dueAt due })
      .next (if p = .off then q.rgnLost (die.val * 128 + rgn.val) else q) := by
  show execRegionEntryComplete die rgn s = _
  simp only [execRegionEntryComplete, he, State.live_up hlive, State.untilDue_count]
end

/-! ### Threads that stop, stall and become Ready (R38, R40, R59, R203) -/

/-- Two threads that differ at most in whether they run and in what they wait for. -/
def Thread.SameRun (y x : Thread) : Prop :=
  { x with st := y.st, want := y.want, wait := y.wait, stall := y.stall, fetch := y.fetch, arrived := y.arrived } = y

theorem Thread.SameRun.eq {y x : Thread} (h : y.SameRun x) :
    { x with st := y.st, want := y.want, wait := y.wait, stall := y.stall, fetch := y.fetch, arrived := y.arrived } = y := h
theorem Thread.SameRun.refl (y : Thread) : y.SameRun y := rfl
theorem Thread.SameRun.trans {a b c : Thread} (h : a.SameRun b) (k : b.SameRun c) : a.SameRun c := by
  unfold Thread.SameRun at *; rw [← h, ← k]
theorem Thread.sameRun_stop (y : Thread) : y.SameRun y.stop := by
  unfold Thread.stop; split <;> rfl

theorem State.thr_setThr (s : State) (u t v k : Nat) (y : Thread) :
    (s.setThr u t y).thr v k = if v = u ∧ k = t ∧ t < 8 then y else s.thr v k := by
  by_cases hv : v = u
  · subst hv; simp [State.thr, State.setThr, Unt.thr_setThr]
  · rw [State.thr_setThr_other s y (.inl hv), if_neg (fun h => hv h.1)]
/-- The threads once those of some units have stopped. -/
theorem State.thr_stopped {s r : State} {p : Nat → Bool}
    (h : r.units = s.units.mapV (fun u (x : Unt) => if p u then { x with th := x.th.map Thread.stop } else x)) (v k : Nat) :
    r.thr v k = if p v then (s.thr v k).stop else s.thr v k := by
  have hr : Thread.reset.stop = Thread.reset := rfl
  simp only [State.thr, State.unt, Assoc.getD, h, Assoc.find?_mapV]
  cases s.units.find? v with
  | none => simp [hr]
  | some x =>
    simp only [Option.map_some, Option.getD_some]
    split
    · simp only [Unt.thr, Vector.toList_map, List.getD_eq_getElem?_getD, List.getElem?_map]
      cases x.th.toList[k]? <;> simp [hr]
    · rfl

/-- What an abort leaves alone: both memories, and of every thread all but whether it runs and what it waits for. -/
structure State.Keeps (s r : State) : Prop where
  larder : r.larder = s.larder
  shelf : r.shelf = s.shelf
  threads : ∀ v k, (s.thr v k).SameRun (r.thr v k)

theorem State.Keeps.sameMem {s r : State} (h : s.Keeps r) : s.SameMem r := State.sameMem_of_eq h.larder h.shelf
theorem State.Keeps.trans {s r q : State} (h : s.Keeps r) (k : r.Keeps q) : s.Keeps q :=
  ⟨k.larder.trans h.larder, k.shelf.trans h.shelf, fun v i => (h.threads v i).trans (k.threads v i)⟩
/-- A change of neither the memories nor the units. -/
theorem State.Keeps.of_eq {s r : State} (hl : r.larder = s.larder) (hs : r.shelf = s.shelf) (hu : r.units = s.units) : s.Keeps r :=
  ⟨hl, hs, fun v k => by unfold State.thr State.unt; rw [hu]; exact .refl _⟩
theorem State.Keeps.refl (s : State) : s.Keeps s := .of_eq rfl rfl rfl
theorem State.Keeps.foldl {α : Type} {f : State → α → State} (h : ∀ (s : State) a, s.Keeps (f s a)) (l : List α) (s : State) :
    s.Keeps (l.foldl f s) := by
  induction l generalizing s with
  | nil => exact .refl s
  | cons a l ih => exact (h s a).trans (ih (f s a))
theorem State.SameBut.keeps {s r : State} (h : s.SameBut r) : s.Keeps r :=
  .of_eq (by have := congrArg State.larder h.eq; exact this) (by have := congrArg State.shelf h.eq; exact this)
    (by have := congrArg State.units h.eq; exact this)
theorem State.keeps_raise (s : State) (e : Ev) : s.Keeps (s.raise e) := (s.sameBut_raise e).keeps
theorem State.keeps_inc (s : State) (r : RegDef) (hi lo i j n : Nat) : s.Keeps (s.inc r hi lo i j n) := .of_eq rfl rfl rfl
theorem State.keeps_updCtx (s : State) (c : Nat) (f : Ctx → Ctx) : s.Keeps (s.updCtx c f) := .of_eq rfl rfl rfl
theorem State.keeps_setUnt {s : State} {u : Nat} {x : Unt} (h : x.th = (s.unt u).th) : s.Keeps (s.setUnt u x) := by
  refine ⟨rfl, rfl, fun v k => ?_⟩
  by_cases hv : v = u
  · subst hv; rw [State.thr, State.thr, State.unt_setUnt_same, Unt.thr, Unt.thr, h]; exact .refl _
  · rw [State.thr, State.thr, State.unt_setUnt_other _ _ hv]; exact .refl _
theorem State.keeps_setThr {s : State} {u t : Nat} {y : Thread} (h : (s.thr u t).SameRun y) : s.Keeps (s.setThr u t y) := by
  refine ⟨rfl, rfl, fun v k => ?_⟩
  rw [State.thr_setThr]
  split
  · next e => obtain ⟨rfl, rfl, -⟩ := e; exact h
  · exact .refl _
theorem State.keeps_stopped {s r : State} {p : Nat → Bool} (hl : r.larder = s.larder) (hs : r.shelf = s.shelf)
    (hu : r.units = s.units.mapV (fun u (x : Unt) => if p u then { x with th := x.th.map Thread.stop } else x)) : s.Keeps r := by
  refine ⟨hl, hs, fun v k => ?_⟩
  rw [State.thr_stopped hu]
  split
  · exact Thread.sameRun_stop _
  · exact .refl _

/-! #### The fault queue and the abort of a kernel -/

theorem State.keeps_ringWrite (s : State) (c slot rec512 : Nat) : s.Keeps (s.ringWrite c slot rec512) := by
  unfold State.ringWrite
  dsimp only
  split
  · exact .refl s
  · split
    · next r h => exact (State.sameBut_qpSend h).keeps
    · exact ((s.keeps_updCtx _ _).trans (State.keeps_inc _ _ _ _ _ _ _)).trans (State.keeps_raise _ _)
theorem State.keeps_postOne (s : State) (u t : Nat) (delayed : Bool) : s.Keeps (s.postOne u t delayed) := by
  unfold State.postOne
  dsimp only
  split
  · refine State.Keeps.trans ?_ ((State.keeps_inc _ _ _ _ _ _ _).trans (State.keeps_ringWrite _ _ _ _))
    refine State.Keeps.trans (State.keeps_setThr (u := u) (t := t) ?_) (.of_eq rfl rfl rfl)
    rfl
  · exact .refl s
theorem State.keeps_closeRecs (s : State) (p : FRec → Bool) : s.Keeps (s.closeRecs p) := by
  unfold State.closeRecs State.postWaiting
  refine State.Keeps.trans ?_ (State.Keeps.foldl (fun s w => ?_) _ _)
  · exact .of_eq rfl rfl rfl
  split
  · exact s.keeps_postOne _ _ _
  · exact .refl s
/-- The abort of a kernel stops threads, closes records and changes nothing that a program reads (R59, R60). -/
theorem State.keeps_abortKernel (s : State) (c cause : Nat) (exc : Option Exc) : s.Keeps (s.abortKernel c cause exc) := by
  unfold State.abortKernel
  split
  · exact .refl s
  · dsimp only
    refine State.Keeps.trans ?_ (State.keeps_closeRecs _ _)
    exact State.keeps_stopped rfl rfl rfl
theorem State.keeps_takeExc (s : State) (u t code : Nat) (detail : Word) : s.Keeps (s.takeExc u t code detail) := by
  unfold State.takeExc
  refine State.Keeps.trans ?_ (State.keeps_abortKernel _ _ _ _)
  exact State.keeps_setThr rfl

/-! #### Settling (R40, R108) -/

/-- Settling a thread lets it go on past the instruction at which it waits, or moves it not at all. -/
theorem State.settleThread_cases (s : State) (u t : Nat) :
    s.Keeps (s.settleThread u t) ∨ s.settleThread u t = s.setThr u t (s.thr u t).leaveWait := by
  unfold State.settleThread
  dsimp only
  split
  · split
    · split
      · exact .inl (State.keeps_setThr rfl)
      · exact .inl (.refl s)
    · exact .inl (.refl s)
  · split
    · split
      · split
        · exact .inl (State.keeps_takeExc _ _ _ _ _)
        · exact .inr rfl
      · exact .inl (.refl s)
    · exact .inl (.refl s)
  · exact .inl (.refl s)
theorem State.keeps_katAbandon (s : State) (u : Nat) : s.Keeps (s.katAbandon u) := by
  unfold State.katAbandon
  dsimp only
  split
  · refine State.Keeps.trans ?_ (State.keeps_inc _ _ _ _ _ _ _)
    exact State.keeps_setUnt rfl
  · exact .refl s

/-- Two threads that differ at most in whether they run, in what they wait for and, when `past` allows it, in the pc, which then
stands past the instruction. -/
def Thread.SameOrPast (past : Prop) (y x : Thread) : Prop :=
  y.SameRun { x with pc := y.pc } ∧ (x.pc = y.pc ∨ past ∧ x.pc = y.pc + 4)
theorem Thread.SameRun.sameOrPast {y x : Thread} (h : y.SameRun x) (past : Prop) : Thread.SameOrPast past y x := by
  have hpc : x.pc = y.pc := by have := congrArg Thread.pc h.eq; exact this
  refine ⟨?_, .inl hpc⟩
  rw [← hpc]; exact h
theorem Thread.SameOrPast.reads {past : Prop} {y x : Thread} (h : Thread.SameOrPast past y x) :
    x.s = y.s ∧ x.v = y.v ∧ x.p = y.p ∧ x.ctx = y.ctx ∧ x.tid = y.tid ∧ x.group = y.group ∧ x.fpctl = y.fpctl ∧
      x.vflags = y.vflags ∧ x.loads = y.loads := by
  rw [← h.1.eq]; exact ⟨rfl, rfl, rfl, rfl, rfl, rfl, rfl, rfl, rfl⟩

/-- What settling leaves alone: both memories, and of every thread all but whether it runs, what it waits for and its pc, which
only a thread that `on` names moves past its instruction. -/
structure State.Settled (s r : State) (on : Nat → Nat → Prop) : Prop where
  larder : r.larder = s.larder
  shelf : r.shelf = s.shelf
  threads : ∀ v k, Thread.SameOrPast (on v k) (s.thr v k) (r.thr v k)

theorem State.Keeps.settled {s r : State} (h : s.Keeps r) (on : Nat → Nat → Prop) : s.Settled r on :=
  ⟨h.larder, h.shelf, fun v k => (h.threads v k).sameOrPast _⟩
/-- Settlings of different threads, one after the other. -/
theorem State.Settled.trans {s r q : State} {on on' : Nat → Nat → Prop} (h : s.Settled r on) (k : r.Settled q on')
    (apart : ∀ v i, on v i → ¬ on' v i) : s.Settled q (fun v i => on v i ∨ on' v i) := by
  refine ⟨k.larder.trans h.larder, k.shelf.trans h.shelf, fun v i => ?_⟩
  obtain ⟨hr, hpc⟩ := h.threads v i
  obtain ⟨kr, kpc⟩ := k.threads v i
  refine ⟨?_, ?_⟩
  · unfold Thread.SameRun at hr kr ⊢
    rw [← kr] at hr
    exact hr
  · rcases hpc with e | ⟨p, e⟩ <;> rcases kpc with e' | ⟨p', e'⟩
    · exact .inl (e'.trans e)
    · exact .inr ⟨.inr p', by rw [e', e]⟩
    · exact .inr ⟨.inl p, by rw [e', e]⟩
    · exact absurd p' (apart v i p)
theorem State.settled_settleThread (s : State) (u t : Nat) : s.Settled (s.settleThread u t) (fun v k => v = u ∧ k = t) := by
  rcases s.settleThread_cases u t with h | h
  · exact h.settled _
  · rw [h]
    refine ⟨rfl, rfl, fun v k => ?_⟩
    rw [State.thr_setThr]
    split
    · next e => obtain ⟨rfl, rfl, -⟩ := e; exact ⟨rfl, .inr ⟨⟨rfl, rfl⟩, rfl⟩⟩
    · exact (Thread.SameRun.refl _).sameOrPast _
theorem State.settled_settleThreads (u : Nat) (l : List Nat) (hl : l.Nodup) (s : State) :
    s.Settled (l.foldl (fun s t => s.settleThread u t) s) (fun v k => v = u ∧ k ∈ l) := by
  induction l generalizing s with
  | nil => exact (State.Keeps.refl s).settled _
  | cons t l ih =>
    obtain ⟨hn, hl⟩ := List.nodup_cons.mp hl
    have h := (s.settled_settleThread u t).trans (ih hl (s.settleThread u t)) (by rintro v i ⟨-, rfl⟩ ⟨-, hi⟩; exact hn hi)
    refine ⟨h.larder, h.shelf, fun v k => ?_⟩
    simpa [and_or_left] using h.threads v k
theorem State.settled_settle (s : State) (u : Nat) : s.Settled (s.settle u) (fun v _ => v = u) := by
  have h := (State.settled_settleThreads u (List.range 8) List.nodup_range s).trans
    ((State.keeps_katAbandon _ u).settled (fun _ _ => False)) (fun _ _ _ => id)
  refine ⟨h.larder, h.shelf, fun v k => ?_⟩
  obtain ⟨hr, hpc⟩ := h.threads v k
  exact ⟨hr, hpc.imp_right (And.imp_left (fun on => on.elim And.left False.elim))⟩

/-! ### Errors that are found (R155, R160, R415 to R417, R421 to R423) -/

/-- Two states that differ at most in the health of units and in what an event changes. -/
def State.SameButHealth (s r : State) : Prop :=
  { r with hlt := s.hlt, ctl := s.ctl, evr := s.evr, qps := s.qps, tx := s.tx } = s

theorem State.SameButHealth.eq {s r : State} (h : s.SameButHealth r) :
    { r with hlt := s.hlt, ctl := s.ctl, evr := s.evr, qps := s.qps, tx := s.tx } = s := h
theorem State.SameButHealth.refl (s : State) : s.SameButHealth s := rfl
theorem State.SameButHealth.trans {s r q : State} (h : s.SameButHealth r) (k : r.SameButHealth q) : s.SameButHealth q := by
  unfold State.SameButHealth at *; rw [← h, ← k]
theorem State.SameButHealth.units {s r : State} (h : s.SameButHealth r) : r.units = s.units := by
  have := congrArg State.units h.eq; exact this
theorem State.SameButHealth.keeps {s r : State} (h : s.SameButHealth r) : s.Keeps r :=
  .of_eq (by have := congrArg State.larder h.eq; exact this) (by have := congrArg State.shelf h.eq; exact this) h.units
theorem State.SameBut.health {s r : State} (h : s.SameBut r) : s.SameButHealth r := by
  have := congrArg (fun x : State => { x with hlt := s.hlt }) h.eq; exact this
theorem State.sameButHealth_updHlt (s : State) (f : Health → Health) : s.SameButHealth (s.updHlt f) := rfl
theorem State.sameButHealth_raise (s : State) (e : Ev) : s.SameButHealth (s.raise e) := (s.sameBut_raise e).health

theorem State.sameButHealth_observe (s : State) (u : Nat) : s.SameButHealth (s.observe u) := by
  unfold State.observe
  split
  · exact .refl s
  · exact ((State.sameButHealth_updHlt _ _).trans (State.sameButHealth_raise _ _)).trans (State.sameButHealth_updHlt _ _)
theorem State.sameButHealth_degrade (s : State) : s.SameButHealth s.degrade :=
  (State.sameButHealth_updHlt _ _).trans (State.sameButHealth_raise _ _)
theorem State.sameButHealth_suspectCheck (s : State) (u : Nat) : s.SameButHealth (s.suspectCheck u) := by
  unfold State.suspectCheck
  dsimp only
  split
  · exact .refl s
  · refine State.SameButHealth.trans ?_ (State.sameButHealth_updHlt _ _)
    split
    · exact ((State.sameButHealth_updHlt _ _).trans (State.sameButHealth_raise _ _)).trans (State.sameButHealth_degrade _)
    · exact (State.sameButHealth_updHlt _ _).trans (State.sameButHealth_raise _ _)
theorem State.sameButHealth_unitHurt (s : State) (u n : Nat) (inj : Bool) : s.SameButHealth (s.unitHurt u n inj) := by
  unfold State.unitHurt
  split
  · exact s.sameButHealth_observe u
  · exact ((State.sameButHealth_updHlt _ _).trans (State.sameButHealth_observe _ _)).trans (State.sameButHealth_suspectCheck _ _)
theorem State.sameButHealth_unitWorn (s : State) (u : Nat) (inj : Bool) : s.SameButHealth (s.unitWorn u inj) := by
  unfold State.unitWorn
  dsimp only
  generalize (if (s.hunit u).ceWin = s.count / 2 ^ 28 then (s.hunit u).ceN else 0) = n
  have worn : ∀ f, s.SameButHealth ((s.updHunit u f).suspectCheck u) := fun f =>
    (s.sameButHealth_updHlt _).trans (State.sameButHealth_suspectCheck _ _)
  split
  · exact .refl s
  · split
    · exact (worn _).trans (State.sameButHealth_observe _ _)
    · exact worn _

/-- The failure of a region aborts its kernel and changes nothing that a program reads. -/
theorem State.keeps_regionFail (s : State) (r : Nat) : s.Keeps (s.regionFail r) := by
  unfold State.regionFail
  dsimp only
  split
  · split
    · refine State.Keeps.trans ?_ (State.keeps_abortKernel _ _ _ _)
      exact .of_eq rfl rfl rfl
    · exact .of_eq rfl rfl rfl
  · exact .of_eq rfl rfl rfl
theorem State.keeps_unitFail (s : State) (u : Nat) : s.Keeps (s.unitFail u) := by
  unfold State.unitFail
  split
  · split
    · exact s.keeps_abortKernel _ _ _
    · exact .refl s
  · exact .refl s
theorem State.keeps_packageFail (s : State) : s.Keeps s.packageFail := by
  unfold State.packageFail
  split <;> exact .of_eq rfl rfl rfl
theorem State.keeps_lineLost (s : State) (key cause oper inj : Nat) : s.Keeps (s.lineLost key cause oper inj) := by
  unfold State.lineLost
  dsimp only
  split
  · exact .refl s
  · refine State.Keeps.trans ?_ (State.keeps_raise _ _)
    split <;> exact .of_eq rfl rfl rfl
theorem State.keeps_lineFixed (s : State) (key oper sym inj : Nat) : s.Keeps (s.lineFixed key oper sym inj) := by
  unfold State.lineFixed
  dsimp only
  refine State.Keeps.trans ?_ (State.keeps_raise _ _)
  split <;> exact .of_eq rfl rfl rfl

/-- Finding an error poisons, counts, reports and aborts, and changes no byte and no register. -/
theorem State.keeps_found (s : State) (f : Flaw) (oper cause : Nat) : s.Keeps (s.found f oper cause) := by
  unfold State.found
  dsimp only
  generalize f.spot = p
  cases p with
  | shelf w =>
    dsimp only
    split
    · refine State.Keeps.trans ?_ (State.sameButHealth_unitHurt _ _ _ _).keeps
      refine State.Keeps.trans ?_ (State.keeps_raise _ _)
      exact .of_eq rfl rfl rfl
    · exact (s.keeps_raise _).trans (State.sameButHealth_unitWorn _ _ _).keeps
  | line l =>
    dsimp only
    split
    · exact s.keeps_lineLost _ _ _ _
    · exact s.keeps_lineFixed _ _ _ _
  | cacheData r => exact s.keeps_raise _
  | cacheTag r =>
    dsimp only
    split
    · exact (s.keeps_raise _).trans (State.keeps_regionFail _ _)
    · exact s.keeps_raise _
  | unitData u => exact (s.keeps_raise _).trans (State.sameButHealth_unitHurt _ _ _ _).keeps
  | unitCtrl u =>
    exact ((s.keeps_raise _).trans (State.keeps_unitFail _ _)).trans (State.sameButHealth_unitHurt _ _ _ _).keeps
  | puppeteer cl => exact (s.keeps_raise _).trans (State.keeps_regionFail _ _)
  | die d => exact (s.keeps_raise _).trans (State.keeps_packageFail _)
  | hub => exact (s.keeps_raise _).trans (State.keeps_packageFail _)
  | linkData l => exact s.keeps_raise _
  | linkCtrl l => exact (s.keeps_raise _).trans (State.keeps_inc _ _ _ _ _ _ _)
theorem State.keeps_meet (s : State) (p : Spot) (oper cause : Nat) : s.Keeps (s.meet p oper cause) := by
  unfold State.meet
  split
  · exact .refl s
  · refine State.Keeps.trans ?_ (State.keeps_found _ _ _ _)
    exact .of_eq rfl rfl rfl
/-- A unit's data path found in error changes no unit (R415). -/
theorem State.units_meet_unitData (s : State) (u oper cause : Nat) : (s.meet (.unitData u) oper cause).units = s.units := by
  unfold State.meet
  split
  · rfl
  · next f hf =>
    unfold State.flaw? at hf
    have hp : f.spot = .unitData u := by simpa using List.find?_some hf
    simp only [State.found, hp, (State.sameButHealth_unitHurt _ _ _ _).units, State.raise_units]

/-! ### Reads through a region cache (R136, R417) -/

theorem State.keeps_homeRead (s : State) (key oper : Nat) : s.Keeps (s.homeRead key oper).2.2 := by
  refine State.Keeps.trans (r := s.countLine key) ?_ (State.keeps_meet _ _ _ _)
  exact .of_eq rfl rfl rfl
theorem State.keeps_cacheFill (s : State) (rgn key oper : Nat) : s.Keeps (s.cacheFill rgn key oper).2.2 := by
  have home := s.keeps_homeRead key oper
  unfold State.cacheFill
  dsimp only
  split
  · split
    · exact home.trans (.of_eq rfl rfl rfl)
    · exact home
  · exact home.trans (.of_eq rfl rfl rfl)
/-- A read of a line fills and drops copies and finds errors, and changes no byte and no register. -/
theorem State.keeps_cacheRead (s : State) (rgn key : Nat) (coherent : Bool) (oper : Nat) :
    s.Keeps (s.cacheRead rgn key coherent oper).2.2 := by
  unfold State.cacheRead
  dsimp only
  split
  · exact s.keeps_homeRead _ _
  · split
    · exact (s.keeps_meet _ _ _).trans (State.keeps_homeRead _ _ _)
    · refine (s.keeps_meet (.cacheTag rgn) oper 0).trans ?_
      generalize s.meet (.cacheTag rgn) oper = q
      split
      · split
        · split
          · refine ((q.keeps_meet (.cacheData rgn) oper 0).trans ?_).trans (State.keeps_cacheFill _ _ _ _)
            exact .of_eq rfl rfl rfl
          · refine (q.keeps_meet (.cacheData rgn) oper 0).trans ?_
            exact .of_eq rfl rfl rfl
        · refine State.Keeps.trans ?_ (State.keeps_cacheFill _ _ _ _)
          exact .of_eq rfl rfl rfl
      · exact q.keeps_cacheFill _ _ _

/-! ### The end of a load (R41, R105, R108, R415) -/

/-- The thread of a load that ends, without it. -/
def Thread.dropLoad (th : Thread) (id : Nat) : Thread := { th with loads := th.loads.filter (fun k => k.id ≠ id) }
/-- What a thread whose load `l` has ended holds: the value, or a mark when it still runs. -/
def Thread.withLoad (th : Thread) (l : Load) (x : Nat) (m : Option Mark) : Thread :=
  match m, l.reg with
  | none, .s i => th.setS i (loadValue l.sz x)
  | none, .v i => th.setV i (BitVec.ofNat 512 (mergeBytes l.mask l.zero (th.gv i).toNat x))
  | none, .p _ => th
  | some k, r => if th.st == .stopped || th.st == .empty then th else th.setMark r k
theorem Thread.withLoad_scalar {th : Thread} {l : Load} {i : Nat} (x : Nat) (h : l.reg = .s i) :
    th.withLoad l x none = th.setS i (loadValue l.sz x) := by
  simp only [Thread.withLoad, h]
theorem Thread.withLoad_vector {th : Thread} {l : Load} {i : Nat} (x : Nat) (h : l.reg = .v i) :
    th.withLoad l x none = th.setV i (BitVec.ofNat 512 (mergeBytes l.mask l.zero (th.gv i).toNat x)) := by
  simp only [Thread.withLoad, h]
theorem Thread.withLoad_mark {th : Thread} (l : Load) (x : Nat) (m : Mark) (hs : th.st ≠ .stopped) (he : th.st ≠ .empty) :
    th.withLoad l x (some m) = th.setMark l.reg m := by
  simp [Thread.withLoad, hs, he]
/-- The failure that a load leaves to FENCE, to END or to a thread that drains. -/
def State.noteLoad (s : State) (u t : Nat) (l : Load) (st : TState) (m : Option Mark) : State :=
  match m with
  | some k => if k.code ≠ 0x10 ∧ (l.reg = Reg.s 0 ∨ st = TState.draining) then s.noteFail u t none k else s
  | none => s
theorem State.noteLoad_draining (s : State) (u t : Nat) (l : Load) {m : Mark} (h : m.code ≠ 0x10) :
    s.noteLoad u t l .draining (some m) = s.noteFail u t none m := by
  simp [State.noteLoad, h]

section
variable {s : State} {u t id : Nat} {l : Load} (x : Nat)

/-- A load that the thread does not have ends nothing. -/
theorem State.endLoad_unknown (m : Option Mark) (hl : (s.thr u t).loads.find? (fun l => l.id = id) = none) :
    s.endLoad u t id x m = s := by
  unfold State.endLoad
  simp only [hl]
/-- A load whose data pass their parity, or that has failed before, ends with its value or its mark. -/
theorem State.endLoad_sound {m : Option Mark} (hl : (s.thr u t).loads.find? (fun l => l.id = id) = some l)
    (h : m.isNone = true → s.flawed (.unitData u) = false) :
    s.endLoad u t id x m =
      ((s.setThr u t (((s.thr u t).dropLoad id).withLoad l x m)).noteLoad u t l (s.thr u t).st m).settle u := by
  have hb : (m.isNone && s.flawed (.unitData u)) = false := by
    cases hm : m.isNone
    · rfl
    · rw [h hm]; rfl
  unfold State.endLoad
  simp only [hl, hb, Bool.false_eq_true, if_false]
  rfl
/-- Data that fail their parity mark the register as poisoned (R415). -/
theorem State.endLoad_flawed (hl : (s.thr u t).loads.find? (fun l => l.id = id) = some l)
    (h : s.flawed (.unitData u) = true) : s.endLoad u t id x none =
      (s.meet (.unitData u) (if l.sz = 7 then 3 else 2)).endLoad u t id x (some ⟨0x10, w64 l.addr⟩) := by
  have ht : (s.meet (.unitData u) (if l.sz = 7 then 3 else 2)).thr u t = s.thr u t := by
    unfold State.thr State.unt; rw [State.units_meet_unitData]
  rw [State.endLoad_sound x (m := some _) (by rw [ht]; exact hl) (fun hn => by cases hn), ht]
  unfold State.endLoad
  simp only [hl, h, Option.isNone_none, Bool.and_self, if_true]
  rfl
end

theorem State.sameMem_setThr (s : State) (u t : Nat) (y : Thread) : s.SameMem (s.setThr u t y) := State.sameMem_of_eq rfl rfl
theorem State.sameMem_settle (s : State) (u : Nat) : s.SameMem (s.settle u) :=
  State.sameMem_of_eq (s.settled_settle u).larder (s.settled_settle u).shelf
theorem State.sameMem_noteLoad (s : State) (u t : Nat) (l : Load) (st : TState) (m : Option Mark) :
    s.SameMem (s.noteLoad u t l st m) := by
  have noted (k : Mark) : s.SameMem (s.noteFail u t none k) := by
    unfold State.noteFail
    dsimp only
    split
    · exact (State.Keeps.refl s).sameMem
    · exact (State.Keeps.refl s).sameMem
    · exact (s.keeps_takeExc _ _ _ _).sameMem
    · exact s.sameMem_setThr _ _ _
  unfold State.noteLoad
  split
  · split
    · exact noted _
    · exact (State.Keeps.refl s).sameMem
  · exact (State.Keeps.refl s).sameMem
/-- The end of a load changes no byte of memory. -/
theorem State.sameMem_endLoad (s : State) (u t id x : Nat) (m : Option Mark) : s.SameMem (s.endLoad u t id x m) := by
  have sound {q : State} {l : Load} {m : Option Mark} (hl : (q.thr u t).loads.find? (fun l => l.id = id) = some l)
      (h : m.isNone = true → q.flawed (.unitData u) = false) : q.SameMem (q.endLoad u t id x m) := by
    rw [State.endLoad_sound x hl h]
    exact ((q.sameMem_setThr _ _ _).trans (State.sameMem_noteLoad _ _ _ _ _ _)).trans (State.sameMem_settle _ _)
  cases hl : (s.thr u t).loads.find? (fun l => l.id = id) with
  | none => rw [State.endLoad_unknown x m hl]; exact (State.Keeps.refl s).sameMem
  | some l =>
    by_cases h : m.isNone = true → s.flawed (.unitData u) = false
    · exact sound hl h
    · obtain ⟨hm, hf⟩ := Classical.not_imp.mp h
      rw [Option.isNone_iff_eq_none] at hm
      subst hm
      rw [State.endLoad_flawed x hl (by simpa using hf)]
      refine (s.keeps_meet (.unitData u) (if l.sz = 7 then 3 else 2) 0).sameMem.trans ?_
      refine sound (l := l) ?_ (fun hn => by cases hn)
      unfold State.thr State.unt at hl ⊢
      rw [State.units_meet_unitData]; exact hl

theorem State.onlyUnit_setThr (s : State) (u t : Nat) (y : Thread) : s.OnlyUnit (s.setThr u t y) u :=
  ⟨rfl, fun _ hv => s.unt_updUnt_other _ hv⟩
@[simp] theorem State.unt_setThr (s : State) (u t : Nat) (y : Thread) : (s.setThr u t y).unt u = (s.unt u).setThr t y :=
  s.unt_updUnt_same _ _
/-- A load that leaves no failure behind changes its thread alone, and the threads of its unit are settled. -/
theorem State.endLoad_ends {s : State} {u t id x : Nat} {l : Load} {m : Option Mark} {y : Thread}
    (hl : (s.thr u t).loads.find? (fun l => l.id = id) = some l) (h : m.isNone = true → s.flawed (.unitData u) = false)
    (hm : ∀ k, m = some k → k.code = 0x10) (hy : ((s.thr u t).dropLoad id).withLoad l x m = y) :
    ∃ q : State, s.endLoad u t id x m = q.settle u ∧ s.OnlyUnit q u ∧ q.unt u = (s.unt u).setThr t y := by
  refine ⟨s.setThr u t y, ?_, s.onlyUnit_setThr u t y, s.unt_setThr u t y⟩
  rw [State.endLoad_sound x hl h, hy]
  cases m with
  | none => rfl
  | some k => rw [State.noteLoad, if_neg (fun hk => hk.1 (hm k rfl))]

/-! ### Loads that return (R41, R136, R161) -/

theorem bits_byte_field (x a n : Nat) (hn : 0 < n) : bits x (8 * a + 8 * n - 1) (8 * a) = x / 2 ^ (8 * a) % 2 ^ (8 * n) := by
  rw [bits, Nat.shiftRight_eq_div_pow]; congr 2; omega
theorem szBytes_pos (sz : Nat) : 0 < szBytes sz := by
  unfold szBytes; split
  · decide
  · exact Nat.two_pow_pos _
/-- A load of the Larder outside coherent segments ends with the bytes of the line that the region's cache or the home serves,
or with a mark when the line is poisoned. -/
theorem State.loadServe_larder {s : State} {u t key : Nat} {l : Load} (ht : s.translate (s.thr u t).ctx l.addr = .larder key)
    (hc : s.inCoherent (s.thr u t).ctx l.addr = false) :
    s.loadServe u t l =
      let c := s.cacheRead (rgnOf u) key false (if l.sz = 7 then 3 else 2)
      let x := if l.sz = 7 then c.1 else c.1 / 2 ^ (8 * (key % 64)) % 2 ^ (8 * szBytes l.sz)
      if c.2.1 then (c.2.2.notePoisonRead key).endLoad u t l.id x (some ⟨0x10, w64 l.addr⟩) else c.2.2.endLoad u t l.id x none := by
  unfold State.loadServe
  dsimp only
  rw [ht, hc]
  dsimp only
  rw [bits_byte_field _ _ _ (szBytes_pos _)]
  generalize s.cacheRead (rgnOf u) key false (if l.sz = 7 then 3 else 2) = c
  obtain ⟨v, poison, q⟩ := c
  cases poison <;> rfl
/-- Outside coherent segments no access opens a transaction at the home (Table 12-5). -/
theorem State.homeOpen_incoherent {s : State} {c a : Nat} (h : s.inCoherent c a = false) (comp n : Nat) (wr : Bool) (act : HAct) :
    s.homeOpen c comp [(a, n, wr)] act = none := by
  have hl : s.snoopLines c a n wr = [] := by
    simp [State.snoopLines, State.cohLines, h]
  simp [State.homeOpen, hl]
/-- LOAD_RETURN of a load that the engine has taken and that is at home here, its Cellar sectors there and its line with no
agent. -/
theorem exec_loadReturn_here {s : State} (u : BitVec 20) (t : BitVec 3) {k : Nat} {l : Load} (hlive : s.dead = false)
    (hu : s.unitOk u.toNat = true) (hl : (s.thr u.toNat t.toNat).loads[k]? = some l) (hm : l.rmt = none)
    (hr : l.remote = false) (hq : (s.unt u.toNat).queued t.toNat l.id = false)
    (hc : s.inCoherent (s.thr u.toNat t.toNat).ctx l.addr = false)
    (hx : s.extentSectors (s.thr u.toNat t.toNat).ctx l.addr l.bytes = [])
    (ha : s.actOpen (.rmt u.toNat t.toNat l.id) = false) :
    exec (.loadReturn u t k) s = .next (s.loadServe u.toNat t.toNat l) := by
  have hw : l.writes = false := by simp [Load.writes, hm]
  have hs : s.sectorsHere (s.thr u.toNat t.toNat).ctx l.addr l.bytes = true := by simp [State.sectorsHere, hx]
  obtain ⟨hk, he⟩ := List.getElem?_eq_some_iff.mp hl
  refine (State.onUnit_up hlive hu).trans (congrArg _ ?_)
  unfold State.loadReturn
  simp only [List.drop_eq_getElem_cons hk, he, hq, hw, hr, hs, ha, hm, State.homeOpen_incoherent hc, Bool.false_and, Bool.or_false,
    Bool.not_true, Bool.false_eq_true, if_false, Option.isSome_none]

/-! ### Waits and requests that expire (R99, R104) -/

/-- No test runs, so none is abandoned. -/
theorem State.katAbandon_none {s : State} {u : Nat} (h : (s.unt u).kat = none) : s.katAbandon u = s := by
  simp [State.katAbandon, h]
/-- WAITE_TIMEOUT at the expiry of a WAITE (R104). -/
theorem exec_waiteTimeout_armed {s : State} (u : BitVec 20) (t : BitVec 3) {o d e : Nat} {val : Word} (hlive : s.dead = false)
    (hu : s.unitOk u.toNat = true) (hst : (s.thr u.toNat t.toNat).st = .waiting)
    (hw : (s.thr u.toNat t.toNat).wait = some (.waite o val d (some e))) (hk : (s.unt u.toNat).kat = none) :
    exec (.waiteTimeout u t) s =
      .next ((s.untilDue e).setThr u.toNat t.toNat ((s.thr u.toNat t.toNat).leaveWait.setS d 1)) := by
  refine (State.onUnit_up hlive hu).trans (congrArg _ ?_)
  simp only [hst, hw]
  refine State.katAbandon_none ?_
  rw [State.updThr, State.unt_setThr]
  exact hk
/-- REMOTE_TIMEOUT at the expiry of an outstanding request (R99). -/
theorem exec_remoteTimeout_armed {s : State} (die : Fin 8) (tag : BitVec 16) {q : OutReq} {e : Nat}
    (hq : s.gly.reqs.find? (die.val * 2 ^ 16 + tag.toNat) = some q) (he : q.expiry = some e) :
    exec (.remoteTimeout die tag) s = .next (s.reqExpire (die.val * 2 ^ 16 + tag.toNat) q e) := by
  show execRemoteTimeout die tag s = _
  simp only [execRemoteTimeout, hq, he]

end Sys2Proof.Machine

section

open Sys2Proof Sys2Proof.Machine

/-- Refutes O4: a package in the recovery loader counts as down, but its Ethernet port 0 is live (R466), and FRAME_RECEIVE there
counts an oversize frame in ETH_RX_ERR. -/
theorem not_packageThatIsDownRunsNothing : ¬ Obligations.PackageThatIsDownRunsNothing := by
  intro h
  obtain ⟨-, -, -, -, -, -, -, -, -, frames, -⟩ := h inLoader rfl
  have same : inLoader.rxErr 0 0 = inLoader :=
    Host.Outcome.next.inj (exec_frameReceive_inLoader.symm.trans (frames 0 oversize))
  obtain ⟨before, after⟩ := fld_rxErr_inLoader
  rw [same, before] at after
  exact absurd after (by decide)

/-- Settles O21: what settling keeps, what the end of a load leaves, and the two timeouts, each by its own law. That the next load
to return meets a data-path error is the model's choice (log entry 72). -/
theorem valuesReturnAndWaitsExpire : Obligations.ValuesReturnAndWaitsExpire := by
  refine ⟨fun s u v t => ?settles, ⟨fun u t k key l s hlive hu hl hm hr hq ht hc hx ha => ?returns, fun s u t id x l _ hl => ?ends⟩,
    fun u t o d e val s hlive hu hst hw hk => ?waite, fun die tag q e s hq he => ?remote⟩
  case settles =>
    have h := s.settled_settle u
    obtain ⟨hs, hv, hp, hc, ht, hg, hf, hx, hl⟩ := (h.threads v t).reads
    exact ⟨s.sameMem_settle u, hs, hv, hp, hc, ht, hg, hf, hx, hl, fun _ => (h.threads v t).2.imp_right And.right⟩
  case returns =>
    have step := exec_loadReturn_here u t hlive hu hl hm hr hq hc hx ha
    rw [State.loadServe_larder ht hc] at step
    have mem := (s.keeps_cacheRead (rgnOf u.toNat) key false (if l.sz = 7 then 3 else 2)).sameMem
    refine ⟨fun hp => ⟨_, step, ?_⟩, fun hp => ⟨_, step, ?_⟩⟩
    · dsimp only; rw [hp, if_neg Bool.false_ne_true]
      exact ⟨rfl, mem.trans (State.sameMem_endLoad _ _ _ _ _ _)⟩
    · dsimp only; rw [hp, if_pos rfl]
      refine ⟨mem.trans ?_, rfl⟩
      exact (State.keeps_inc _ _ _ _ _ _ _).sameMem.trans (State.sameMem_endLoad _ _ _ _ _ _)
  case ends =>
    refine ⟨fun hf => ⟨fun i hi => ?_, fun i hi => ?_⟩, State.endLoad_flawed x hl, fun a hw => ?_, fun m hm hd => ?_⟩
    · exact State.endLoad_ends hl (fun _ => hf) (by simp) (Thread.withLoad_scalar x hi)
    · exact State.endLoad_ends hl (fun _ => hf) (by simp) (Thread.withLoad_vector x hi)
    · have running : ((s.thr u t).dropLoad id).st = .waiting := hw
      exact State.endLoad_ends hl (by simp) (by simp) (Thread.withLoad_mark l x _ (by simp [running]) (by simp [running]))
    · have running : ((s.thr u t).dropLoad id).st = .draining := hd
      have draining : (s.thr u t).st = .draining := hd
      rw [State.endLoad_sound x hl (by simp), draining, State.noteLoad_draining _ _ _ _ hm,
        Thread.withLoad_mark l x m (by simp [running]) (by simp [running])]
      rfl
  case waite =>
    refine ⟨_, exec_waiteTimeout_armed u t hlive hu hst hw hk, ?_, ?_, ?_⟩
    · rw [State.setThr_count, State.untilDue_count]
    · exact (s.sameMem_untilDue e).trans (State.sameMem_setThr _ _ _ _)
    · exact State.unt_setThr _ _ _ _
  case remote =>
    refine ⟨{ s.untilDue e with gly := { s.gly with
      reqs := s.gly.reqs.del (die.val * 2 ^ 16 + tag.toNat)
      timed := s.gly.timed.put (die.val * 2 ^ 16 + tag.toNat) (s.locator q.unit) } }, s.untilDue_count e, rfl,
      s.untilDue_units e, s.sameMem_untilDue e, ?_⟩
    exact exec_remoteTimeout_armed die tag hq he

/-- Settles O24: each command by the law of what it begins or ends. -/
theorem regionsWakeAndGoDown : Obligations.RegionsWakeAndGoDown := by
  intro die rgn s hlive
  refine ⟨fun hd he hp => ?wakes, fun due hw => ?active, fun ha hb hh => ?idle, fun hp he hw hh => ⟨fun hd => ?off, ?never⟩,
    fun p due he => ?entered⟩
  case wakes =>
    refine ⟨_, exec_deferredWake_gated die rgn hlive hd he hp, ?_⟩
    rw [State.beginWake_gated hp]
    exact ⟨rfl, State.sameMem_of_eq rfl rfl, by simp, by simp⟩
  case active =>
    exact ⟨_, exec_regionActive_waking die rgn hlive hw, State.untilDue_count _ _, rfl,
      (State.sameMem_untilDue _ _).trans (State.sameMem_updRgn _ _ _), by simp⟩
  case idle =>
    exact ⟨_, exec_idleDelayExpiry_idle die rgn hlive ha hb hh, State.untilDue_count _ _, rfl,
      (State.sameMem_untilDue _ _).trans (State.sameMem_enterLow _ _ _), by simp [State.rgn_enterLow]⟩
  case off =>
    exact ⟨_, exec_offDelayExpiry_low die rgn hlive hp he hw hh hd, State.untilDue_count _ _,
      (State.sameMem_untilDue _ _).trans (State.sameMem_enterLow _ _ _),
      _, by rw [State.rgn_enterLow]⟩
  case never => exact exec_offDelayExpiry_never die rgn hlive
  case entered =>
    refine ⟨_, exec_regionEntryComplete_entering die rgn hlive he, ?_⟩
    by_cases hp : p = .off
    · rw [if_pos hp]
      refine ⟨rfl, State.untilDue_count _ _, by simp, fun hn => absurd hp hn, fun _ => ⟨fun a ha => ?_, fun a ha => ?_⟩⟩
      · rw [State.get_shelf_rgnLost, if_pos ha]
      · rw [State.get_shelf_rgnLost, if_neg ha]; rfl
    · rw [if_neg hp]
      exact ⟨rfl, State.untilDue_count _ _, by simp, fun _ => ⟨rfl, rfl⟩, fun h => absurd h hp⟩

end

namespace Sys2Proof.Machine

/-! ### Numbers and Shelf reads of the matrix engine (R120, R155) -/

/-- A `w`-bit signed value survives its two's complement. -/
theorem toS_ofS {w : Nat} {v : Int} (hw : 0 < w) (hlo : -2 ^ (w - 1) ≤ v) (hhi : v < 2 ^ (w - 1)) : toS w (ofS w v) = v := by
  obtain ⟨k, rfl⟩ : ∃ k, w = k + 1 := ⟨w - 1, by omega⟩
  have hpow : (2 : Int) ^ (k + 1) = 2 * 2 ^ k := Int.pow_succ' 2 k
  have hcast : ((2 ^ k : Nat) : Int) = 2 ^ k := Int.natCast_pow 2 k
  simp only [toS, ofS, Nat.add_sub_cancel, hpow] at *
  generalize (2 : Int) ^ k = p at *
  by_cases hv : 0 ≤ v
  · rw [Int.emod_eq_of_lt hv (by omega), if_pos (by omega)]
    omega
  · have hmod : v % (2 * p) = v + 2 * p := by
      rw [← Int.add_emod_right, Int.emod_eq_of_lt (by omega) (by omega)]
    rw [hmod, if_neg (by omega)]
    omega

/-- An error found in a word of a Shelf changes no unit (R155). -/
theorem State.units_meet_shelf (s : State) (w oper cause : Nat) : (s.meet (.shelf w) oper cause).units = s.units := by
  unfold State.meet
  split
  · rfl
  · next f hf =>
    unfold State.flaw? at hf
    have hp : f.spot = .shelf w := by simpa using List.find?_some hf
    simp only [State.found, hp]
    split
    · simp only [(State.sameButHealth_unitHurt _ _ _ _).units, State.raise_units]
    · simp only [(State.sameButHealth_unitWorn _ _ _).units, State.raise_units]
/-- Nor do the errors found in the words of an extent. -/
theorem State.units_shelfMeet (s : State) (u off n oper : Nat) : (s.shelfMeet u off n oper).units = s.units := by
  unfold State.shelfMeet shelfSpots State.meetAll
  induction List.range (if n = 0 then 0 else (off + n - 1) / 8 - off / 8 + 1) generalizing s with
  | nil => rfl
  | cons i l ih =>
    rw [List.map_cons, List.foldl_cons, ih, State.units_meet_shelf]
@[simp] theorem State.unt_shelfMeet (s : State) (u off n oper v : Nat) : (s.shelfMeet u off n oper).unt v = s.unt v := by
  simp only [State.unt, State.units_shelfMeet]

/-! ### Changes of one unit -/

theorem State.OnlyUnit.trans {s r q : State} {u : Nat} (h : s.OnlyUnit r u) (k : r.OnlyUnit q u) : s.OnlyUnit q u := by
  obtain ⟨hr, hru⟩ := h
  obtain ⟨hq, hqu⟩ := k
  refine ⟨?_, fun v hv => (hqu v hv).trans (hru v hv)⟩
  rw [← hr, ← hq]
theorem State.onlyUnit_setUnt (s : State) (u : Nat) (x : Unt) : s.OnlyUnit (s.setUnt u x) u :=
  ⟨rfl, fun _ hv => s.unt_setUnt_other x hv⟩
theorem State.onlyUnit_updUnt (s : State) (u : Nat) (f : Unt → Unt) : s.OnlyUnit (s.updUnt u f) u := s.onlyUnit_setUnt u _
theorem State.onlyUnit_updAcc (s : State) (u n : Nat) (f : Acc → Acc) : s.OnlyUnit (s.updAcc u n f) u := s.onlyUnit_updUnt u _
theorem State.onlyUnit_updThr (s : State) (u t : Nat) (f : Thread → Thread) : s.OnlyUnit (s.updThr u t f) u :=
  s.onlyUnit_setThr u t _

@[simp] theorem State.unt_updAcc (s : State) (u n : Nat) (f : Acc → Acc) :
    (s.updAcc u n f).unt u = { s.unt u with acc := (s.unt u).acc.setIfInBounds n (f ((s.unt u).accu n)) } :=
  s.unt_updUnt_same u _
/-- A stored accumulator is read back. -/
theorem Unt.accu_setAcc (x : Unt) {n : Nat} (a : Acc) (hn : n < 4) :
    ({ x with acc := x.acc.setIfInBounds n a } : Unt).accu n = a := by
  simp [Unt.accu, Vector.toList_setIfInBounds, List.getD_eq_getElem?_getD, hn]
theorem State.accu_updAcc (s : State) (u : Nat) {n : Nat} (f : Acc → Acc) (hn : n < 4) :
    ((s.updAcc u n f).unt u).accu n = f ((s.unt u).accu n) := by
  rw [State.unt_updAcc, Unt.accu_setAcc _ _ hn]
/-- A change of a thread is none of the accumulators. -/
@[simp] theorem State.accu_updThr (s : State) (u t n : Nat) (f : Thread → Thread) :
    ((s.updThr u t f).unt u).accu n = (s.unt u).accu n := by
  rw [State.updThr, State.unt_setThr]; rfl

/-! ### Releases and claims (R43) -/

theorem State.onlyUnit_releaseAcc (s : State) (u n : Nat) : s.OnlyUnit (s.releaseAcc u n) u := by
  unfold State.releaseAcc
  split
  · exact (s.onlyUnit_updAcc u n _).trans (State.onlyUnit_updThr _ u _ _)
  · exact s.onlyUnit_updAcc u n _
/-- A released accumulator is held by the next claimant, or by none. -/
theorem State.accu_releaseAcc (s : State) (u : Nat) {n : Nat} (hn : n < 4) :
    (((s.releaseAcc u n).unt u).accu n).releasing = false ∧
      (((s.releaseAcc u n).unt u).accu n).holder = (s.unt u).nextClaimant n := by
  unfold State.releaseAcc
  split
  next t ht => simp only [State.accu_updThr, State.accu_updAcc _ _ _ hn, ht, and_self]
  next ht => simp only [State.accu_updAcc _ _ _ hn, ht, and_self]

/-! ### The matrix engine (R88 to R92, R117 to R124) -/

/-- The sums of an accumulator's block with the products of one MMA, element by element (R117). -/
def Acc.sumsWith (a : Acc) (ta tb : Tile) : List Blk :=
  (List.range 256).map (fun e => (a.sums.getD (16 * (e / 16) + e % 16) Blk.zero).addMma ta tb (e / 16) (e % 16))
/-- The elements of an accumulator once its block is closed (R120). -/
def Acc.closed (a : Acc) (fa fb : Nat) : List Nat :=
  (List.range 256).map (fun e => (a.sums.getD e Blk.zero).close fa fb (a.elem e))

/-- The reads of an MMA: its two tiles, then the scales. -/
def State.mmaMeet (s : State) (u : Nat) (o : MOp) : State :=
  ((s.shelfMeet u o.a 1024 4).shelfMeet u o.b 1024 4).shelfMeet u o.c (scaleBytes o.fa + scaleBytes o.fb) 4
@[simp] theorem State.unt_mmaMeet (s : State) (u : Nat) (o : MOp) (v : Nat) : (s.mmaMeet u o).unt v = s.unt v := by
  simp only [State.mmaMeet, State.unt_shelfMeet]

/-- An MMA of 8-bit or 4-bit operands without poison finds the errors of what it reads and adds its products. -/
theorem State.mmaRun_narrow {s : State} {u : Nat} {o : MOp} (hw : opWidth o.fa ≠ 16) (ha : s.rowsPoison u o.a 1024 = false)
    (hb : s.rowsPoison u o.b 1024 = false) (hc : s.rowsPoison u o.c (scaleBytes o.fa + scaleBytes o.fb) = false) :
    s.mmaRun u o = (s.mmaMeet u o).updAcc u o.acc (fun a => { a with
      fmt := mmaFmt o.fa
      sums := a.sumsWith (s.tileAt u o.a o.fa o.c) (s.tileAt u o.b o.fb (o.c + scaleBytes o.fa)) }) := by
  simp only [State.mmaRun, ha, hb, hc, if_neg hw, Bool.or_false, coords, List.map_map]
  rfl

section
variable {s : State} (u : BitVec 20) (hlive : s.dead = false) (hu : s.unitOk u.toNat = true)
include hlive hu

/-- MATRIX_ENGINE_EXECUTE of a free engine with an entry in its queue. -/
theorem exec_matrixEngineExecute_head {o : MOp} {l : List MOp} (hrun : (s.unt u.toNat).mrun = none)
    (hq : (s.unt u.toNat).mq = o :: l) :
    exec (.matrixEngineExecute u) s =
      let q := s.setUnt u.toNat { s.unt u.toNat with mq := l, mrun := some o }
      .next ((if o.kind = 0 then q.mmaRun u.toNat o else q).settle u.toNat) := by
  refine (State.onUnit_up hlive hu).trans (congrArg _ ?_)
  simp only [State.matrixStart, hrun, hq]
/-- MATRIX_OP_COMPLETE of an engine in which nothing runs. -/
theorem exec_matrixOpComplete_idle (hrun : (s.unt u.toNat).mrun = none) : exec (.matrixOpComplete u) s = .next s := by
  refine (State.onUnit_up hlive hu).trans (congrArg _ ?_)
  simp only [State.matrixDone, hrun]

/-- MATRIX_OP_COMPLETE of an MMA that closes its block (R120). -/
theorem exec_matrixOpComplete_mma {o : MOp} (hrun : (s.unt u.toNat).mrun = some o) (hk : o.kind = 0) (hc : o.cont = false)
    (hw : opWidth o.fa ≠ 16) :
    exec (.matrixOpComplete u) s =
      .next (((s.updUnt u.toNat (fun x => { x with mrun := none })).updAcc u.toNat o.acc (fun a => { a with
        sums := [], elems := a.closed o.fa o.fb })).settle u.toNat) := by
  refine (State.onUnit_up hlive hu).trans (congrArg _ ?_)
  simp only [State.matrixDone, hrun, hk, hc, hw, Bool.false_eq_true, or_self, if_false]
  rfl
/-- MATRIX_OP_COMPLETE of an MST (R89). -/
theorem exec_matrixOpComplete_mst {o : MOp} (hrun : (s.unt u.toNat).mrun = some o) (hk : o.kind = 1) :
    exec (.matrixOpComplete u) s =
      .next (((s.updUnt u.toNat (fun x => { x with mrun := none })).shelfWrite u.toNat o.a
        (mstRows ((s.unt u.toNat).accu o.acc) o) ((s.unt u.toNat).accu o.acc).poison).settle u.toNat) := by
  refine (State.onUnit_up hlive hu).trans (congrArg _ ?_)
  simp only [State.matrixDone, hrun, hk]
/-- MATRIX_OP_COMPLETE of an AZERO (R91, R118). -/
theorem exec_matrixOpComplete_azero {o : MOp} (hrun : (s.unt u.toNat).mrun = some o) (hk : o.kind = 2) :
    exec (.matrixOpComplete u) s =
      .next (((s.updUnt u.toNat (fun x => { x with mrun := none })).updAcc u.toNat o.acc (fun a => { a with
        elems := [], fmt := 0, sums := [], poison := false })).settle u.toNat) := by
  refine (State.onUnit_up hlive hu).trans (congrArg _ ?_)
  simp only [State.matrixDone, hrun, hk]
/-- MATRIX_OP_COMPLETE of an AREL (R91). -/
theorem exec_matrixOpComplete_arel {o : MOp} (hrun : (s.unt u.toNat).mrun = some o) (hk : o.kind = 3) :
    exec (.matrixOpComplete u) s =
      .next (((s.updUnt u.toNat (fun x => { x with mrun := none })).releaseAcc u.toNat o.acc).settle u.toNat) := by
  refine (State.onUnit_up hlive hu).trans (congrArg _ ?_)
  simp only [State.matrixDone, hrun, hk]
end

/-! ### The one rounding of a block (R120 to R122) -/

/-- An integer block adds its sum and saturates at 32 bits (R120). -/
theorem Blk.toS_close_int {b : Blk} {fa : Nat} (fb acc : Nat) (hi : opInt fa = true) :
    toS 32 (b.close fa fb acc) = max (-2 ^ 31) (min (2 ^ 31 - 1) (toS 32 acc + b.sum / 2 ^ 320)) := by
  simp only [Blk.close, if_pos hi]
  generalize toS 32 acc + b.sum / 2 ^ 320 = v
  exact toS_ofS (by decide) (by omega) (by omega)
/-- A floating block that has no value gives the quiet NaN (R121, R122). -/
theorem Blk.close_qnan {b : Blk} {fa fb : Nat} (acc : Nat) (hi : opInt fa = false)
    (h : b.nan = true ∨ (b.pinf = true ∧ b.ninf = true) ∨ b.tooWide fa fb = true) : b.close fa fb acc = fp32.qnan := by
  simp only [Blk.close, hi, Bool.false_eq_true, if_false, if_pos h]
/-- An exact zero sum leaves the element (R122). -/
theorem Blk.close_zero_sum {b : Blk} {fa fb : Nat} (acc : Nat) (hi : opInt fa = false) (hn : b.nan = false) (hp : b.pinf = false)
    (hm : b.ninf = false) (hw : b.tooWide fa fb = false) (hs : b.sum = 0) : b.close fa fb acc = acc := by
  simp [Blk.close, hi, hn, hp, hm, hw, hs]

end Sys2Proof.Machine

section

open Sys2Proof Sys2Proof.Machine

/-- Settles O16: each operation by what the engine does with it, and the closing of a block by its three cases. -/
theorem matrixEngineTakesCompletesAndRoundsOnce : Obligations.MatrixEngineTakesCompletesAndRoundsOnce := by
  refine ⟨fun u s hlive hu => ⟨fun o l hrun hq hk => ?take, fun o l hrun hq hk hw ha hb hc => ?mmaStarts,
      fun o hrun hk hcont hw => ?mma, fun o hrun hk => ?mst, fun o hrun hk => ?azero, fun o hrun hk hn => ?arel, ?idle⟩,
    fun b fa fb acc _ => ⟨b.toS_close_int fb acc, b.close_qnan acc, b.close_zero_sum acc⟩⟩
  case take =>
    exact ⟨_, exec_matrixEngineExecute_head u hlive hu hrun hq, _, congrArg (State.settle · _) (if_neg hk),
      s.onlyUnit_setUnt _ _, s.unt_setUnt_same _ _⟩
  case mmaStarts =>
    refine ⟨_, exec_matrixEngineExecute_head u hlive hu hrun hq, _,
      congrArg (State.settle · _) ((if_pos hk).trans (State.mmaRun_narrow hw ha hb hc)), State.onlyUnit_updAcc _ _ _ _, ?_⟩
    rw [State.unt_updAcc, State.unt_mmaMeet, State.unt_setUnt_same]
    rfl
  case mma =>
    refine ⟨_, exec_matrixOpComplete_mma u hlive hu hrun hk hcont hw, _, rfl,
      (s.onlyUnit_updUnt _ _).trans (State.onlyUnit_updAcc _ _ _ _), ?_⟩
    rw [State.unt_updAcc, State.unt_updUnt_same]
    rfl
  case mst =>
    exact ⟨_, exec_matrixOpComplete_mst u hlive hu hrun hk, _, rfl, s.onlyUnit_updUnt _ _, s.unt_updUnt_same _ _⟩
  case azero =>
    refine ⟨_, exec_matrixOpComplete_azero u hlive hu hrun hk, _, rfl,
      (s.onlyUnit_updUnt _ _).trans (State.onlyUnit_updAcc _ _ _ _), ?_⟩
    rw [State.unt_updAcc, State.unt_updUnt_same]
    rfl
  case arel =>
    obtain ⟨hrel, hhold⟩ := (s.updUnt u.toNat (fun x => { x with mrun := none })).accu_releaseAcc u.toNat hn
    refine ⟨_, exec_matrixOpComplete_arel u hlive hu hrun hk, _, rfl,
      (s.onlyUnit_updUnt _ _).trans (State.onlyUnit_releaseAcc _ _ _), hrel, hhold.trans ?_⟩
    rw [State.unt_updUnt_same]
    rfl
  case idle => exact exec_matrixOpComplete_idle u hlive hu

end
